-- ==== Sys2Proof/Word.lean ====
section
/-! DEFINITION. Bytes of the links, and tables of a fixed number of like records.

The part keeps tables of 6 channels, 48 points, 32 lot slots, 65 alarm slots and so on (Table 0.1 of
spec/00_scope.md). A table is a core `Vector`, read by `Tbl.get` and written by `Tbl.put`.
-/

namespace Sys2Proof

/-- One byte of a frame (R179). -/
abbrev Byte := BitVec 8

/-- A table of `n` records of one kind. -/
abbrev Tbl (α : Type) (n : Nat) := Vector α n

/-- The record at place `i`. -/
def Tbl.get {α : Type} {n : Nat} (t : Tbl α n) (i : Fin n) : α := Vector.get t i

/-- The table with the record at place `i` replaced. -/
def Tbl.put {α : Type} {n : Nat} (t : Tbl α n) (i : Fin n) (a : α) : Tbl α n :=
  Vector.set t i.val a i.isLt

/-- The table with the record at place `i` changed by `f`. -/
def Tbl.modify {α : Type} {n : Nat} (t : Tbl α n) (i : Fin n) (f : α → α) : Tbl α n :=
  t.put i (f (t.get i))

/-- The table of `n` equal records. -/
def Tbl.all {α : Type} (n : Nat) (a : α) : Tbl α n := Vector.replicate n a

/-- The records of a table in rising place. -/
def Tbl.list {α : Type} {n : Nat} (t : Tbl α n) : List α := (List.finRange n).map t.get

/-- The table whose places are given by `f`. -/
def Tbl.make {α : Type} {n : Nat} (a : α) (f : Fin n → α) : Tbl α n :=
  (List.finRange n).foldl (fun t i => t.put i (f i)) (Tbl.all n a)

/-- Channels C1 to C6, counted from 0. -/
abbrev Chan := Fin 6
/-- Points P0 to P47. -/
abbrev PointNo := Fin 48
/-- Cooler compartments 1 to 8, counted from 0. -/
abbrev Comp := Fin 8
/-- Lot slots 0 to 31. -/
abbrev LotNo := Fin 32
/-- Alarm record slots 0 to 64; 64 is the reserved one. -/
abbrev SlotNo := Fin 65
/-- Trip-map entries 0 to 15. -/
abbrev EntryNo := Fin 16

end Sys2Proof
end

