-- ==== Sys2Proof/Config.lean ====
section
/-! DEFINITION. The parameters the spec fixes (Tables 0.1, 1.1, 2.1, 3.1, 4.1, 5.1, 6.1, 7.1, 8.1, 9.1,
10.1, 11.1), and the values it leaves open as constants without a body.
-/

namespace Sys2Proof.Config

/-! ### Point table (Table 1.1) -/
def updateEntriesMax : Nat := 8
def ageMax : Nat := 255
def staleLimitMax : Nat := 60
def deadbandMax : Nat := 1000

/-! ### Lot registry (Table 2.1) -/
def queueDepth : Nat := 6
def lotMassMax : Nat := 2000000
def ncvDryMin : Nat := 8000
def ncvDryMax : Nat := 45000
def moistureMax : Nat := 600
def chlorineMax : Nat := 30000
def sulfurMax : Nat := 800
def latentAllowance : Nat := 2443
def ncvArMin : Nat := 5000
/-- Where the debited total saturates (R18). -/
def debitedMax : Nat := 4294967295
/-- The largest handle generation (Table 0.1). -/
def generationMax : Nat := 255

/-! ### Channel controller (Table 3.1) -/
def flowMax : Nat := 60000
def rampMin : Nat := 1
def rampMax : Nat := 20000
def capacityMin : Nat := 100
def capacityMax : Nat := 80000
def pulseMassMin : Nat := 1
def pulseMassMax : Nat := 50000
def clLimitMax : Nat := 30000
def shareMax : Nat := 1000
/-- Length of the start timer (CHC_START_HOLD). -/
def startHold : Nat := 10
def supervisionTimeMin : Nat := 1
def supervisionTimeMax : Nat := 10
def supervisionTimeDefault : Nat := 3
def holdTimeMax : Nat := 600
def holdTimeDefault : Nat := 120

/-! ### Firing computation (Table 4.1) -/
def demandMax : Nat := 2500
def ceilingMax : Nat := 400000
def tRefMin : Nat := 600
def tRefMax : Nat := 1300
def tRefDefault : Nat := 1000
def kSaMax : Nat := 500
def kSaDefault : Nat := 60
def bandMin : Nat := 10
def bandMax : Nat := 200
def bandDefault : Nat := 50
def delayMin : Nat := 10
def delayMax : Nat := 600
def delayDefault : Nat := 60
def clRelease : Nat := 60

/-! ### Feeder interface (Table 5.1) -/
def rateMax : Nat := 10000
def stallRate : Nat := 500
def stallTimeMin : Nat := 2
def stallTimeMax : Nat := 30
def stallTimeDefault : Nat := 10
def trimNominal : Nat := 1000
def trimMin : Nat := 800
def trimMax : Nat := 1250
def trimStepMax : Nat := 20
def trimMinMass : Nat := 50
/-- The modulus of the pulse counts, which wrap from 4,294,967,295 to 0 (Table 5.2). -/
def pulseModulus : Nat := 4294967296

/-! ### Cooler controller (Tables 6.1, 6.3, 6.4) -/
def speedMax : Nat := 1000
def weightMax : Nat := 1000
def idleThreshold : Int := 50
def grateStep : Int := 5
def grateMin : Nat := 20
def grateMax : Nat := 250
def fanCapacityMin : Nat := 20000
def fanCapacityMax : Nat := 200000
def minSpeedMin : Nat := 100
def minSpeedMax : Nat := 500
def specificAirMin : Nat := 1500
def specificAirMax : Nat := 3000
def bedTargetMin : Nat := 2000
def bedTargetMax : Nat := 9000
def grateGainMax : Nat := 50
def flushStepMin : Nat := 500
def flushStepMax : Nat := 4000
def flushTimeMin : Nat := 30
def flushTimeMax : Nat := 600

/-! ### Alarm table (Table 7.1) -/
def collectMax : Nat := 6
def shelveMax : Nat := 480
def repeatMax : Nat := 255
def lostMax : Nat := 65535
/-- Pending identities shown by READ_ALARM_TABLE (R148). -/
def pendingShown : Nat := 16

/-! ### Shift tally unit (Table 8.1) -/
def daySeconds : Nat := 86400
def dayCountMax : Nat := 65535
def shiftNumberMax : Nat := 65535
def lotEntries : Nat := 16
def countMax : Nat := 281474976710655
def eventCountMax : Nat := 65535

/-! ### Access unit (Table 9.1) -/
def openTime : Nat := 1800
def mismatchLimit : Nat := 3
def wordBlank : BitVec 64 := BitVec.allOnes 64

/-! ### Link interface (Table 10.1) -/
def sync : Byte := 0x5A#8
def readCommand : Byte := 0xA5#8
def frameLenMin : Nat := 4
def frameLenMax : Nat := 250
/-- Where the bad-frame and discarded counts saturate (R189). -/
def linkCountMax : Nat := 65535
/-- The modulus of the frames-taken counts (R189). -/
def framesModulus : Nat := 4294967296

/-! ### Settings store (Table 11.1) -/
def familyCode : Nat := 0x31
def partCode : Nat := 310
def revision : Nat := 1

/-! ### Values the spec leaves open: constants without a body -/

/-- The time in seconds at which the n-th command is taken.  The commands of the table carry no time of
their own; what a running timer still has to go when READ_CHANNEL, READ_COOLER or READ_ACCESS asks depends
on it, and the model leaves it open.  Log entry 4. -/
opaque secondsAt : Nat → Nat

/-- Whether a response of status OK_NO_CHANGE to a request of this kind still carries the fields that an OK
response of the kind carries.  The spec does not say.  Log entry 7. -/
opaque noChangeCarriesFields : Nat → Bool

/-- Whether a lot reference of the handle form whose two padding bytes are not 0 is refused with
OUT_OF_RANGE.  Table 10.3 gives the bytes as 0 and does not say what another value does.  Log entry 8. -/
opaque refusesPadding : Bool

/-- The byte that the part shifts out on data-out while the host sends the 0xA5 of the n-th command, a read
transfer.  R178 and R182 give the bytes from the next one on.  Log entry 19. -/
opaque readFirstByte : Nat → BitVec 8

end Sys2Proof.Config
end

