-- ==== Sys2Proof/Syntax.lean ====
section
/-! DEFINITION. The commands that reach the part: one constructor for each row of the table of operations
and events (spec/opcode_table.json), and the catalogue of request kinds (Table 10.4).

A request row is a request frame that has passed its check (R179, R180), with the port it came on, its
sequence byte and the bytes of its fields after the sequence.  The other rows are pins, link transfers,
timers and the completion of a settings save.
-/

namespace Sys2Proof

/-- The two ports; a field that names a port carries 0 for CONTROL and 1 for PANEL (R185). -/
inductive Port where
  | control
  | panel
deriving DecidableEq, Repr

/-- A frame as a receiver finishes it (R181, R183): one that failed its check, or a checked frame's
kind, sequence and field bytes. -/
inductive Frame where
  | failed
  | checked (kind : Byte) (seq : Byte) (fields : List Byte)
deriving DecidableEq, Repr

/-- The request kinds of Table 10.4. -/
inductive Kind where
  | readStatus
  | saveSettings
  | warmRestart
  | readLink
  | pointUpdate
  | readPoint
  | setLimits
  | setPointConfig
  | setProtectMark
  | registerLot
  | setAnalysis
  | amendMass
  | enqueueLot
  | dequeueLot
  | quarantineLot
  | retireLot
  | readLot
  | findLot
  | readQueue
  | startChannel
  | stopChannel
  | holdChannel
  | releaseHold
  | emergencyStop
  | clearTrip
  | setChannelFuel
  | setLotClLimit
  | setShare
  | setFlowLimits
  | setCalibration
  | setLinkTimes
  | readChannel
  | setDemand
  | setClCeiling
  | setCreditParams
  | setDeficitAlarm
  | readFiring
  | setStallTime
  | readFeeder
  | coolerMode
  | setManualSpeed
  | setManualGrate
  | setCompartment
  | setCompartmentControl
  | setCoolerConfig
  | readCooler
  | ackAlarm
  | ackAll
  | shelve
  | unshelve
  | silence
  | collectAlarms
  | setTripEntry
  | readTripMap
  | readAlarm
  | findAlarm
  | readAlarmTable
  | setClock
  | setShiftPlan
  | shiftClose
  | releaseShift
  | correctShift
  | readShift
  | readClock
  | accessOpen
  | accessClose
  | setAccessWord
  | readAccess
deriving DecidableEq, Repr

/-- The commands. -/
inductive Instr where
  /-- POWER_ON (R196): power is up and the reset input is released. -/
  | powerOn
  /-- PIN_RESET (R196): release of the asserted reset input. -/
  | pinReset
  /-- RESET_ASSERT (R196): assertion of the reset input. -/
  | resetAssert
  /-- POWER_LOSS (R195, R196): loss of power. -/
  | powerLoss
  /-- START_UP_END (R196): end of the start-up phase. -/
  | startUpEnd
  /-- CONTROL_BAD_FRAME (R181): a control-port write transfer of these bytes, whose frame fails its check. -/
  | controlBadFrame (bytes : List Byte)
  /-- IGNORED_TRANSFER (R178): a control-port transfer of these bytes, the first neither 0x5A nor 0xA5. -/
  | ignoredTransfer (bytes : List Byte)
  /-- CONTROL_READ_TRANSFER (R182): a control-port read transfer: 0xA5, then `clocked` further bytes before select is released. -/
  | controlReadTransfer (clocked : Nat)
  /-- UNKNOWN_REQUEST (R185): a checked frame whose kind is not in the request catalogue. -/
  | unknownRequest (port : Port) (kind : Byte) (seq : Byte) (fields : List Byte)
  /-- PANEL_BAD_FRAME (R183): a panel frame with a bad length byte or a failed check. -/
  | panelBadFrame
  /-- PANEL_GAP_TIMEOUT (R183): a gap of more than 20 ms after the last panel byte. -/
  | panelGapTimeout
  /-- PANEL_FRAME_HOLD (R184): a panel frame finished while the transmitter is sending. -/
  | panelFrameHold (frame : Frame)
  /-- PANEL_TRANSMIT_DONE (R184): the panel transmitter finishes sending a response. -/
  | panelTransmitDone
  /-- READ_STATUS (kind 0x01, R199). Fields: no field. -/
  | readStatus (port : Port) (seq : Byte) (fields : List Byte)
  /-- SAVE_SETTINGS (kind 0x02, R194). Fields: no field. -/
  | saveSettings (port : Port) (seq : Byte) (fields : List Byte)
  /-- SAVE_COMPLETION (R195): the write of the image completes; `held`: the store holds what was written, so that the checks match. -/
  | saveCompletion (held : Bool)
  /-- WARM_RESTART (kind 0x03, R198). Fields: no field. -/
  | warmRestart (port : Port) (seq : Byte) (fields : List Byte)
  /-- READ_LINK (kind 0x04, R190). Fields: no field. -/
  | readLink (port : Port) (seq : Byte) (fields : List Byte)
  /-- POINT_UPDATE (kind 0x10, R3, R4). Fields: a count and that many entries of point, value (2), quality. -/
  | pointUpdate (port : Port) (seq : Byte) (fields : List Byte)
  /-- READ_POINT (kind 0x11, R14). Fields: point. -/
  | readPoint (port : Port) (seq : Byte) (fields : List Byte)
  /-- SET_LIMITS (kind 0x12, R6). Fields: point, four limits (each a presence byte, then 2), deadband (2). -/
  | setLimits (port : Port) (seq : Byte) (fields : List Byte)
  /-- SET_POINT_CONFIG (kind 0x13, R12). Fields: point, stale limit (2), four priorities, quality-alarm enable, associated channel (a presence byte, then 1). -/
  | setPointConfig (port : Port) (seq : Byte) (fields : List Byte)
  /-- SET_PROTECT_MARK (kind 0x14, R13). Fields: point, the byte 1 or 0. -/
  | setProtectMark (port : Port) (seq : Byte) (fields : List Byte)
  /-- AGEING_EXPIRY (R5): expiry of the 1 s ageing timer. -/
  | ageingExpiry
  /-- REGISTER_LOT (kind 0x20, R22). Fields: tag (4), kind, mass (4). -/
  | registerLot (port : Port) (seq : Byte) (fields : List Byte)
  /-- SET_ANALYSIS (kind 0x21, R23 to R25). Fields: lot reference (5), dry NCV (2), moisture (2), chlorine (2), sulfur (2). -/
  | setAnalysis (port : Port) (seq : Byte) (fields : List Byte)
  /-- AMEND_MASS (kind 0x22, R26). Fields: lot reference (5), mass (4). -/
  | amendMass (port : Port) (seq : Byte) (fields : List Byte)
  /-- ENQUEUE_LOT (kind 0x23, R31). Fields: lot reference (5), channel. -/
  | enqueueLot (port : Port) (seq : Byte) (fields : List Byte)
  /-- DEQUEUE_LOT (kind 0x24, R32). Fields: lot reference (5). -/
  | dequeueLot (port : Port) (seq : Byte) (fields : List Byte)
  /-- QUARANTINE_LOT (kind 0x25, R27). Fields: lot reference (5). -/
  | quarantineLot (port : Port) (seq : Byte) (fields : List Byte)
  /-- RETIRE_LOT (kind 0x26, R28). Fields: lot reference (5). -/
  | retireLot (port : Port) (seq : Byte) (fields : List Byte)
  /-- READ_LOT (kind 0x27, R38). Fields: lot reference (5). -/
  | readLot (port : Port) (seq : Byte) (fields : List Byte)
  /-- FIND_LOT (kind 0x28, R38). Fields: tag (4). -/
  | findLot (port : Port) (seq : Byte) (fields : List Byte)
  /-- READ_QUEUE (kind 0x29, R39). Fields: channel. -/
  | readQueue (port : Port) (seq : Byte) (fields : List Byte)
  /-- START_CHANNEL (kind 0x30, R47). Fields: channel. -/
  | startChannel (port : Port) (seq : Byte) (fields : List Byte)
  /-- START_TIMER_EXPIRY (R48): expiry of a channel's start timer. -/
  | startTimerExpiry (c : Chan)
  /-- STOP_CHANNEL (kind 0x31, R49). Fields: channel. -/
  | stopChannel (port : Port) (seq : Byte) (fields : List Byte)
  /-- HOLD_CHANNEL (kind 0x32, R51). Fields: channel. -/
  | holdChannel (port : Port) (seq : Byte) (fields : List Byte)
  /-- RELEASE_HOLD (kind 0x33, R51). Fields: channel. -/
  | releaseHold (port : Port) (seq : Byte) (fields : List Byte)
  /-- TRIP_LINE_ASSERT (R54): assertion of the trip input. -/
  | tripLineAssert
  /-- TRIP_LINE_DEASSERT (R54): deassertion of the trip input. -/
  | tripLineDeassert
  /-- EMERGENCY_STOP (kind 0x34, R55). Fields: no field. -/
  | emergencyStop (port : Port) (seq : Byte) (fields : List Byte)
  /-- CLEAR_TRIP (kind 0x35, R57). Fields: channel. -/
  | clearTrip (port : Port) (seq : Byte) (fields : List Byte)
  /-- SET_CHANNEL_FUEL (kind 0x36, R43). Fields: channel, location, accepted-kind set. -/
  | setChannelFuel (port : Port) (seq : Byte) (fields : List Byte)
  /-- SET_LOT_CL_LIMIT (kind 0x37, R44). Fields: channel, limit (2). -/
  | setLotClLimit (port : Port) (seq : Byte) (fields : List Byte)
  /-- SET_SHARE (kind 0x38, R44). Fields: channel, share (2). -/
  | setShare (port : Port) (seq : Byte) (fields : List Byte)
  /-- SET_FLOW_LIMITS (kind 0x39, R45). Fields: channel, min flow (2), max flow (2), ramp rate (2). -/
  | setFlowLimits (port : Port) (seq : Byte) (fields : List Byte)
  /-- SET_CALIBRATION (kind 0x3A, R45). Fields: channel, capacity (4), mass per pulse (2). -/
  | setCalibration (port : Port) (seq : Byte) (fields : List Byte)
  /-- SET_LINK_TIMES (kind 0x3B, R58). Fields: supervision time (2), hold time (2). -/
  | setLinkTimes (port : Port) (seq : Byte) (fields : List Byte)
  /-- SUPERVISION_EXPIRY (R59): expiry of the supervision timer. -/
  | supervisionExpiry
  /-- HOLD_TIMER_EXPIRY (R60): expiry of the hold timer. -/
  | holdTimerExpiry
  /-- READ_CHANNEL (kind 0x3C, R63). Fields: channel. -/
  | readChannel (port : Port) (seq : Byte) (fields : List Byte)
  /-- SET_DEMAND (kind 0x40, R67). Fields: location, demand in 0.1 MW (2). -/
  | setDemand (port : Port) (seq : Byte) (fields : List Byte)
  /-- SET_CL_CEILING (kind 0x41, R68). Fields: ceiling (a presence byte, then 4). -/
  | setClCeiling (port : Port) (seq : Byte) (fields : List Byte)
  /-- SET_CREDIT_PARAMS (kind 0x42, R68). Fields: T_ref (2), k_sa (2). -/
  | setCreditParams (port : Port) (seq : Byte) (fields : List Byte)
  /-- SET_DEFICIT_ALARM (kind 0x43, R69). Fields: deficit band (2), deficit delay (2). -/
  | setDeficitAlarm (port : Port) (seq : Byte) (fields : List Byte)
  /-- READ_FIRING (kind 0x44, R83). Fields: no field. -/
  | readFiring (port : Port) (seq : Byte) (fields : List Byte)
  /-- FIRING_PERIOD_EXPIRY (R70): expiry of the 1 s firing period. -/
  | firingPeriodExpiry
  /-- OUTPUT_WINDOW_BOUNDARY (R88): expiry of a channel's 100 ms output window. -/
  | outputWindowBoundary (c : Chan)
  /-- FEEDER_PULSE (R91): a pulse on a channel's feeder pulse input. -/
  | feederPulse (c : Chan)
  /-- STALL_WINDOW_EXPIRY (R97): expiry of a channel's stall window. -/
  | stallWindowExpiry (c : Chan)
  /-- SET_STALL_TIME (kind 0x48, R98). Fields: channel, stall time (2). -/
  | setStallTime (port : Port) (seq : Byte) (fields : List Byte)
  /-- TRIM_INTERVAL_EXPIRY (R100): expiry of a channel's 60 s trim interval. -/
  | trimIntervalExpiry (c : Chan)
  /-- READ_FEEDER (kind 0x49, R101). Fields: channel. -/
  | readFeeder (port : Port) (seq : Byte) (fields : List Byte)
  /-- COOLER_PERIOD_EXPIRY (R106): expiry of the 2 s cooler period. -/
  | coolerPeriodExpiry
  /-- FLUSH_TIMER_EXPIRY (R116): expiry of the flush timer. -/
  | flushTimerExpiry
  /-- COOLER_MODE (kind 0x50, R118). Fields: MANUAL (1) or AUTOMATIC (0). -/
  | coolerMode (port : Port) (seq : Byte) (fields : List Byte)
  /-- SET_MANUAL_SPEED (kind 0x51, R119). Fields: compartment, speed (2). -/
  | setManualSpeed (port : Port) (seq : Byte) (fields : List Byte)
  /-- SET_MANUAL_GRATE (kind 0x52, R119). Fields: grate speed (2). -/
  | setManualGrate (port : Port) (seq : Byte) (fields : List Byte)
  /-- SET_COMPARTMENT (kind 0x53, R107). Fields: compartment, weight (2), fan capacity (4), min speed (2). -/
  | setCompartment (port : Port) (seq : Byte) (fields : List Byte)
  /-- SET_COMPARTMENT_CONTROL (kind 0x54, R108). Fields: compartment, control, fixed speed (2). -/
  | setCompartmentControl (port : Port) (seq : Byte) (fields : List Byte)
  /-- SET_COOLER_CONFIG (kind 0x55, R109). Fields: specific air, grate min, grate max, bed target, grate gain, flush step, flush time (2 each). -/
  | setCoolerConfig (port : Port) (seq : Byte) (fields : List Byte)
  /-- READ_COOLER (kind 0x56, R122). Fields: no field. -/
  | readCooler (port : Port) (seq : Byte) (fields : List Byte)
  /-- ACK_ALARM (kind 0x60, R133). Fields: alarm handle (2). -/
  | ackAlarm (port : Port) (seq : Byte) (fields : List Byte)
  /-- ACK_ALL (kind 0x61, R134). Fields: no field. -/
  | ackAll (port : Port) (seq : Byte) (fields : List Byte)
  /-- SHELVE (kind 0x62, R135). Fields: alarm handle (2), duration in minutes (2). -/
  | shelve (port : Port) (seq : Byte) (fields : List Byte)
  /-- UNSHELVE (kind 0x63, R136). Fields: alarm handle (2). -/
  | unshelve (port : Port) (seq : Byte) (fields : List Byte)
  /-- SHELVING_TIMER_EXPIRY (R136): expiry of the 1 s shelving timer. -/
  | shelvingTimerExpiry
  /-- SHELF_TIME_EXPIRY (R136): the remaining shelf time of the record in a slot reaches 0. -/
  | shelfTimeExpiry (slot : SlotNo)
  /-- SILENCE (kind 0x64, R144). Fields: no field. -/
  | silence (port : Port) (seq : Byte) (fields : List Byte)
  /-- COLLECT_ALARMS (kind 0x65, R145). Fields: no field. -/
  | collectAlarms (port : Port) (seq : Byte) (fields : List Byte)
  /-- SET_TRIP_ENTRY (kind 0x66, R140, R142). Fields: entry number, trip-map entry (6). -/
  | setTripEntry (port : Port) (seq : Byte) (fields : List Byte)
  /-- READ_TRIP_MAP (kind 0x67, R140). Fields: no field. -/
  | readTripMap (port : Port) (seq : Byte) (fields : List Byte)
  /-- READ_ALARM (kind 0x68, R148). Fields: alarm handle (2). -/
  | readAlarm (port : Port) (seq : Byte) (fields : List Byte)
  /-- FIND_ALARM (kind 0x69, R148). Fields: alarm identity (3). -/
  | findAlarm (port : Port) (seq : Byte) (fields : List Byte)
  /-- READ_ALARM_TABLE (kind 0x6A, R148). Fields: no field. -/
  | readAlarmTable (port : Port) (seq : Byte) (fields : List Byte)
  /-- SET_CLOCK (kind 0x70, R152). Fields: day count (2), seconds of day (4). -/
  | setClock (port : Port) (seq : Byte) (fields : List Byte)
  /-- SET_SHIFT_PLAN (kind 0x71, R153). Fields: shift length (2), first start (2). -/
  | setShiftPlan (port : Port) (seq : Byte) (fields : List Byte)
  /-- SHIFT_CLOSE (kind 0x72, R161). Fields: no field. -/
  | shiftClose (port : Port) (seq : Byte) (fields : List Byte)
  /-- RELEASE_SHIFT (kind 0x73, R162). Fields: shift number (2). -/
  | releaseShift (port : Port) (seq : Byte) (fields : List Byte)
  /-- CORRECT_SHIFT (kind 0x74, R163). Fields: shift number (2), clinker mass (6). -/
  | correctShift (port : Port) (seq : Byte) (fields : List Byte)
  /-- READ_SHIFT (kind 0x75, R164). Fields: record selector, part selector. -/
  | readShift (port : Port) (seq : Byte) (fields : List Byte)
  /-- READ_CLOCK (kind 0x76, R165). Fields: no field. -/
  | readClock (port : Port) (seq : Byte) (fields : List Byte)
  /-- SHIFT_TIMER_EXPIRY (R158): expiry of the shift tally unit's 1 s timer. -/
  | shiftTimerExpiry
  /-- ACCESS_OPEN (kind 0x78, R169, R170). Fields: presented word (8). -/
  | accessOpen (port : Port) (seq : Byte) (fields : List Byte)
  /-- ACCESS_CLOSE (kind 0x79, R171). Fields: no field. -/
  | accessClose (port : Port) (seq : Byte) (fields : List Byte)
  /-- OPEN_TIMER_EXPIRY (R171): expiry of the engineering access open timer. -/
  | openTimerExpiry
  /-- SET_ACCESS_WORD (kind 0x7A, R173). Fields: new word (8). -/
  | setAccessWord (port : Port) (seq : Byte) (fields : List Byte)
  /-- READ_ACCESS (kind 0x7B, R175). Fields: no field. -/
  | readAccess (port : Port) (seq : Byte) (fields : List Byte)
  /-- PANEL_RECEIVER_BYTE (R183): a byte arrives at the panel-port receiver. -/
  | panelReceiverByte (byte : Byte)
deriving DecidableEq, Repr

end Sys2Proof
end

