-- ==== Sys2Proof/Decode.lean ====
section
/-! DEFINITION. From bits to commands: the frame check, request and response frames, the catalogue of
request kinds, and the command that the bytes of a control-port transfer are (R178 to R181, Table 10.4).

The table of operations and events gives no row any bits, so `decodeTableWord` spells no command.
-/

namespace Sys2Proof

/-! ### The frame check (R180) -/

/-- One bit of the check: shift left, and combine with 0x1021 where the bit shifted out differs from the
data bit. -/
def crcBit (reg : BitVec 16) (bit : Bool) : BitVec 16 :=
  if reg.msb != bit then (reg <<< 1) ^^^ 0x1021#16 else reg <<< 1

/-- One byte of the check, most significant bit first. -/
def crcByte (reg : BitVec 16) (b : Byte) : BitVec 16 :=
  [7, 6, 5, 4, 3, 2, 1, 0].foldl (fun r n => crcBit r (b.getLsbD n)) reg

/-- The check over bytes, from a register of 0xFFFF. -/
def crc16 (bytes : List Byte) : BitVec 16 := bytes.foldl crcByte 0xFFFF#16

/-- The check as the two bytes that close a frame, most significant first. -/
def crcTail (bytes : List Byte) : List Byte :=
  [(crc16 bytes).extractLsb' 8 8, (crc16 bytes).extractLsb' 0 8]

/-- A frame: the sync byte, then the length byte and the body, then the check over these (R179). -/
def frameOf (body : List Byte) : List Byte :=
  Config.sync :: (BitVec.ofNat 8 (body.length + 2) :: body)
    ++ crcTail (BitVec.ofNat 8 (body.length + 2) :: body)

/-- A request frame (Table 10.2). -/
def requestFrame (kind seq : Byte) (fields : List Byte) : List Byte := frameOf (kind :: seq :: fields)

/-- What the length byte and the bytes after it are: a checked frame, or one that fails its check because
the length lies outside 4 to 250, the bytes are not the length's worth, or the check does not match
(R180, R181). -/
def readFrame (len : Byte) (rest : List Byte) : Frame :=
  if Config.frameLenMin ≤ len.toNat ∧ len.toNat ≤ Config.frameLenMax ∧ rest.length = len.toNat
      ∧ rest.drop (len.toNat - 2) = crcTail (len :: rest.take (len.toNat - 2)) then
    match rest.take (len.toNat - 2) with
    | kind :: seq :: fields => .checked kind seq fields
    | _ => .failed
  else .failed

/-- The frame that the bytes of a control-port write transfer are, the sync byte among them (R181). -/
def readTransfer : List Byte → Frame
  | _ :: len :: rest => readFrame len rest
  | _ => .failed

/-! ### The request catalogue (Table 10.4) -/

/-- The kind byte of a request. -/
def Kind.code : Kind → Byte
  | .readStatus => 0x01#8
  | .saveSettings => 0x02#8
  | .warmRestart => 0x03#8
  | .readLink => 0x04#8
  | .pointUpdate => 0x10#8
  | .readPoint => 0x11#8
  | .setLimits => 0x12#8
  | .setPointConfig => 0x13#8
  | .setProtectMark => 0x14#8
  | .registerLot => 0x20#8
  | .setAnalysis => 0x21#8
  | .amendMass => 0x22#8
  | .enqueueLot => 0x23#8
  | .dequeueLot => 0x24#8
  | .quarantineLot => 0x25#8
  | .retireLot => 0x26#8
  | .readLot => 0x27#8
  | .findLot => 0x28#8
  | .readQueue => 0x29#8
  | .startChannel => 0x30#8
  | .stopChannel => 0x31#8
  | .holdChannel => 0x32#8
  | .releaseHold => 0x33#8
  | .emergencyStop => 0x34#8
  | .clearTrip => 0x35#8
  | .setChannelFuel => 0x36#8
  | .setLotClLimit => 0x37#8
  | .setShare => 0x38#8
  | .setFlowLimits => 0x39#8
  | .setCalibration => 0x3A#8
  | .setLinkTimes => 0x3B#8
  | .readChannel => 0x3C#8
  | .setDemand => 0x40#8
  | .setClCeiling => 0x41#8
  | .setCreditParams => 0x42#8
  | .setDeficitAlarm => 0x43#8
  | .readFiring => 0x44#8
  | .setStallTime => 0x48#8
  | .readFeeder => 0x49#8
  | .coolerMode => 0x50#8
  | .setManualSpeed => 0x51#8
  | .setManualGrate => 0x52#8
  | .setCompartment => 0x53#8
  | .setCompartmentControl => 0x54#8
  | .setCoolerConfig => 0x55#8
  | .readCooler => 0x56#8
  | .ackAlarm => 0x60#8
  | .ackAll => 0x61#8
  | .shelve => 0x62#8
  | .unshelve => 0x63#8
  | .silence => 0x64#8
  | .collectAlarms => 0x65#8
  | .setTripEntry => 0x66#8
  | .readTripMap => 0x67#8
  | .readAlarm => 0x68#8
  | .findAlarm => 0x69#8
  | .readAlarmTable => 0x6A#8
  | .setClock => 0x70#8
  | .setShiftPlan => 0x71#8
  | .shiftClose => 0x72#8
  | .releaseShift => 0x73#8
  | .correctShift => 0x74#8
  | .readShift => 0x75#8
  | .readClock => 0x76#8
  | .accessOpen => 0x78#8
  | .accessClose => 0x79#8
  | .setAccessWord => 0x7A#8
  | .readAccess => 0x7B#8

/-- The request of a kind byte, where Table 10.4 has one. -/
def Kind.ofCode (b : Byte) : Option Kind :=
  match b.toNat with
  | 0x01 => some .readStatus
  | 0x02 => some .saveSettings
  | 0x03 => some .warmRestart
  | 0x04 => some .readLink
  | 0x10 => some .pointUpdate
  | 0x11 => some .readPoint
  | 0x12 => some .setLimits
  | 0x13 => some .setPointConfig
  | 0x14 => some .setProtectMark
  | 0x20 => some .registerLot
  | 0x21 => some .setAnalysis
  | 0x22 => some .amendMass
  | 0x23 => some .enqueueLot
  | 0x24 => some .dequeueLot
  | 0x25 => some .quarantineLot
  | 0x26 => some .retireLot
  | 0x27 => some .readLot
  | 0x28 => some .findLot
  | 0x29 => some .readQueue
  | 0x30 => some .startChannel
  | 0x31 => some .stopChannel
  | 0x32 => some .holdChannel
  | 0x33 => some .releaseHold
  | 0x34 => some .emergencyStop
  | 0x35 => some .clearTrip
  | 0x36 => some .setChannelFuel
  | 0x37 => some .setLotClLimit
  | 0x38 => some .setShare
  | 0x39 => some .setFlowLimits
  | 0x3A => some .setCalibration
  | 0x3B => some .setLinkTimes
  | 0x3C => some .readChannel
  | 0x40 => some .setDemand
  | 0x41 => some .setClCeiling
  | 0x42 => some .setCreditParams
  | 0x43 => some .setDeficitAlarm
  | 0x44 => some .readFiring
  | 0x48 => some .setStallTime
  | 0x49 => some .readFeeder
  | 0x50 => some .coolerMode
  | 0x51 => some .setManualSpeed
  | 0x52 => some .setManualGrate
  | 0x53 => some .setCompartment
  | 0x54 => some .setCompartmentControl
  | 0x55 => some .setCoolerConfig
  | 0x56 => some .readCooler
  | 0x60 => some .ackAlarm
  | 0x61 => some .ackAll
  | 0x62 => some .shelve
  | 0x63 => some .unshelve
  | 0x64 => some .silence
  | 0x65 => some .collectAlarms
  | 0x66 => some .setTripEntry
  | 0x67 => some .readTripMap
  | 0x68 => some .readAlarm
  | 0x69 => some .findAlarm
  | 0x6A => some .readAlarmTable
  | 0x70 => some .setClock
  | 0x71 => some .setShiftPlan
  | 0x72 => some .shiftClose
  | 0x73 => some .releaseShift
  | 0x74 => some .correctShift
  | 0x75 => some .readShift
  | 0x76 => some .readClock
  | 0x78 => some .accessOpen
  | 0x79 => some .accessClose
  | 0x7A => some .setAccessWord
  | 0x7B => some .readAccess
  | _ => none

/-- The command a request of a kind is. -/
def Kind.instr (p : Port) (q : Byte) (f : List Byte) : Kind → Instr
  | .readStatus => .readStatus p q f
  | .saveSettings => .saveSettings p q f
  | .warmRestart => .warmRestart p q f
  | .readLink => .readLink p q f
  | .pointUpdate => .pointUpdate p q f
  | .readPoint => .readPoint p q f
  | .setLimits => .setLimits p q f
  | .setPointConfig => .setPointConfig p q f
  | .setProtectMark => .setProtectMark p q f
  | .registerLot => .registerLot p q f
  | .setAnalysis => .setAnalysis p q f
  | .amendMass => .amendMass p q f
  | .enqueueLot => .enqueueLot p q f
  | .dequeueLot => .dequeueLot p q f
  | .quarantineLot => .quarantineLot p q f
  | .retireLot => .retireLot p q f
  | .readLot => .readLot p q f
  | .findLot => .findLot p q f
  | .readQueue => .readQueue p q f
  | .startChannel => .startChannel p q f
  | .stopChannel => .stopChannel p q f
  | .holdChannel => .holdChannel p q f
  | .releaseHold => .releaseHold p q f
  | .emergencyStop => .emergencyStop p q f
  | .clearTrip => .clearTrip p q f
  | .setChannelFuel => .setChannelFuel p q f
  | .setLotClLimit => .setLotClLimit p q f
  | .setShare => .setShare p q f
  | .setFlowLimits => .setFlowLimits p q f
  | .setCalibration => .setCalibration p q f
  | .setLinkTimes => .setLinkTimes p q f
  | .readChannel => .readChannel p q f
  | .setDemand => .setDemand p q f
  | .setClCeiling => .setClCeiling p q f
  | .setCreditParams => .setCreditParams p q f
  | .setDeficitAlarm => .setDeficitAlarm p q f
  | .readFiring => .readFiring p q f
  | .setStallTime => .setStallTime p q f
  | .readFeeder => .readFeeder p q f
  | .coolerMode => .coolerMode p q f
  | .setManualSpeed => .setManualSpeed p q f
  | .setManualGrate => .setManualGrate p q f
  | .setCompartment => .setCompartment p q f
  | .setCompartmentControl => .setCompartmentControl p q f
  | .setCoolerConfig => .setCoolerConfig p q f
  | .readCooler => .readCooler p q f
  | .ackAlarm => .ackAlarm p q f
  | .ackAll => .ackAll p q f
  | .shelve => .shelve p q f
  | .unshelve => .unshelve p q f
  | .silence => .silence p q f
  | .collectAlarms => .collectAlarms p q f
  | .setTripEntry => .setTripEntry p q f
  | .readTripMap => .readTripMap p q f
  | .readAlarm => .readAlarm p q f
  | .findAlarm => .findAlarm p q f
  | .readAlarmTable => .readAlarmTable p q f
  | .setClock => .setClock p q f
  | .setShiftPlan => .setShiftPlan p q f
  | .shiftClose => .shiftClose p q f
  | .releaseShift => .releaseShift p q f
  | .correctShift => .correctShift p q f
  | .readShift => .readShift p q f
  | .readClock => .readClock p q f
  | .accessOpen => .accessOpen p q f
  | .accessClose => .accessClose p q f
  | .setAccessWord => .setAccessWord p q f
  | .readAccess => .readAccess p q f

/-- The command of a checked frame: its kind's, or an unknown request (R185). -/
def requestInstr (p : Port) (kind seq : Byte) (fields : List Byte) : Instr :=
  match Kind.ofCode kind with
  | some k => k.instr p seq fields
  | none => .unknownRequest p kind seq fields

/-- The command that the bytes of one control-port transfer are (R178). -/
def decodeTransfer (bytes : List Byte) : Instr :=
  match bytes with
  | [] => .ignoredTransfer []
  | b :: rest =>
    if b = Config.sync then
      match readTransfer bytes with
      | .failed => .controlBadFrame bytes
      | .checked kind seq fields => requestInstr .control kind seq fields
    else if b = Config.readCommand then .controlReadTransfer rest.length
    else .ignoredTransfer bytes

/-- The command a table word spells.  No row of spec/opcode_table.json is given bits, so none. -/
def decodeTableWord (_nbits _w : Nat) : Option Instr := none

end Sys2Proof
end

