-- ==== Sys2Proof/Machine/State.lean ====
section
/-! DEFINITION. Everything the part holds, block by block, and the state right after reset.

Each structure is one record or one block of the spec; field names follow its tables.  Numbers are
naturals or integers (the spec computes with exact integers in stated units); bytes stand only on the
links.  What the spec makes a view of other state (a lot's queue position, a channel's class and pair
state) is stored once and computed in Machine/Flags.lean.
-/

namespace Sys2Proof.Machine

/-! ### Outcomes -/

/-- Reasons the machine stops with a fault.  There are none: the part answers a bad command with a status
code (Table 10.5), and a command that does not apply to the state it meets changes nothing.  Safe. -/
inductive Fault where
deriving DecidableEq, Repr

/-- Reasons a command is refused by the model. -/
inductive Refusal where
  /-- Raised by an arm of `exec` whose command has no meaning yet; no meaning answers it.  Safe: it
  stops. -/
  | notModelled (mnemonic : String)
deriving DecidableEq, Repr

/-! ### Timers -/

/-- A running timer: the seconds it was started with, and the moment of its latest start or restart, as the
number of the command that started it (`State.moment`; log entry 4). -/
structure Timer where
  length : Nat
  since  : Nat
deriving DecidableEq, Repr

/-! ### Point table (chapter 1) -/

/-- Table 1.2. -/
inductive Quality where
  | good
  | uncertain
  | bad
  | stale
deriving DecidableEq, Repr

/-- Table 1.3. -/
inductive Band where
  | critLow
  | low
  | normal
  | high
  | critHigh
deriving DecidableEq, Repr

/-- Priorities of Table 7.3. -/
inductive Priority where
  | critical
  | high
  | low
  | notice
deriving DecidableEq, Repr

/-- Levels of Table 7.3 that a side condition carries; ANY is a minimum level only. -/
inductive Level where
  | low
  | high
  | crit
deriving DecidableEq, Repr

/-- A limit set with its deadband (section 1.4); an absent limit is a bound never crossed. -/
structure LimitSet where
  critLow  : Option Int
  low      : Option Int
  high     : Option Int
  critHigh : Option Int
  deadband : Nat
deriving DecidableEq, Repr

/-- The configuration fields of a point (Table 1.5), which belong to the settings image (R2). -/
structure PointConfig where
  staleLimit   : Nat
  limits       : LimitSet
  loPriority   : Priority
  loCritPriority : Priority
  hiPriority   : Priority
  hiCritPriority : Priority
  qualityAlarm : Bool
  associated   : Option Chan
  protect      : Bool
deriving DecidableEq, Repr

/-- A point record (Table 1.5). -/
structure PointRecord where
  config     : PointConfig
  value      : Int
  quality    : Quality
  age        : Nat
  band       : Band
  reportedLo : Option Level
  reportedHi : Option Level
  reportedQuality : Bool
deriving DecidableEq, Repr

/-- The point table: 48 records and the channel-off marks (R2, R11). -/
structure PointTable where
  points   : Tbl PointRecord 48
  offMarks : Tbl Bool 6
deriving DecidableEq, Repr

/-! ### Lot registry (chapter 2) -/

/-- Table 2.2. -/
inductive FuelKind where
  | coal
  | petcoke
  | fuelOil
  | rdf
  | tyreChips
  | solvent
  | woodChips
deriving DecidableEq, Repr

/-- Channel fuel class (Table 3.4). -/
inductive FuelClass where
  | conv
  | alt
deriving DecidableEq, Repr

/-- The occupied states of Table 2.3; LOT_FREE is a slot without a record. -/
inductive LotState where
  | registered
  | analysed
  | queued
  | drawing
  | exhausted
  | quarantined
deriving DecidableEq, Repr

/-- An analysis with the as-received NCV computed from it, present together (R18, R21). -/
structure Analysis where
  ncvDry   : Nat
  moisture : Nat
  chlorine : Nat
  sulfur   : Nat
  ncvAr    : Nat
deriving DecidableEq, Repr

/-- A lot record (Table 2.4), but for the generation, which the slot keeps, and the queue position, which
the bin queues give. -/
structure LotRecord where
  tag        : Nat
  kind       : FuelKind
  registered : Nat
  remaining  : Nat
  analysis   : Option Analysis
  state      : LotState
  debited    : Nat
deriving DecidableEq, Repr

/-- A lot slot: its generation, kept while free, and its record when occupied (R18). -/
structure LotSlot where
  generation : Nat
  record     : Option LotRecord
deriving DecidableEq, Repr

/-- The lot registry: slots, bin queues of slot numbers head first, overdrawn marks (R18, R29, R36). -/
structure LotRegistry where
  lots      : Tbl LotSlot 32
  queues    : Tbl (List LotNo) 6
  overdrawn : Tbl Bool 6
deriving DecidableEq, Repr

/-! ### Alarm identities (Table 7.2) -/

inductive PointCond where
  | loSide
  | hiSide
  | quality
deriving DecidableEq, Repr

inductive ChannelCond where
  | stall
  | overdrawn
  | lotRejected
deriving DecidableEq, Repr

inductive FiringCond where
  | heatDeficitMain
  | heatDeficitCalc
  | clLimited
deriving DecidableEq, Repr

inductive CoolerCond where
  | flush
  | airShort
  | held
deriving DecidableEq, Repr

inductive SystemCond where
  | tripIn
  | controlLost
  | storeFault
  | accessLocked
  | tableFull
deriving DecidableEq, Repr

/-- The 173 identities of Table 7.2. -/
inductive Identity where
  | point (p : PointNo) (k : PointCond)
  | channel (c : Chan) (k : ChannelCond)
  | firing (k : FiringCond)
  | cooler (k : CoolerCond)
  | system (k : SystemCond)
deriving DecidableEq, Repr

/-! ### Channel controller (chapter 3) -/

/-- Firing location (Table 3.4). -/
inductive Location where
  | main
  | calc
deriving DecidableEq, Repr

/-- Table 3.2. -/
inductive ChannelState where
  | off
  | starting
  | running
  | holding
  | stopping
  | tripped
deriving DecidableEq, Repr

/-- Table 3.3. -/
inductive PairState where
  | none
  | complete
  | awaitCal
  | awaitLimits
deriving DecidableEq, Repr

/-- Trip causes of Table 3.4; TC_ALARM carries the alarm identity. -/
inductive TripCause where
  | tripLine
  | alarm (id : Identity)
  | stall
  | lotRejected
  | emergencyStop
deriving DecidableEq, Repr

/-- The LIMITS half (section 3.2). -/
structure FlowLimits where
  minFlow : Nat
  maxFlow : Nat
  ramp    : Nat
deriving DecidableEq, Repr

/-- The CALIBRATION half (section 3.2). -/
structure Calibration where
  capacity  : Nat
  pulseMass : Nat
deriving DecidableEq, Repr

/-- Both halves in force, present together or absent together (R42). -/
structure Halves where
  limits      : FlowLimits
  calibration : Calibration
deriving DecidableEq, Repr

/-- The stored fields of a channel record (Table 3.5).  The accepted-kind set holds bit n for the kind of
value n; the class follows from it. -/
structure ChannelConfig where
  location : Location
  kinds    : BitVec 7
  clLimit  : Nat
  share    : Nat
  halves   : Option Halves
deriving DecidableEq, Repr

/-- The hold-cause set (Table 3.4). -/
structure HoldCauses where
  controlLost : Bool
  operator    : Bool
  alarm       : Bool
deriving DecidableEq, Repr

/-- A channel record (Table 3.5).  The pair state is computed from the halves (R45). -/
structure ChannelRecord where
  config       : ChannelConfig
  stagedLimits : Option FlowLimits
  stagedCalibration : Option Calibration
  state        : ChannelState
  holds        : HoldCauses
  alarmHolds   : List Identity
  tripCause    : Option TripCause
  startTimer   : Option Timer
  fed          : Nat
  debited      : Nat
  unassigned   : Nat
deriving DecidableEq, Repr

/-- Link state of Table 3.10. -/
inductive LinkState where
  | live
  | lostHold
  | lostFallback
deriving DecidableEq, Repr

/-- The supervision state (Table 3.10).  A running timer keeps the length it was started with (R58). -/
structure Supervision where
  link             : LinkState
  supervisionTimer : Option Timer
  holdTimer        : Option Timer
  supervisionTime  : Nat
  holdTime         : Nat
deriving DecidableEq, Repr

/-- The channel controller. -/
structure ChannelController where
  channels    : Tbl ChannelRecord 6
  supervision : Supervision
deriving DecidableEq, Repr

/-! ### Firing computation (chapter 4) -/

/-- The stored fields of the firing record (Table 4.2). -/
structure FiringConfig where
  ceiling : Option Nat
  tRef    : Nat
  kSa     : Nat
  band    : Nat
  delay   : Nat
deriving DecidableEq, Repr

/-- Credit state and basis (Table 6.2). -/
inductive CreditState where
  | valid
  | frozen
deriving DecidableEq, Repr

/-- The published figures (Table 4.3). -/
structure Published where
  correctedMain : Nat
  correctedCalc : Nat
  credit        : Int
  basis         : CreditState
  deliveredMain : Nat
  deliveredCalc : Nat
  deficitMain   : Nat
  deficitCalc   : Nat
  surplusMain   : Nat
  surplusCalc   : Nat
  altChlorine   : Nat
  substitution  : Nat
  clActive      : Bool
deriving DecidableEq, Repr

/-- The firing record (Table 4.2).  `clZeroed` marks a channel whose target the chlorine stage set to 0
(R46, R78 ask for it); `periodTaken` says whether a firing period has been taken since the last start of
any kind (R73 asks for it).  DEDUCED, log entry 17. -/
structure Firing where
  config      : FiringConfig
  demandMain  : Nat
  demandCalc  : Nat
  lastCredit  : Int
  flushCap    : Option Nat
  target      : Tbl Nat 6
  setpoint    : Tbl Nat 6
  clZeroed    : Tbl Bool 6
  countMain   : Nat
  countCalc   : Nat
  inactive    : Nat
  reportedMain : Bool
  reportedCalc : Bool
  reportedCl  : Bool
  published   : Published
  periodTaken : Bool
deriving DecidableEq, Repr

/-! ### Feeder interface (chapter 5) -/

/-- A channel block (Table 5.2).  A running stall window keeps the stall time it was started with (R96). -/
structure FeederBlock where
  calibration : Option Calibration
  pendingRate : Nat
  appliedRate : Nat
  trim        : Nat
  residue     : Nat
  pulses      : Nat
  uncalibratedPulses : Nat
  stallTime   : Nat
  stallWindow : Option Timer
  expectedSum : Nat
  countedMass : Nat
deriving DecidableEq, Repr

/-! ### Cooler controller (chapter 6) -/

/-- Cooler mode (Table 6.2). -/
inductive CoolerMode where
  | idle
  | normal
  | flush
  | held
  | manual
deriving DecidableEq, Repr

/-- Compartment control (Table 6.2). -/
inductive CompControl where
  | auto
  | fixed
deriving DecidableEq, Repr

/-- The stored fields of a compartment record (Table 6.3). -/
structure CompartmentConfig where
  weight     : Nat
  capacity   : Nat
  minSpeed   : Nat
  control    : CompControl
  fixedSpeed : Nat
deriving DecidableEq, Repr

/-- A compartment record (Table 6.3); the zone follows from the number. -/
structure Compartment where
  config      : CompartmentConfig
  speed       : Nat
  manualSpeed : Nat
  airShort    : Bool
  pressure    : Int
  pressureQuality : Quality
deriving DecidableEq, Repr

/-- The stored fields of the cooler record (Table 6.4). -/
structure CoolerConfig where
  specificAir : Nat
  grateMin    : Nat
  grateMax    : Nat
  bedTarget   : Nat
  grateGain   : Nat
  flushStep   : Nat
  flushTime   : Nat
deriving DecidableEq, Repr

/-- The cooler controller (Tables 6.3, 6.4).  A running flush timer keeps the flush time it was started
with (R109). -/
structure Cooler where
  config      : CoolerConfig
  compartments : Tbl Compartment 8
  mode        : CoolerMode
  grate       : Nat
  manualGrate : Nat
  flushTimer  : Option Timer
  previousP8  : Option Int
  reportedFlush : Bool
  reportedAirShort : Bool
  reportedHeld : Bool
deriving DecidableEq, Repr

/-! ### Alarm table (chapter 7) -/

/-- A present entry of the condition list (R127); an absent condition has none. -/
structure Condition where
  level    : Option Level
  priority : Priority
  pending  : Bool
deriving DecidableEq, Repr

/-- States of a live record (Table 7.3). -/
inductive AlarmState where
  | activeUnack
  | activeAcked
  | clearedUnack
deriving DecidableEq, Repr

/-- A stamp: the clock's day count and seconds of day with the open shift's number (R151). -/
structure Stamp where
  day   : Nat
  secs  : Nat
  shift : Nat
deriving DecidableEq, Repr

/-- A live alarm record (Table 7.4), its handle apart, which slot number and generation give. -/
structure AlarmRecord where
  identity     : Identity
  level        : Option Level
  priority     : Priority
  state        : AlarmState
  cameStamp    : Option Stamp
  changeStamp  : Option Stamp
  repeats      : Nat
  late         : Bool
  ackedBy      : Option Port
  shelvedUntil : Option Nat
  markControl  : Bool
  markPanel    : Bool
  annunciate   : Bool
  lost         : Nat
deriving DecidableEq, Repr

/-- What a record slot holds (R128). -/
inductive SlotContent where
  | free
  | live (r : AlarmRecord)
  | stub (identity : Identity) (markControl : Bool) (markPanel : Bool)
deriving DecidableEq, Repr

/-- A record slot with its generation (R128). -/
structure AlarmSlot where
  generation : Nat
  content    : SlotContent
deriving DecidableEq, Repr

/-- Minimum level of a trip-map entry (R140). -/
inductive MinLevel where
  | any
  | crit
deriving DecidableEq, Repr

/-- Trip-map actions (Table 7.6); an entry with ACT_NONE is empty. -/
inductive TripAction where
  | holdChannel (c : Chan)
  | tripChannel (c : Chan)
  | tripLocation (l : Location)
  | tripAll
deriving DecidableEq, Repr

/-- The contents of a trip-map entry (R140). -/
structure TripRule where
  identity : Identity
  minLevel : MinLevel
  action   : TripAction
deriving DecidableEq, Repr

/-- A trip-map entry with its in-force mark (R140). -/
structure TripEntry where
  rule    : Option TripRule
  inForce : Bool
deriving DecidableEq, Repr

/-- The alarm table: the condition list in source order, the record slots, the trip map, the latest
report notice of the shift tally unit, and the two outputs (R127, R128, R140, R144, R146). -/
structure AlarmTable where
  conditions : Tbl (Option Condition) 173
  slots      : Tbl AlarmSlot 65
  tripMap    : Tbl TripEntry 16
  reportWaiting : Bool
  horn       : Bool
  attention  : Bool
deriving DecidableEq, Repr

/-! ### Shift tally unit (chapter 8) -/

/-- The clock while set (R151). -/
structure Clock where
  day  : Nat
  secs : Nat
deriving DecidableEq, Repr

/-- The shift plan (R153), in minutes. -/
structure ShiftPlan where
  length     : Nat
  firstStart : Nat
deriving DecidableEq, Repr

/-- A channel tally (Table 8.3). -/
structure ChannelTally where
  fed      : Nat
  heat     : Nat
  chlorine : Nat
  sulfur   : Nat
  running  : Nat
  trips    : Nat
deriving DecidableEq, Repr

/-- An entry of the lot contribution list (R156). -/
structure LotEntry where
  tag  : Nat
  kind : FuelKind
  kg   : Nat
deriving DecidableEq, Repr

/-- Came counts, one per priority (R157). -/
structure CameCounts where
  critical : Nat
  high     : Nat
  low      : Nat
  notice   : Nat
deriving DecidableEq, Repr

/-- Seconds spent in each cooler mode (R158). -/
structure ModeSeconds where
  idle   : Nat
  normal : Nat
  flush  : Nat
  held   : Nat
  manual : Nat
deriving DecidableEq, Repr

/-- A tally record (Table 8.2). -/
structure Tally where
  number     : Nat
  start      : Option Stamp
  finish     : Option Stamp
  overrun    : Bool
  channels   : Tbl ChannelTally 6
  unassigned : Nat
  heatMain   : Nat
  heatCalc   : Nat
  heatAlt    : Nat
  lots       : List LotEntry
  otherLots  : Nat
  otherKg    : Nat
  came       : CameCounts
  modes      : ModeSeconds
  clinker    : Nat
  missing    : Nat
  substitution : Option Nat
  specificHeat : Option Nat
  corrected  : Bool
  readSummary  : Bool
  readChannels : Bool
  readLots     : Bool
deriving DecidableEq, Repr

/-- The shift tally unit, with the residues that belong to no shift and the last-tag table (R154, R156). -/
structure ShiftUnit where
  clock      : Option Clock
  plan       : ShiftPlan
  current    : Tally
  held       : Option Tally
  chlorineResidue : Tbl Nat 6
  sulfurResidue   : Tbl Nat 6
  clinkerResidue  : Nat
  lastTags   : Tbl (Option Nat) 6
deriving DecidableEq, Repr

/-! ### Access unit (chapter 9) -/

/-- The access record (Table 9.3).  The access state is ACC_OPEN exactly while the open timer runs (R168),
so the timer stands for both. -/
structure Access where
  openTimer  : Option Timer
  mismatches : Nat
  lockout    : Bool
  reportedLocked : Bool
  word       : BitVec 64
deriving DecidableEq, Repr

/-! ### Link interface (chapter 10) -/

/-- Status codes (Table 10.5). -/
inductive Status where
  | ok
  | okNoChange
  | okClamped
  | badFrame
  | unknownRequest
  | notPermitted
  | accessRequired
  | accessDenied
  | accessLocked
  | staleHandle
  | notFound
  | wrongState
  | full
  | duplicate
  | outOfRange
  | limitOrder
  | limitExceeded
  | kindMismatch
  | busy
  | heldPending
  | shelveDenied
deriving DecidableEq, Repr

/-- A response: kind, status, sequence and the response's own fields (R179). -/
structure Response where
  kind   : Byte
  status : Status
  seq    : Byte
  fields : List Byte
deriving DecidableEq, Repr

/-- The control port: its response buffer and counts (R182, R189).  `dataOut` is the model's record of
every byte shifted out on data-out in the latest transfer that was not ignored (DESIGN CHOICE, log entry 19). -/
structure ControlPort where
  buffer    : Option Response
  taken     : Nat
  badFrames : Nat
  discardedResponses : Nat
  dataOut   : List Byte
deriving DecidableEq, Repr

/-- The panel receiver (R183): in LENGTH the sync has come, in BODY the length and the bytes so far. -/
inductive Receiver where
  | hunt
  | length
  | body (length : Nat) (got : List Byte)
deriving DecidableEq, Repr

/-- The panel port (R183, R184, R189).  `sending` is the response in the buffer being sent; the
transmitter is idle when there is none. -/
structure PanelPort where
  receiver  : Receiver
  held      : Option Frame
  sending   : Option Response
  taken     : Nat
  badFrames : Nat
  discardedFrames : Nat
deriving DecidableEq, Repr

/-! ### Settings store (chapter 11) -/

/-- The settings of the image, by owner (Table 11.3). -/
structure Settings where
  points       : Tbl PointConfig 48
  channels     : Tbl ChannelConfig 6
  supervisionTime : Nat
  holdTime     : Nat
  firing       : FiringConfig
  compartments : Tbl CompartmentConfig 8
  cooler       : CoolerConfig
  tripMap      : Tbl (Option TripRule) 16
  plan         : ShiftPlan
  word         : BitVec 64
deriving DecidableEq, Repr

/-- The non-volatile image (R193, R195): never written; spoiled, by a write cut off or not held, so that its
check fails; or written, with its settings and their check. -/
inductive Image where
  | neverWritten
  | spoiled
  | written (settings : Settings) (check : BitVec 16)
deriving DecidableEq, Repr

/-- Save result (Table 11.2). -/
inductive SaveResult where
  | none
  | done
  | failed
deriving DecidableEq, Repr

/-- Reset cause (Table 11.2). -/
inductive ResetCause where
  | powerOn
  | pin
  | warm
deriving DecidableEq, Repr

/-- The settings store: the image and the store record (R193, R197).  The save state is SAVE_IN_FLIGHT
exactly while `inFlight` holds the settings taken (R194). -/
structure Store where
  image         : Image
  imageValid    : Bool
  inFlight      : Option Settings
  lastResult    : SaveResult
  reportedFault : Bool
  cause         : ResetCause
  unclean       : Bool
deriving DecidableEq, Repr

/-! ### The part -/

/-- Where the part stands between power and running (R196). -/
inductive Phase where
  /-- Without power, or held in reset while power rises. -/
  | off
  /-- Powered, the reset input asserted. -/
  | held
  /-- The start-up phase. -/
  | startUp
  /-- Out of the start-up phase. -/
  | running
deriving DecidableEq, Repr

/-- The whole part, and the queue of the commands that wait. -/
structure State where
  /-- Commands waiting, first in, first out (the model's own). -/
  pending : List Instr
  phase   : Phase
  /-- The trip input line: asserted or not (R54). -/
  tripLine : Bool
  ptb : PointTable
  lrg : LotRegistry
  chc : ChannelController
  fsc : Firing
  fdi : Tbl FeederBlock 6
  clc : Cooler
  alt : AlarmTable
  sht : ShiftUnit
  acu : Access
  control : ControlPort
  panel   : PanelPort
  sst : Store
  /-- How many commands have been taken: the moment by which timers are told (the model's own; log
  entry 4). -/
  moment : Nat
deriving DecidableEq, Repr

/-! ### Defaults of the settings (Tables 1.7, 3.11, 6.7; R84, R149, R166, R176) -/

def LimitSet.absent : LimitSet := ⟨none, none, none, none, 0⟩

/-- The associated channel by default: C1 to C6 for P18 to P23, absent for the others (Table 1.7). -/
def defaultAssociated (p : PointNo) : Option Chan :=
  if h : 18 ≤ p.val ∧ p.val ≤ 23 then some ⟨p.val - 18, by omega⟩ else none

/-- Table 1.7. -/
def PointConfig.default (p : PointNo) : PointConfig :=
  { staleLimit := 0, limits := .absent
    loPriority := .low, loCritPriority := .high, hiPriority := .low, hiCritPriority := .high
    qualityAlarm := false, associated := defaultAssociated p, protect := false }

/-- The conventional kinds: coal, petcoke, fuel oil (Table 2.2). -/
def kindsConv : BitVec 7 := 0b0000111#7
/-- The alternative kinds: refuse-derived fuel, tyre chips, solvent, wood chips (Table 2.2). -/
def kindsAlt : BitVec 7 := 0b1111000#7

/-- Table 3.11. -/
def ChannelConfig.default (c : Chan) : ChannelConfig :=
  { location := if c.val < 3 then .main else .calc
    kinds := if c.val = 0 ∨ c.val = 3 then kindsConv else kindsAlt
    clLimit := 0, share := 0, halves := none }

/-- R84. -/
def FiringConfig.default : FiringConfig :=
  { ceiling := none, tRef := Config.tRefDefault, kSa := Config.kSaDefault
    band := Config.bandDefault, delay := Config.delayDefault }

/-- Table 6.7, compartments. -/
def CompartmentConfig.default : CompartmentConfig :=
  { weight := 125, capacity := 100000, minSpeed := 200, control := .auto, fixedSpeed := 0 }

/-- Table 6.7, cooler record. -/
def CoolerConfig.default : CoolerConfig :=
  { specificAir := 2100, grateMin := 40, grateMax := 200, bedTarget := 5500, grateGain := 0
    flushStep := 1500, flushTime := 120 }

/-- Entry 0 of the default trip map: POINT 7/LO_SIDE at CRIT trips MAIN (R149). -/
def TripRule.flameFailure : TripRule :=
  { identity := .point 7 .loSide, minLevel := .crit, action := .tripLocation .main }

/-- The settings every block takes where the image is invalid (Table 11.3). -/
def Settings.default : Settings :=
  { points := Tbl.make (PointConfig.default 0) PointConfig.default
    channels := Tbl.make (ChannelConfig.default 0) ChannelConfig.default
    supervisionTime := Config.supervisionTimeDefault, holdTime := Config.holdTimeDefault
    firing := .default
    compartments := Tbl.all 8 .default
    cooler := .default
    tripMap := (Tbl.all 16 none).put 0 (some .flameFailure)
    plan := { length := 480, firstStart := 360 }
    word := Config.wordBlank }

/-! ### Each block as it starts at power-on and at pin reset, on given settings -/

/-- R16. -/
def PointTable.start (st : Settings) : PointTable :=
  { points := Tbl.make
      { config := PointConfig.default 0, value := 0, quality := .bad, age := Config.ageMax, band := .normal
        reportedLo := none, reportedHi := none, reportedQuality := false }
      fun p =>
        { config := st.points.get p, value := 0, quality := .bad, age := Config.ageMax, band := .normal
          reportedLo := none, reportedHi := none, reportedQuality := false }
    offMarks := Tbl.all 6 true }

/-- R40. -/
def LotRegistry.start : LotRegistry :=
  { lots := Tbl.all 32 { generation := 0, record := none }
    queues := Tbl.all 6 []
    overdrawn := Tbl.all 6 false }

/-- The empty hold-cause set. -/
def HoldCauses.empty : HoldCauses := ⟨false, false, false⟩

/-- A channel record as R64 starts it. -/
def ChannelRecord.start (cf : ChannelConfig) : ChannelRecord :=
  { config := cf, stagedLimits := none, stagedCalibration := none, state := .off
    holds := .empty, alarmHolds := [], tripCause := none, startTimer := none
    fed := 0, debited := 0, unassigned := 0 }

/-- R64, before the end of the start-up phase.  That the link state is SV_LIVE, with its timers stopped, from the
beginning of the phase and not from its end only is DEDUCED, unsafe (log entry 36). -/
def ChannelController.start (st : Settings) : ChannelController :=
  { channels := Tbl.make (.start (ChannelConfig.default 0)) fun c => .start (st.channels.get c)
    supervision :=
      { link := .live, supervisionTimer := none, holdTimer := none
        supervisionTime := st.supervisionTime, holdTime := st.holdTime } }

/-- Published figures all 0, basis CREDIT_FROZEN, flag clear (R84). -/
def Published.zero : Published :=
  { correctedMain := 0, correctedCalc := 0, credit := 0, basis := .frozen
    deliveredMain := 0, deliveredCalc := 0, deficitMain := 0, deficitCalc := 0
    surplusMain := 0, surplusCalc := 0, altChlorine := 0, substitution := 0, clActive := false }

/-- R84. -/
def Firing.start (st : Settings) : Firing :=
  { config := st.firing, demandMain := 0, demandCalc := 0, lastCredit := 0, flushCap := none
    target := Tbl.all 6 0, setpoint := Tbl.all 6 0, clZeroed := Tbl.all 6 false
    countMain := 0, countCalc := 0, inactive := 0
    reportedMain := false, reportedCalc := false, reportedCl := false
    published := .zero, periodTaken := false }

/-- A channel block as R102 starts it. -/
def FeederBlock.start (cal : Option Calibration) : FeederBlock :=
  { calibration := cal, pendingRate := 0, appliedRate := 0, trim := Config.trimNominal, residue := 0
    pulses := 0, uncalibratedPulses := 0, stallTime := Config.stallTimeDefault, stallWindow := none
    expectedSum := 0, countedMass := 0 }

/-- R102. -/
def feedersStart (st : Settings) : Tbl FeederBlock 6 :=
  Tbl.make (.start none) fun c => .start ((st.channels.get c).halves.map (·.calibration))

/-- The speed a compartment takes in CM_IDLE: min speed when AUTO, fixed speed when FIXED (R114, R123). -/
def CompartmentConfig.idleSpeed (cf : CompartmentConfig) : Nat :=
  match cf.control with
  | .auto => cf.minSpeed
  | .fixed => cf.fixedSpeed

/-- A compartment record as R123 starts it.  The pressure as read has no value in the spec before the
first period: DESIGN CHOICE 0 with PQ_BAD, unsafe (log entry 2). -/
def Compartment.start (cf : CompartmentConfig) : Compartment :=
  { config := cf, speed := cf.idleSpeed, manualSpeed := cf.idleSpeed, airShort := false
    pressure := 0, pressureQuality := .bad }

/-- R123. -/
def Cooler.start (st : Settings) : Cooler :=
  { config := st.cooler
    compartments := Tbl.make (.start .default) fun k => .start (st.compartments.get k)
    mode := .idle, grate := st.cooler.grateMin, manualGrate := st.cooler.grateMin
    flushTimer := none, previousP8 := none
    reportedFlush := false, reportedAirShort := false, reportedHeld := false }

/-- R149. -/
def AlarmTable.start (st : Settings) : AlarmTable :=
  { conditions := Tbl.all 173 none
    slots := Tbl.all 65 { generation := 0, content := .free }
    tripMap := Tbl.make { rule := none, inForce := false } fun e => { rule := st.tripMap.get e, inForce := false }
    reportWaiting := false, horn := false, attention := false }

/-- A channel tally at 0. -/
def ChannelTally.zero : ChannelTally := ⟨0, 0, 0, 0, 0, 0⟩

/-- A tally record as R154 opens it. -/
def Tally.opened (number : Nat) (start : Option Stamp) : Tally :=
  { number := number, start := start, finish := none, overrun := false
    channels := Tbl.all 6 .zero, unassigned := 0, heatMain := 0, heatCalc := 0, heatAlt := 0
    lots := [], otherLots := 0, otherKg := 0, came := ⟨0, 0, 0, 0⟩, modes := ⟨0, 0, 0, 0, 0⟩
    clinker := 0, missing := 0, substitution := none, specificHeat := none, corrected := false
    readSummary := false, readChannels := false, readLots := false }

/-- R166. -/
def ShiftUnit.start (st : Settings) : ShiftUnit :=
  { clock := none, plan := st.plan, current := .opened 1 none, held := none
    chlorineResidue := Tbl.all 6 0, sulfurResidue := Tbl.all 6 0, clinkerResidue := 0
    lastTags := Tbl.all 6 none }

/-- R176. -/
def Access.start (st : Settings) : Access :=
  { openTimer := none, mismatches := 0, lockout := false, reportedLocked := false, word := st.word }

/-- R191. -/
def ControlPort.start : ControlPort :=
  { buffer := none, taken := 0, badFrames := 0, discardedResponses := 0, dataOut := [] }

/-- R191. -/
def PanelPort.start : PanelPort :=
  { receiver := .hunt, held := none, sending := none, taken := 0, badFrames := 0, discardedFrames := 0 }

/-! ### After reset -/

/-- The part without power, its store never written: what a POWER_ON finds when the part is first used.
The volatile fields hold the values a start will write. -/
def State.off : State :=
  { pending := [], phase := .off, tripLine := false
    ptb := .start .default, lrg := .start, chc := .start .default, fsc := .start .default
    fdi := feedersStart .default, clc := .start .default, alt := .start .default
    sht := .start .default, acu := .start .default, control := .start, panel := .start
    sst := { image := .neverWritten, imageValid := false, inFlight := none, lastResult := .none
             reportedFault := false, cause := .powerOn, unclean := false }
    moment := 0 }

/-- The record of SYSTEM/STORE_FAULT that the first start writes into slot 0 (R129, R196): the clock is
unset, so both stamps are absent. -/
def storeFaultRecord : AlarmRecord :=
  { identity := .system .storeFault, level := none, priority := .high, state := .activeUnack
    cameStamp := none, changeStamp := none, repeats := 0, late := false, ackedBy := none
    shelvedUntil := none, markControl := true, markPanel := true, annunciate := true, lost := 0 }

/-- The alarm table after the first start: SYSTEM/STORE_FAULT (place 170 of the source order, R125) is
present, PRI_HIGH, with its record in slot 0, the horn on and the attention line asserted (R144, R146). -/
def AlarmTable.afterFirstStart : AlarmTable :=
  { AlarmTable.start .default with
    conditions := (AlarmTable.start .default).conditions.put 170
      (some { level := none, priority := .high, pending := false })
    slots := (AlarmTable.start .default).slots.put 0 { generation := 1, content := .live storeFaultRecord }
    horn := true
    attention := true }

/-- The part right after its first power-on (R196): in its start-up phase, on the defaults, because the
image of a store that has never been written is invalid (R193), with SYSTEM/STORE_FAULT raised and counted
in shift 1 (R166).  The theorem `test_powerOn_gives_reset` shows that POWER_ON leads here from
`State.off`. -/
def State.reset : State :=
  { State.off with
    phase := .startUp
    alt := .afterFirstStart
    sht := { ShiftUnit.start .default with
             current := { Tally.opened 1 none with came := ⟨0, 1, 0, 0⟩ } }
    sst := { State.off.sst with reportedFault := true } }

end Sys2Proof.Machine
end

