-- ==== Sys2Proof/Machine/Flags.lean ====
section
/-! DEFINITION. What the spec computes from the state rather than stores: ranges, classes, views, and the
conditions and outputs that are due.
-/

namespace Sys2Proof.Machine

/-! ### Kinds and classes (Table 2.2) -/

/-- The value of a fuel kind, which is its bit in an accepted-kind set (Table 10.3). -/
def FuelKind.code : FuelKind → Nat
  | .coal => 0
  | .petcoke => 1
  | .fuelOil => 2
  | .rdf => 3
  | .tyreChips => 4
  | .solvent => 5
  | .woodChips => 6

/-- The class of a kind (R20). -/
def FuelKind.fuelClass : FuelKind → FuelClass
  | .coal | .petcoke | .fuelOil => .conv
  | .rdf | .tyreChips | .solvent | .woodChips => .alt

/-- Whether a kind is in an accepted-kind set. -/
def hasKind (kinds : BitVec 7) (k : FuelKind) : Bool := kinds.getLsbD k.code

/-- Whether the kinds of a set are all of one class (R43). -/
def oneClass (kinds : BitVec 7) : Bool := kinds &&& kindsConv == 0 || kinds &&& kindsAlt == 0

/-- The class of a set of one class: CLASS_ALT where it names an alternative kind (R43). -/
def classOf (kinds : BitVec 7) : FuelClass := if kinds &&& kindsAlt == 0 then .conv else .alt

/-- The class of a channel (Table 3.5). -/
def ChannelRecord.fuelClass (r : ChannelRecord) : FuelClass := classOf r.config.kinds

/-! ### Points -/

/-- The range of a point (Table 1.4). -/
def pointRange (p : PointNo) : Int × Int :=
  match p.val with
  | 0 => (0, 2000)
  | 1 => (0, 2100)
  | 2 => (0, 30000)
  | 3 => (0, 1200)
  | 4 => (0, 1400)
  | 5 => (0, 1200)
  | 6 => (0, 6000)
  | 7 => (0, 1000)
  | 8 | 9 | 10 | 11 | 12 | 13 | 14 | 15 => (0, 12000)
  | 16 => (0, 400)
  | 17 => (0, 600)
  | 18 | 19 | 20 | 21 | 22 | 23 => (0, 1000)
  | _ => (-32768, 32767)

/-- A value brought to the nearer end of the point's range (R4). -/
def clampToRange (p : PointNo) (v : Int) : Int :=
  max (pointRange p).1 (min v (pointRange p).2)

def Quality.usable : Quality → Bool
  | .good | .uncertain => true
  | .bad | .stale => false

/-- `v` lies strictly above a present limit. -/
def above (v : Int) : Option Int → Bool
  | none => false
  | some l => decide (l < v)

/-- `v` lies strictly below a present limit. -/
def below (v : Int) : Option Int → Bool
  | none => false
  | some l => decide (v < l)

/-- `v` is at or above a present limit less the deadband. -/
def notUnder (v : Int) (d : Nat) : Option Int → Bool
  | none => false
  | some l => decide (l - d ≤ v)

/-- `v` is at or below a present limit plus the deadband. -/
def notOver (v : Int) (d : Nat) : Option Int → Bool
  | none => false
  | some l => decide (v ≤ l + d)

/-- Band evaluation: the ordered tests of Table 1.6 (R7). -/
def evaluateBand (l : LimitSet) (held : Band) (v : Int) : Band :=
  if above v l.critHigh then .critHigh
  else if below v l.critLow then .critLow
  else if above v l.high then
    if held = .critHigh ∧ notUnder v l.deadband l.critHigh then .critHigh else .high
  else if below v l.low then
    if held = .critLow ∧ notOver v l.deadband l.critLow then .critLow else .low
  else if held = .critHigh ∧ notUnder v l.deadband l.critHigh then .critHigh
  else if held = .critLow ∧ notOver v l.deadband l.critLow then .critLow
  else if (held = .critHigh ∨ held = .high) ∧ notUnder v l.deadband l.high then .high
  else if (held = .critLow ∨ held = .low) ∧ notOver v l.deadband l.low then .low
  else .normal

/-- Whether a point's conditions are suppressed: its associated channel's channel-off mark is set (R9). -/
def PointTable.suppressed (t : PointTable) (p : PointNo) : Bool :=
  match (t.points.get p).config.associated with
  | none => false
  | some c => t.offMarks.get c

/-- The level at which the lo-side condition is due (R9). -/
def PointTable.dueLo (t : PointTable) (p : PointNo) : Option Level :=
  if t.suppressed p then none
  else match (t.points.get p).band with
    | .critLow => some .crit
    | .low => some .low
    | _ => none

/-- The level at which the hi-side condition is due (R9). -/
def PointTable.dueHi (t : PointTable) (p : PointNo) : Option Level :=
  if t.suppressed p then none
  else match (t.points.get p).band with
    | .critHigh => some .crit
    | .high => some .high
    | _ => none

/-- Whether the quality condition is due (R9). -/
def PointTable.dueQuality (t : PointTable) (p : PointNo) : Bool :=
  !t.suppressed p && !(t.points.get p).quality.usable && (t.points.get p).config.qualityAlarm

/-! ### Lots and queues -/

/-- The lot record in a slot, where it is occupied. -/
def LotRegistry.lot (g : LotRegistry) (i : LotNo) : Option LotRecord := (g.lots.get i).record

/-- The slot at the head of a channel's queue. -/
def LotRegistry.head (g : LotRegistry) (c : Chan) : Option LotNo := (g.queues.get c).head?

/-- The record of the lot at the head of a channel's queue (R37). -/
def LotRegistry.headLot (g : LotRegistry) (c : Chan) : Option LotRecord := (g.head c).bind g.lot

/-- As-received NCV of the head as the queue view shows it; 0 without a head (R37, R66). -/
def LotRegistry.headNcv (g : LotRegistry) (c : Chan) : Nat :=
  match (g.headLot c).bind (·.analysis) with
  | none => 0
  | some a => a.ncvAr

/-- Chlorine of the head; 0 without a head (R37, R76). -/
def LotRegistry.headChlorine (g : LotRegistry) (c : Chan) : Nat :=
  match (g.headLot c).bind (·.analysis) with
  | none => 0
  | some a => a.chlorine

/-- The channel whose queue holds a lot, and its place from 1 (R29). -/
def LotRegistry.position (g : LotRegistry) (i : LotNo) : Option (Chan × Nat) :=
  (List.finRange 6).findSome? fun c =>
    if i ∈ g.queues.get c then some (c, (g.queues.get c).idxOf i + 1) else none

/-- The slot of the lot that holds a tag (R19). -/
def LotRegistry.findTag (g : LotRegistry) (tag : Nat) : Option LotNo :=
  (List.finRange 32).find? fun i => (g.lot i).any fun r => r.tag == tag

/-- The lowest free lot slot (R22). -/
def LotRegistry.freeSlot (g : LotRegistry) : Option LotNo :=
  (List.finRange 32).find? fun i => (g.lot i).isNone

/-- The next generation of a slot: 1 after 0, and 1 after 255 (R19; Conventions, Handles). -/
def nextGeneration (g : Nat) : Nat := if g < Config.generationMax then g + 1 else 1

/-! ### Channels -/

/-- Pair state (Table 3.3, R45). -/
def ChannelRecord.pairState (r : ChannelRecord) : PairState :=
  if r.stagedLimits.isSome then .awaitCal
  else if r.stagedCalibration.isSome then .awaitLimits
  else if r.config.halves.isSome then .complete
  else .none

/-- Active channel states (R66). -/
def ChannelState.active : ChannelState → Bool
  | .starting | .running | .holding | .stopping => true
  | .off | .tripped => false

/-- Whether the hold-cause set is empty. -/
def HoldCauses.isEmpty (h : HoldCauses) : Bool := !h.controlLost && !h.operator && !h.alarm

/-- Limits in force; a channel without halves is never active (R47), and the zeros here then bound nothing
above 0. -/
def ChannelRecord.limits (r : ChannelRecord) : FlowLimits :=
  match r.config.halves with
  | none => ⟨0, 0, 0⟩
  | some h => h.limits

/-- Min flow in force. -/
def ChannelRecord.minFlow (r : ChannelRecord) : Nat := r.limits.minFlow
/-- Max flow in force. -/
def ChannelRecord.maxFlow (r : ChannelRecord) : Nat := r.limits.maxFlow
/-- The step of the ramp: floor(ramp rate / 60) (R78). -/
def ChannelRecord.rampStep (r : ChannelRecord) : Nat := r.limits.ramp / 60
/-- The stopping step: the ramp step, or 1 where that is 0 (R50). -/
def ChannelRecord.stoppingStep (r : ChannelRecord) : Nat :=
  if r.rampStep = 0 then 1 else r.rampStep

/-- The identity a trip cause names for CLEAR_TRIP; TC_EMERGENCY_STOP has none (R57). -/
def TripCause.identity (c : Chan) : TripCause → Option Identity
  | .tripLine => some (.system .tripIn)
  | .alarm i => some i
  | .stall => some (.channel c .stall)
  | .lotRejected => some (.channel c .lotRejected)
  | .emergencyStop => none

/-! ### Cooler -/

/-- The credit state, formed at each read (R120). -/
def creditState (mode : CoolerMode) (p4 : Quality) : CreditState :=
  if mode = .normal ∧ p4 = .good then .valid else .frozen

/-- Zone of a compartment: ZONE_RECUP for 1 to 3 (R105). -/
def isRecup (k : Comp) : Bool := k.val < 3

/-- Whether some air-short flag is set (R111). -/
def Cooler.airShortDue (k : Cooler) : Bool := k.compartments.list.any (·.airShort)

/-! ### Identities (Table 7.2) -/

def PointCond.code : PointCond → Nat
  | .loSide => 0
  | .hiSide => 1
  | .quality => 2

def ChannelCond.code : ChannelCond → Nat
  | .stall => 0
  | .overdrawn => 1
  | .lotRejected => 2

def FiringCond.code : FiringCond → Nat
  | .heatDeficitMain => 0
  | .heatDeficitCalc => 1
  | .clLimited => 2

def CoolerCond.code : CoolerCond → Nat
  | .flush => 0
  | .airShort => 1
  | .held => 2

def SystemCond.code : SystemCond → Nat
  | .tripIn => 0
  | .controlLost => 1
  | .storeFault => 2
  | .accessLocked => 3
  | .tableFull => 4

/-- The place of an identity in source order: by class, then index, then condition (R125). -/
def Identity.rank : Identity → Fin 173
  | .point p k => ⟨3 * p.val + k.code, by have := p.isLt; cases k <;> simp only [PointCond.code] <;> omega⟩
  | .channel c k =>
    ⟨144 + 3 * c.val + k.code, by have := c.isLt; cases k <;> simp only [ChannelCond.code] <;> omega⟩
  | .firing k => ⟨162 + k.code, by cases k <;> simp [FiringCond.code]⟩
  | .cooler k => ⟨165 + k.code, by cases k <;> simp [CoolerCond.code]⟩
  | .system k => ⟨168 + k.code, by cases k <;> simp [SystemCond.code]⟩

/-- The identities in source order (R125). -/
def Identity.all : List Identity :=
  (List.finRange 48).flatMap (fun p => [.point p .loSide, .point p .hiSide, .point p .quality])
  ++ (List.finRange 6).flatMap (fun c => [.channel c .stall, .channel c .overdrawn, .channel c .lotRejected])
  ++ [.firing .heatDeficitMain, .firing .heatDeficitCalc, .firing .clLimited]
  ++ [.cooler .flush, .cooler .airShort, .cooler .held]
  ++ [.system .tripIn, .system .controlLost, .system .storeFault, .system .accessLocked, .system .tableFull]

/-- The fixed priority of an identity without a level (R126); a side condition's priority comes with its
report, and the value here is not used. -/
def Identity.fixedPriority : Identity → Priority
  | .point _ _ => .low
  | .channel _ .stall | .channel _ .lotRejected => .high
  | .channel _ .overdrawn => .low
  | .firing .clLimited => .notice
  | .firing _ => .high
  | .cooler .flush => .high
  | .cooler _ => .low
  | .system .tripIn => .critical
  | .system .accessLocked => .low
  | .system _ => .high

/-- The value of a priority; a smaller one ranks higher (Table 7.3, R126). -/
def Priority.code : Priority → Nat
  | .critical => 1
  | .high => 2
  | .low => 3
  | .notice => 4

/-- Whether an identity is a side condition, the only ones with a level (R126). -/
def Identity.isSide : Identity → Bool
  | .point _ .loSide | .point _ .hiSide => true
  | _ => false

/-- Whether the trip map may name an identity: class POINT, FIRING or COOLER (R140). -/
def Identity.mappable : Identity → Bool
  | .point _ _ | .firing _ | .cooler _ => true
  | .channel _ _ | .system _ => false

/-! ### Alarm table -/

/-- The entry of the condition list for an identity (R127). -/
def AlarmTable.condition (a : AlarmTable) (i : Identity) : Option Condition := a.conditions.get i.rank

/-- Whether an identity's condition is present (R143). -/
def AlarmTable.isPresent (a : AlarmTable) (i : Identity) : Bool := (a.condition i).isSome

/-- The live record in a slot, if it holds one. -/
def AlarmTable.record (a : AlarmTable) (i : SlotNo) : Option AlarmRecord :=
  match (a.slots.get i).content with
  | .live r => some r
  | .free | .stub _ _ _ => none

/-- The slot of the live record of an identity (R128: there is at most one). -/
def AlarmTable.slotOf (a : AlarmTable) (id : Identity) : Option SlotNo :=
  (List.finRange 65).find? fun i => (a.record i).any fun r => r.identity == id

/-- The reserved slot (Table 7.1). -/
def reservedSlot : SlotNo := 64

/-- The ordinary slots, rising. -/
def ordinarySlots : List SlotNo := (List.finRange 65).filter (· != reservedSlot)

/-- The slot a new ordinary record takes: the lowest free one, or else the lowest holding a stub (R129). -/
def AlarmTable.slotForNew (a : AlarmTable) : Option SlotNo :=
  match ordinarySlots.find? (fun i => (a.slots.get i).content == .free) with
  | some i => some i
  | none => ordinarySlots.find? fun i => match (a.slots.get i).content with
      | .stub _ _ _ => true
      | .free | .live _ => false

/-- The pending conditions in source order. -/
def AlarmTable.pendings (a : AlarmTable) : List Identity :=
  Identity.all.filter fun i => (a.condition i).any (·.pending)

/-- Rank of a pending condition: its priority value; equal priorities keep source order (R138). -/
def AlarmTable.pendingPriority (a : AlarmTable) (i : Identity) : Nat :=
  match a.condition i with
  | none => 5
  | some c => c.priority.code

/-- The pending conditions in rank order (R138). -/
def AlarmTable.ranked (a : AlarmTable) : List Identity :=
  [1, 2, 3, 4].flatMap fun n => a.pendings.filter fun i => a.pendingPriority i == n

/-- Whether a live record calls for the horn: an unshelved CRITICAL or HIGH record in ALM_ACTIVE_UNACK with
its annunciate-new flag set (R144). -/
def AlarmRecord.sounds (r : AlarmRecord) : Bool :=
  r.annunciate && r.shelvedUntil.isNone && (r.state == .activeUnack)
    && (r.priority == .critical || r.priority == .high)

/-- The horn output that is due (R144). -/
def AlarmTable.hornDue (a : AlarmTable) : Bool :=
  (List.finRange 65).any fun i => (a.record i).any (·.sounds)

/-- The change mark of a slot for a port (R145); a free slot has none. -/
def AlarmSlot.mark (p : Port) (x : AlarmSlot) : Bool :=
  match x.content, p with
  | .free, _ => false
  | .live r, .control => r.markControl
  | .live r, .panel => r.markPanel
  | .stub _ mc _, .control => mc
  | .stub _ _ mp, .panel => mp

/-- The attention output that is due (R146). -/
def AlarmTable.attentionDue (a : AlarmTable) : Bool :=
  a.reportWaiting || (List.finRange 65).any fun i => (a.slots.get i).mark .control

/-- A level meets a minimum: ANY is met by every level and by none, CRIT by CRIT alone (R141). -/
def MinLevel.metBy : MinLevel → Option Level → Bool
  | .any, _ => true
  | .crit, some .crit => true
  | .crit, _ => false

/-! ### Shift tally unit -/

/-- The present stamp, absent while the clock is unset (R151). -/
def ShiftUnit.stamp (u : ShiftUnit) : Option Stamp :=
  u.clock.map fun k => { day := k.day, secs := k.secs, shift := u.current.number }

/-- Whether a report has been collected: all three read marks are set (R164). -/
def Tally.collected (t : Tally) : Bool := t.readSummary && t.readChannels && t.readLots

/-- Whether the unit holds an uncollected report (R146, R167). -/
def ShiftUnit.reportDue (u : ShiftUnit) : Bool := u.held.any fun t => !t.collected

/-- Whether seconds of day `secs` is a boundary of the plan (R153). -/
def ShiftPlan.isBoundary (p : ShiftPlan) (secs : Nat) : Bool :=
  secs % 60 == 0 && (secs / 60) % p.length == p.firstStart % p.length

/-- The first boundary minute of the plan after seconds of day `secs`, in minutes of day (R165). -/
def ShiftPlan.nextBoundary (p : ShiftPlan) (secs : Nat) : Nat :=
  let m := secs / 60
  (m + (p.length - (m + p.length - p.firstStart % p.length) % p.length)) % 1440

/-! ### Timers, access, store -/

/-- The seconds a timer still has to go at a moment: its length less the time since its start. -/
def Timer.remaining (t : Timer) (now : Nat) : Nat :=
  t.length - (Config.secondsAt now - Config.secondsAt t.since)

/-- Whether engineering access is open (R168). -/
def Access.isOpen (x : Access) : Bool := x.openTimer.isSome

/-- Whether a save is in flight (Table 11.2). -/
def Store.saving (x : Store) : Bool := x.inFlight.isSome

end Sys2Proof.Machine
end

