-- ==== Sys2Proof/Machine/Operands.lean ====
section
/-! DEFINITION. How fields are carried in frames (Table 10.3): numbers, enumerated values, presence, lists
and records; how a payload's length is judged (R185); and the bytes of the settings image (R193).

The spec gives each field its size by its range; where it leaves an order or a size open the layout is the
model's, in log entry 6.
-/

namespace Sys2Proof.Machine

/-! ### Numbers -/

/-- `k` bytes of a number, most significant first. -/
def be : Nat → Nat → List Byte
  | 0, _ => []
  | k + 1, n => BitVec.ofNat 8 (n / 256 ^ k) :: be k n

/-- The number that bytes carry, most significant first. -/
def readBE (bytes : List Byte) : Nat := bytes.foldl (fun a b => a * 256 + b.toNat) 0

/-- The `n`-byte number at place `at_` of the fields. -/
def field (f : List Byte) (at_ n : Nat) : Nat := readBE ((f.drop at_).take n)

/-- One-byte values. -/
def u8 (n : Nat) : List Byte := be 1 n
/-- Quantities of 0 to 65,535. -/
def u16 (n : Nat) : List Byte := be 2 n
/-- Quantities of 0 to 4,294,967,295, and tags. -/
def u32 (n : Nat) : List Byte := be 4 n
/-- Mass counters and shift tallies. -/
def u48 (n : Nat) : List Byte := be 6 n
/-- Signed quantities of −32,768 to 32,767: two's complement. -/
def i16 (z : Int) : List Byte := be 2 (z % 65536).toNat

/-- The signed value of a two-byte number. -/
def signed16 (n : Nat) : Int := if n < 32768 then n else (n : Int) - 65536

/-- A set-or-clear field. -/
def flag (b : Bool) : List Byte := u8 (if b then 1 else 0)

/-- A field with a presence byte. -/
def opt {α : Type} (enc : α → List Byte) : Option α → List Byte
  | none => u8 0
  | some a => u8 1 ++ enc a

/-- A list: a count byte and then its entries. -/
def listOf {α : Type} (enc : α → List Byte) (l : List α) : List Byte := u8 l.length ++ l.flatMap enc

/-! ### Channel, point and compartment numbers -/

/-- Channel named by a number 1 to 6. -/
def chan? (n : Nat) : Option Chan := if h : 1 ≤ n ∧ n ≤ 6 then some ⟨n - 1, by omega⟩ else none
/-- Point named by a number 0 to 47. -/
def point? (n : Nat) : Option PointNo := if h : n < 48 then some ⟨n, h⟩ else none
/-- Compartment named by a number 1 to 8. -/
def comp? (n : Nat) : Option Comp := if h : 1 ≤ n ∧ n ≤ 8 then some ⟨n - 1, by omega⟩ else none
/-- Trip-map entry named by a number 0 to 15. -/
def entry? (n : Nat) : Option EntryNo := if h : n < 16 then some ⟨n, h⟩ else none

/-- The byte of a channel. -/
def chanByte (c : Chan) : List Byte := u8 (c.val + 1)

/-! ### Enumerated values -/

def Quality.code : Quality → Nat
  | .good => 0
  | .uncertain => 1
  | .bad => 2
  | .stale => 3

/-- The quality an update may give: never PQ_STALE (R3). -/
def givenQuality? : Nat → Option Quality
  | 0 => some .good
  | 1 => some .uncertain
  | 2 => some .bad
  | _ => none

def Band.code : Band → Nat
  | .critLow => 0
  | .low => 1
  | .normal => 2
  | .high => 3
  | .critHigh => 4

def Level.code : Level → Nat
  | .low => 1
  | .high => 2
  | .crit => 3

def priority? : Nat → Option Priority
  | 1 => some .critical
  | 2 => some .high
  | 3 => some .low
  | 4 => some .notice
  | _ => none

def kind? : Nat → Option FuelKind
  | 0 => some .coal
  | 1 => some .petcoke
  | 2 => some .fuelOil
  | 3 => some .rdf
  | 4 => some .tyreChips
  | 5 => some .solvent
  | 6 => some .woodChips
  | _ => none

def FuelClass.code : FuelClass → Nat
  | .conv => 0
  | .alt => 1

def LotState.code : LotState → Nat
  | .registered => 1
  | .analysed => 2
  | .queued => 3
  | .drawing => 4
  | .exhausted => 5
  | .quarantined => 6

def Location.code : Location → Nat
  | .main => 0
  | .calc => 1

def location? : Nat → Option Location
  | 0 => some .main
  | 1 => some .calc
  | _ => none

def ChannelState.code : ChannelState → Nat
  | .off => 0
  | .starting => 1
  | .running => 2
  | .holding => 3
  | .stopping => 4
  | .tripped => 5

def PairState.code : PairState → Nat
  | .none => 0
  | .complete => 1
  | .awaitCal => 2
  | .awaitLimits => 3

def TripCause.code : TripCause → Nat
  | .tripLine => 1
  | .alarm _ => 2
  | .stall => 3
  | .lotRejected => 4
  | .emergencyStop => 5

def LinkState.code : LinkState → Nat
  | .live => 0
  | .lostHold => 1
  | .lostFallback => 2

def CreditState.code : CreditState → Nat
  | .valid => 0
  | .frozen => 1

def CoolerMode.code : CoolerMode → Nat
  | .idle => 0
  | .normal => 1
  | .flush => 2
  | .held => 3
  | .manual => 4

def CompControl.code : CompControl → Nat
  | .auto => 0
  | .fixed => 1

def control? : Nat → Option CompControl
  | 0 => some .auto
  | 1 => some .fixed
  | _ => none

/-- State of a live alarm record; 0 is the word retired (Table 7.3). -/
def AlarmState.code : AlarmState → Nat
  | .activeUnack => 1
  | .activeAcked => 2
  | .clearedUnack => 3


/-- A field that names a port (R185). -/
def portCode : Port → Nat
  | .control => 0
  | .panel => 1

def Status.code : Status → Nat
  | .ok => 0
  | .okNoChange => 1
  | .okClamped => 2
  | .badFrame => 3
  | .unknownRequest => 4
  | .notPermitted => 5
  | .accessRequired => 6
  | .accessDenied => 7
  | .accessLocked => 8
  | .staleHandle => 9
  | .notFound => 10
  | .wrongState => 11
  | .full => 12
  | .duplicate => 13
  | .outOfRange => 14
  | .limitOrder => 15
  | .limitExceeded => 16
  | .kindMismatch => 17
  | .busy => 18
  | .heldPending => 19
  | .shelveDenied => 20

def SaveResult.code : SaveResult → Nat
  | .none => 0
  | .done => 1
  | .failed => 2

def ResetCause.code : ResetCause → Nat
  | .powerOn => 0
  | .pin => 1
  | .warm => 2

/-! ### Alarm identities, levels and trip-map entries (Tables 7.2, 7.3, 10.3) -/

/-- Class, index, condition. -/
def Identity.bytes : Identity → List Byte
  | .point p k => u8 0 ++ u8 p.val ++ u8 k.code
  | .channel c k => u8 1 ++ chanByte c ++ u8 k.code
  | .firing k => u8 2 ++ u8 0 ++ u8 k.code
  | .cooler k => u8 3 ++ u8 0 ++ u8 k.code
  | .system k => u8 4 ++ u8 0 ++ u8 k.code

/-- The identity that class, index and condition name, if Table 7.2 has it (R125). -/
def identity? (cls idx cond : Nat) : Option Identity :=
  Identity.all.find? fun i => i.bytes == u8 cls ++ u8 idx ++ u8 cond

/-- The identity in three bytes of the fields. -/
def identityAt (f : List Byte) (at_ : Nat) : Option Identity :=
  identity? (field f at_ 1) (field f (at_ + 1) 1) (field f (at_ + 2) 1)

def MinLevel.code : MinLevel → Nat
  | .any => 0
  | .crit => 3

def minLevel? : Nat → Option MinLevel
  | 0 => some .any
  | 3 => some .crit
  | _ => none

/-- The value of an action (Table 7.6). -/
def TripAction.code : TripAction → Nat
  | .holdChannel _ => 1
  | .tripChannel _ => 2
  | .tripLocation _ => 3
  | .tripAll => 4

/-- The channel or location an action names, or 0 (Table 10.3). -/
def TripAction.operand : TripAction → Nat
  | .holdChannel c | .tripChannel c => c.val + 1
  | .tripLocation l => l.code
  | .tripAll => 0

/-- The action of a value and its operand; none where Table 7.6 has no such action or the operand is not
one the action needs (R140).  ACT_NONE is not among them: it is the word empty. -/
def action? (code operand : Nat) : Option TripAction :=
  match code with
  | 1 => (chan? operand).map .holdChannel
  | 2 => (chan? operand).map .tripChannel
  | 3 => (location? operand).map .tripLocation
  | 4 => some .tripAll
  | _ => none

/-- A trip-map entry in six bytes; the word empty is ACT_NONE, which names no channel or location, so its last
byte is 0 (Table 10.3).  That the identity and minimum level of an empty entry are carried as 0 is a DESIGN CHOICE,
unsafe (log entry 39). -/
def tripRuleBytes : Option TripRule → List Byte
  | none => [0, 0, 0, 0, 0, 0]
  | some r => u8 r.action.code ++ r.identity.bytes ++ u8 r.minLevel.code ++ u8 r.action.operand

/-! ### Handles, references, stamps -/

/-- A handle: slot, then generation. -/
def handleBytes (slot generation : Nat) : List Byte := u8 slot ++ u8 generation

/-- A stamp: day count, seconds of day, shift number. -/
def stampBytes (t : Stamp) : List Byte := u16 t.day ++ u32 t.secs ++ u16 t.shift

/-- A timer as it is read: whether it runs, and the seconds it still has to go (log entries 4, 6). -/
def timerBytes (now : Nat) (t : Option Timer) : List Byte := opt (fun t => u16 (Timer.remaining t now)) t

/-! ### Settings of the image, in the order of Table 11.3 -/

def limitSetBytes (l : LimitSet) : List Byte :=
  opt i16 l.critLow ++ opt i16 l.low ++ opt i16 l.high ++ opt i16 l.critHigh ++ u16 l.deadband

def prioritiesBytes (c : PointConfig) : List Byte :=
  u8 c.loPriority.code ++ u8 c.loCritPriority.code ++ u8 c.hiPriority.code ++ u8 c.hiCritPriority.code

def pointConfigBytes (c : PointConfig) : List Byte :=
  u16 c.staleLimit ++ limitSetBytes c.limits ++ prioritiesBytes c ++ flag c.qualityAlarm
    ++ opt chanByte c.associated ++ flag c.protect

def flowLimitsBytes (l : FlowLimits) : List Byte := u16 l.minFlow ++ u16 l.maxFlow ++ u16 l.ramp

def calibrationBytes (k : Calibration) : List Byte := u32 k.capacity ++ u16 k.pulseMass

def channelConfigBytes (c : ChannelConfig) : List Byte :=
  u8 c.location.code ++ u8 c.kinds.toNat ++ u16 c.clLimit ++ u16 c.share
    ++ opt flowLimitsBytes (c.halves.map (·.limits)) ++ opt calibrationBytes (c.halves.map (·.calibration))

def firingConfigBytes (c : FiringConfig) : List Byte :=
  opt u32 c.ceiling ++ u16 c.tRef ++ u16 c.kSa ++ u16 c.band ++ u16 c.delay

def compartmentConfigBytes (c : CompartmentConfig) : List Byte :=
  u16 c.weight ++ u32 c.capacity ++ u16 c.minSpeed ++ u8 c.control.code ++ u16 c.fixedSpeed

def coolerConfigBytes (c : CoolerConfig) : List Byte :=
  u16 c.specificAir ++ u16 c.grateMin ++ u16 c.grateMax ++ u16 c.bedTarget ++ u16 c.grateGain
    ++ u16 c.flushStep ++ u16 c.flushTime

/-- The bytes of the image before its check (R193; the layout is a DESIGN CHOICE, log entry 15). -/
def Settings.bytes (st : Settings) : List Byte :=
  st.points.list.flatMap pointConfigBytes
    ++ st.channels.list.flatMap channelConfigBytes ++ u16 st.supervisionTime ++ u16 st.holdTime
    ++ firingConfigBytes st.firing
    ++ st.compartments.list.flatMap compartmentConfigBytes ++ coolerConfigBytes st.cooler
    ++ st.tripMap.list.flatMap tripRuleBytes
    ++ u16 st.plan.length ++ u16 st.plan.firstStart
    ++ be 8 st.word.toNat

/-- The check of an image over its settings (R193). -/
def Settings.check (st : Settings) : BitVec 16 := crc16 st.bytes

/-- An image is valid where its stored check equals the check formed over its contents (R193). -/
def Image.valid : Image → Bool
  | .neverWritten | .spoiled => false
  | .written st check => check == st.check

/-- The settings a start takes: the image's, or the defaults (R196). -/
def Image.settings : Image → Settings
  | .written st check => if Image.valid (.written st check) then st else .default
  | .neverWritten | .spoiled => .default

/-! ### Responses -/

/-- The bytes of a response frame (Table 10.2). -/
def Response.frame (r : Response) : List Byte :=
  frameOf (r.kind :: BitVec.ofNat 8 r.status.code :: r.seq :: r.fields)

/-! ### The length of a payload (R185) -/

/-- A field by its size: always there, or preceded by a presence byte. -/
inductive FieldSize where
  | fixed (n : Nat)
  | optional (n : Nat)
deriving DecidableEq, Repr

/-- Whether bytes are fields of these sizes, the presence bytes being 0 or 1. -/
def fits : List FieldSize → List Byte → Bool
  | [], bytes => bytes.isEmpty
  | .fixed n :: rest, bytes => n ≤ bytes.length && fits rest (bytes.drop n)
  | .optional _ :: _, [] => false
  | .optional n :: rest, b :: bytes =>
    if b = 0 then fits rest bytes
    else b = 1 && n ≤ bytes.length && fits rest (bytes.drop n)

/-- The value of an optional `n`-byte field at the front of the bytes, and the bytes after it. -/
def takeOpt (n : Nat) (bytes : List Byte) : Option Nat × List Byte :=
  if field bytes 0 1 = 1 then (some (field bytes 1 n), bytes.drop (n + 1)) else (none, bytes.drop 1)

/-- The fields of a request kind; POINT_UPDATE's length is judged by the point table (R185, R3). -/
def kindSizes : Kind → Option (List FieldSize)
  | .readStatus => some []
  | .saveSettings => some []
  | .warmRestart => some []
  | .readLink => some []
  | .pointUpdate => none
  | .readPoint => some [.fixed 1]
  | .setLimits => some [.fixed 1, .optional 2, .optional 2, .optional 2, .optional 2, .fixed 2]
  | .setPointConfig => some [.fixed 1, .fixed 2, .fixed 1, .fixed 1, .fixed 1, .fixed 1, .fixed 1, .optional 1]
  | .setProtectMark => some [.fixed 1, .fixed 1]
  | .registerLot => some [.fixed 4, .fixed 1, .fixed 4]
  | .setAnalysis => some [.fixed 5, .fixed 2, .fixed 2, .fixed 2, .fixed 2]
  | .amendMass => some [.fixed 5, .fixed 4]
  | .enqueueLot => some [.fixed 5, .fixed 1]
  | .dequeueLot => some [.fixed 5]
  | .quarantineLot => some [.fixed 5]
  | .retireLot => some [.fixed 5]
  | .readLot => some [.fixed 5]
  | .findLot => some [.fixed 4]
  | .readQueue => some [.fixed 1]
  | .startChannel => some [.fixed 1]
  | .stopChannel => some [.fixed 1]
  | .holdChannel => some [.fixed 1]
  | .releaseHold => some [.fixed 1]
  | .emergencyStop => some []
  | .clearTrip => some [.fixed 1]
  | .setChannelFuel => some [.fixed 1, .fixed 1, .fixed 1]
  | .setLotClLimit => some [.fixed 1, .fixed 2]
  | .setShare => some [.fixed 1, .fixed 2]
  | .setFlowLimits => some [.fixed 1, .fixed 2, .fixed 2, .fixed 2]
  | .setCalibration => some [.fixed 1, .fixed 4, .fixed 2]
  | .setLinkTimes => some [.fixed 2, .fixed 2]
  | .readChannel => some [.fixed 1]
  | .setDemand => some [.fixed 1, .fixed 2]
  | .setClCeiling => some [.optional 4]
  | .setCreditParams => some [.fixed 2, .fixed 2]
  | .setDeficitAlarm => some [.fixed 2, .fixed 2]
  | .readFiring => some []
  | .setStallTime => some [.fixed 1, .fixed 2]
  | .readFeeder => some [.fixed 1]
  | .coolerMode => some [.fixed 1]
  | .setManualSpeed => some [.fixed 1, .fixed 2]
  | .setManualGrate => some [.fixed 2]
  | .setCompartment => some [.fixed 1, .fixed 2, .fixed 4, .fixed 2]
  | .setCompartmentControl => some [.fixed 1, .fixed 1, .fixed 2]
  | .setCoolerConfig => some [.fixed 2, .fixed 2, .fixed 2, .fixed 2, .fixed 2, .fixed 2, .fixed 2]
  | .readCooler => some []
  | .ackAlarm => some [.fixed 2]
  | .ackAll => some []
  | .shelve => some [.fixed 2, .fixed 2]
  | .unshelve => some [.fixed 2]
  | .silence => some []
  | .collectAlarms => some []
  | .setTripEntry => some [.fixed 1, .fixed 6]
  | .readTripMap => some []
  | .readAlarm => some [.fixed 2]
  | .findAlarm => some [.fixed 3]
  | .readAlarmTable => some []
  | .setClock => some [.fixed 2, .fixed 4]
  | .setShiftPlan => some [.fixed 2, .fixed 2]
  | .shiftClose => some []
  | .releaseShift => some [.fixed 2]
  | .correctShift => some [.fixed 2, .fixed 6]
  | .readShift => some [.fixed 1, .fixed 1]
  | .readClock => some []
  | .accessOpen => some [.fixed 8]
  | .accessClose => some []
  | .setAccessWord => some [.fixed 8]
  | .readAccess => some []

/-- Whether the payload of a kind has the length of its fields and proper presence bytes (R185). -/
def lengthOk (k : Kind) (f : List Byte) : Bool :=
  match kindSizes k with
  | none => true
  | some sizes => fits sizes f

/-- The kinds the panel port may send (R186, Table 10.4). -/
def panelMay : Kind → Bool
  | .readStatus | .readLink | .readPoint | .readLot | .findLot | .readQueue | .holdChannel | .releaseHold |
    .emergencyStop | .readChannel | .readFiring | .readFeeder | .readCooler | .ackAlarm | .shelve |
    .unshelve | .silence | .collectAlarms | .readTripMap | .readAlarm | .findAlarm | .readAlarmTable |
    .readShift | .readClock | .readAccess => true
  | .saveSettings | .warmRestart | .pointUpdate | .setLimits | .setPointConfig | .setProtectMark |
    .registerLot | .setAnalysis | .amendMass | .enqueueLot | .dequeueLot | .quarantineLot | .retireLot |
    .startChannel | .stopChannel | .clearTrip | .setChannelFuel | .setLotClLimit | .setShare |
    .setFlowLimits | .setCalibration | .setLinkTimes | .setDemand | .setClCeiling | .setCreditParams |
    .setDeficitAlarm | .setStallTime | .coolerMode | .setManualSpeed | .setManualGrate | .setCompartment |
    .setCompartmentControl | .setCoolerConfig | .ackAll | .setTripEntry | .setClock | .setShiftPlan |
    .shiftClose | .releaseShift | .correctShift | .accessOpen | .accessClose | .setAccessWord => false

/-- The kinds refused with BUSY while a settings save is in flight (Table 10.4). -/
def busyDuringSave : Kind → Bool
  | .saveSettings | .warmRestart | .setLimits | .setPointConfig | .setProtectMark | .setChannelFuel |
    .setLotClLimit | .setShare | .setFlowLimits | .setCalibration | .setLinkTimes | .setClCeiling |
    .setCreditParams | .setDeficitAlarm | .setCompartment | .setCompartmentControl | .setCoolerConfig |
    .setTripEntry | .setShiftPlan | .setAccessWord => true
  | .readStatus | .readLink | .pointUpdate | .readPoint | .registerLot | .setAnalysis | .amendMass |
    .enqueueLot | .dequeueLot | .quarantineLot | .retireLot | .readLot | .findLot | .readQueue |
    .startChannel | .stopChannel | .holdChannel | .releaseHold | .emergencyStop | .clearTrip | .readChannel
    | .setDemand | .readFiring | .setStallTime | .readFeeder | .coolerMode | .setManualSpeed |
    .setManualGrate | .readCooler | .ackAlarm | .ackAll | .shelve | .unshelve | .silence | .collectAlarms |
    .readTripMap | .readAlarm | .findAlarm | .readAlarmTable | .setClock | .shiftClose | .releaseShift |
    .correctShift | .readShift | .readClock | .accessOpen | .accessClose | .readAccess => false

end Sys2Proof.Machine
end

