-- ==== Sys2Proof/Machine/Ops.lean ====
section
/-! DEFINITION. The operations the blocks share: hand-overs to the feeders, notices to the shift tally unit,
holds and trips, reports to the alarm table, reconciliation of points, the bin queues and debits, access.

Each is a function from state to state, taken whole; the order of definitions is the order in which the
blocks call on one another.
-/

namespace Sys2Proof.Machine

/-! ### Places of the state -/

/-- The six channels in order C1 to C6. -/
def allChans : List Chan := List.finRange 6

def State.chan (s : State) (c : Chan) : ChannelRecord := s.chc.channels.get c

def State.setChan (c : Chan) (r : ChannelRecord) (s : State) : State :=
  { s with chc := { s.chc with channels := s.chc.channels.put c r } }

def State.feeder (s : State) (c : Chan) : FeederBlock := s.fdi.get c

def State.setFeeder (c : Chan) (b : FeederBlock) (s : State) : State := { s with fdi := s.fdi.put c b }

def State.setpoint (s : State) (c : Chan) : Nat := s.fsc.setpoint.get c

def State.setSetpoint (c : Chan) (v : Nat) (s : State) : State :=
  { s with fsc := { s.fsc with setpoint := s.fsc.setpoint.put c v } }

def State.point (s : State) (p : PointNo) : PointRecord := s.ptb.points.get p

def State.setPoint (p : PointNo) (r : PointRecord) (s : State) : State :=
  { s with ptb := { s.ptb with points := s.ptb.points.put p r } }

def State.setLot (i : LotNo) (r : LotRecord) (s : State) : State :=
  { s with lrg := { s.lrg with lots := s.lrg.lots.modify i fun x => { x with record := some r } } }

def State.setQueue (c : Chan) (q : List LotNo) (s : State) : State :=
  { s with lrg := { s.lrg with queues := s.lrg.queues.put c q } }

def State.setAlt (a : AlarmTable) (s : State) : State := { s with alt := a }

/-- A timer started now at a length. -/
def State.timer (s : State) (length : Nat) : Timer := { length := length, since := s.moment }

/-- One more, to no more than a cap. -/
def satInc (cap n : Nat) : Nat := min cap (n + 1)

/-! ### Feeder interface: hand-overs and zeroing -/

/-- The pulse rate for a setpoint, formed exactly before the division (R87). -/
def rateOf (b : FeederBlock) (setpoint : Nat) : Nat :=
  match b.calibration with
  | none => 0
  | some k => min Config.rateMax (setpoint * 10000 * b.trim / (k.capacity * 1000))

/-- A hand-over of a setpoint: its rate becomes the pending rate (R87). -/
def State.handOver (c : Chan) (setpoint : Nat) (s : State) : State :=
  s.setFeeder c { s.feeder c with pendingRate := rateOf (s.feeder c) setpoint }

/-- A setpoint set between firing periods and handed to the feeder. -/
def State.drive (c : Chan) (setpoint : Nat) (s : State) : State :=
  (s.setSetpoint c setpoint).handOver c setpoint

/-- The immediate zeroing of a trip and of a warm restart (R89, R103). -/
def FeederBlock.zeroed (b : FeederBlock) : FeederBlock :=
  { b with pendingRate := 0, appliedRate := 0, stallWindow := none, expectedSum := 0, countedMass := 0 }

/-! ### Shift tally unit: notices -/

/-- One came count stepped (R157). -/
def CameCounts.step (n : CameCounts) : Priority → CameCounts
  | .critical => { n with critical := satInc Config.eventCountMax n.critical }
  | .high => { n with high := satInc Config.eventCountMax n.high }
  | .low => { n with low := satInc Config.eventCountMax n.low }
  | .notice => { n with notice := satInc Config.eventCountMax n.notice }

/-- A came notice (R147, R157). -/
def State.cameNotice (p : Priority) (s : State) : State :=
  { s with sht := { s.sht with current := { s.sht.current with came := s.sht.current.came.step p } } }

/-- A trip notice (R53, R157). -/
def State.tripNotice (c : Chan) (s : State) : State :=
  { s with sht := { s.sht with current := { s.sht.current with
      channels := s.sht.current.channels.modify c fun t =>
        { t with trips := satInc Config.eventCountMax t.trips } } } }

/-! ### Channel controller: holds -/

/-- Entry to CH_RUNNING: a setpoint below the min flow in force is raised to it and handed (R48). -/
def State.enterRunning (c : Chan) (s : State) : State :=
  if s.setpoint c < (s.chan c).minFlow then
    (s.setChan c { s.chan c with state := .running, startTimer := none }).drive c (s.chan c).minFlow
  else s.setChan c { s.chan c with state := .running, startTimer := none }

/-- After a hold cause has been added: a starting or running channel goes to CH_HOLDING, its setpoint
frozen and its start timer stopped (R51). -/
def State.freeze (c : Chan) (s : State) : State :=
  match (s.chan c).state with
  | .starting | .running => s.setChan c { s.chan c with state := .holding, startTimer := none }
  | .off | .holding | .stopping | .tripped => s

/-- After a hold cause has been removed: a holding channel whose set is empty goes to CH_RUNNING (R51). -/
def State.resume (c : Chan) (s : State) : State :=
  if (s.chan c).state = .holding ∧ (s.chan c).holds.isEmpty then s.enterRunning c else s

/-- A hold action of the alarm table (R52).  That a new identity stands last in the alarm-hold list is a
DESIGN CHOICE, unsafe: no rule gives the list an order (log entry 38). -/
def State.holdAction (c : Chan) (id : Identity) (s : State) : State :=
  let r := s.chan c
  (s.setChan c { r with
      alarmHolds := if id ∈ r.alarmHolds then r.alarmHolds else r.alarmHolds ++ [id]
      holds := { r.holds with alarm := true } }).freeze c

/-- A hold release of the alarm table (R52). -/
def State.holdRelease (c : Chan) (id : Identity) (s : State) : State :=
  let r := s.chan c
  if id ∈ r.alarmHolds then
    (s.setChan c { r with
        alarmHolds := r.alarmHolds.erase id
        holds := { r.holds with alarm := !(r.alarmHolds.erase id).isEmpty } }).resume c
  else s

/-! ### Channel controller: trips (R53) -/

/-- A trip as taken: state and cause, timer, setpoint and target, rates at once, trip notice.  The
channel-off notice of a channel that leaves CH_OFF is handed by `State.tripEvery`. -/
def State.tripTaken (c : Chan) (cause : TripCause) (s : State) : State :=
  ({ s.setChan c { s.chan c with state := .tripped, tripCause := some cause, startTimer := none } with
      fsc := { s.fsc with
        setpoint := s.fsc.setpoint.put c 0
        target := s.fsc.target.put c 0
        clZeroed := s.fsc.clZeroed.put c false }
      fdi := s.fdi.put c (s.feeder c).zeroed }).tripNotice c

/-- A trip by a source other than the trip line and EMERGENCY_STOP: not taken in CH_OFF, and a tripped
channel keeps its first cause (R53, R56). -/
def State.trip (c : Chan) (cause : TripCause) (s : State) : State :=
  match (s.chan c).state with
  | .off | .tripped => s
  | .starting | .running | .holding | .stopping => s.tripTaken c cause

/-! ### Alarm table: the trip map -/

/-- The action of an entry handed to the channel controller (Table 7.6, R52, R56). -/
def State.tripAction (r : TripRule) (s : State) : State :=
  match r.action with
  | .holdChannel c => s.holdAction c r.identity
  | .tripChannel c => s.trip c (.alarm r.identity)
  | .tripLocation l =>
    allChans.foldl (fun s c =>
      if (s.chan c).config.location = l then s.trip c (.alarm r.identity) else s) s
  | .tripAll => allChans.foldl (fun s c => s.trip c (.alarm r.identity)) s

def State.setInForce (e : EntryNo) (b : Bool) (s : State) : State :=
  { s with alt := { s.alt with tripMap := s.alt.tripMap.modify e fun x => { x with inForce := b } } }

/-- Whether an identity is present at a level that meets a minimum (R141). -/
def AlarmTable.meets (a : AlarmTable) (r : TripRule) : Bool :=
  (a.condition r.identity).any fun k => r.minLevel.metBy k.level

/-- One entry comes into force where it is due and not in force already (R141). -/
def State.entryIntoForce (e : EntryNo) (s : State) : State :=
  match (s.alt.tripMap.get e).rule with
  | none => s
  | some r =>
    if (s.alt.tripMap.get e).inForce = false ∧ s.alt.meets r then (s.setInForce e true).tripAction r else s

/-- The entries of an identity come into force, in ascending number (R141). -/
def State.intoForce (id : Identity) (s : State) : State :=
  (List.finRange 16).foldl (fun s e =>
    if (s.alt.tripMap.get e).rule.any (fun r => r.identity == id) then s.entryIntoForce e else s) s

/-- One entry leaves force: its mark is cleared, and a hold entry hands its release (R141). -/
def State.entryOutOfForce (e : EntryNo) (s : State) : State :=
  match s.alt.tripMap.get e with
  | { rule := some { identity := id, minLevel := _, action := .holdChannel c }, inForce := true } =>
    (s.setInForce e false).holdRelease c id
  | { rule := _, inForce := true } => s.setInForce e false
  | { rule := _, inForce := false } => s

/-- The entries of an identity that goes leave force, in ascending number (R141). -/
def State.outOfForce (id : Identity) (s : State) : State :=
  (List.finRange 16).foldl (fun s e =>
    if (s.alt.tripMap.get e).rule.any (fun r => r.identity == id) then s.entryOutOfForce e else s) s

/-! ### Alarm table: records -/

/-- The horn and attention outputs follow the records (R144, R146). -/
def AlarmTable.settled (a : AlarmTable) : AlarmTable :=
  { a with horn := a.hornDue, attention := a.attentionDue }

def State.settle (s : State) : State := s.setAlt s.alt.settled

/-- A report notice of the shift tally unit (R146). -/
def State.reportNotice (waiting : Bool) (s : State) : State :=
  (s.setAlt { s.alt with reportWaiting := waiting }).settle

/-- A changed record: its last-change stamp is renewed and both marks are set (R145). -/
def AlarmRecord.touched (stamp : Option Stamp) (r : AlarmRecord) : AlarmRecord :=
  { r with changeStamp := stamp, markControl := true, markPanel := true }

/-- A new record for a present condition (R129). -/
def newRecord (id : Identity) (k : Condition) (late : Bool) (stamp : Option Stamp) (lost : Nat) : AlarmRecord :=
  { identity := id, level := k.level, priority := k.priority, state := .activeUnack
    cameStamp := stamp, changeStamp := stamp, repeats := 0, late := late, ackedBy := none
    shelvedUntil := none, markControl := true, markPanel := true, annunciate := true, lost := lost }

def AlarmTable.setCondition (id : Identity) (k : Option Condition) (a : AlarmTable) : AlarmTable :=
  { a with conditions := a.conditions.put id.rank k }

/-- A slot newly occupied: its generation steps (R128). -/
def AlarmTable.occupy (i : SlotNo) (r : AlarmRecord) (a : AlarmTable) : AlarmTable :=
  { a with slots := a.slots.modify i fun x => { generation := nextGeneration x.generation, content := .live r } }

/-- The record of an occupied slot replaced, generation kept. -/
def AlarmTable.rewrite (i : SlotNo) (r : AlarmRecord) (a : AlarmTable) : AlarmTable :=
  { a with slots := a.slots.modify i fun x => { x with content := .live r } }

/-- A retirement stub written over a live record, both marks set (R129). -/
def AlarmTable.stubbed (i : SlotNo) (a : AlarmTable) : AlarmTable :=
  { a with slots := a.slots.modify i fun x =>
      match x.content with
      | .live r => { x with content := .stub r.identity true true }
      | .free | .stub _ _ _ => x }

/-- A record returning from ALM_CLEARED_UNACK (R130). -/
def AlarmRecord.returned (k : Condition) (stamp : Option Stamp) (r : AlarmRecord) : AlarmRecord :=
  { r with level := k.level, priority := k.priority, state := .activeUnack
           repeats := satInc Config.repeatMax r.repeats, annunciate := true }.touched stamp

/-- What a goes report makes of a record: retired, or ALM_CLEARED_UNACK (R131). -/
def AlarmRecord.gone (stamp : Option Stamp) (r : AlarmRecord) : Option AlarmRecord :=
  match r.state with
  | .activeAcked => none
  | .activeUnack =>
    if r.shelvedUntil.isSome then none
    else some ({ r with state := .clearedUnack, annunciate := false }.touched stamp)
  | .clearedUnack => some r

/-- SYSTEM/TABLE_FULL comes, or counts one more loss (R139).  It is of PRI_HIGH (R126), and no trip-map
entry can name it (R140). -/
def State.tableFullComes (s : State) : State :=
  let stamp := s.sht.stamp
  let k : Condition := { level := none, priority := .high, pending := false }
  match s.alt.condition (.system .tableFull), s.alt.record reservedSlot with
  | none, none =>
    (s.setAlt ((s.alt.setCondition (.system .tableFull) (some k)).occupy reservedSlot
      (newRecord (.system .tableFull) k false stamp 1))).cameNotice .high
  | none, some r =>
    (s.setAlt ((s.alt.setCondition (.system .tableFull) (some k)).rewrite reservedSlot
      { r.returned k stamp with lost := satInc Config.lostMax r.lost })).cameNotice .high
  | some _, some r =>
    s.setAlt (s.alt.rewrite reservedSlot ({ r with lost := satInc Config.lostMax r.lost }.touched stamp))
  | some _, none => s

/-- SYSTEM/TABLE_FULL goes: its record follows R131 (R139).  Its retirement promotes nothing. -/
def State.tableFullGoes (s : State) : State :=
  let a := s.alt.setCondition (.system .tableFull) none
  match s.alt.record reservedSlot with
  | none => s.setAlt a
  | some r =>
    match r.gone s.sht.stamp with
    | none => s.setAlt (a.stubbed reservedSlot)
    | some r' => s.setAlt (a.rewrite reservedSlot r')

/-- SYSTEM/TABLE_FULL goes where no condition is left pending (R131, R138, R139). -/
def State.tableFullCheck (s : State) : State :=
  if s.alt.pendings.isEmpty then s.tableFullGoes else s

/-- Promotion into a slot just retired: the pending condition first in rank is written there, late (R138). -/
def State.promote (i : SlotNo) (s : State) : State :=
  match s.alt.ranked with
  | [] => s
  | id :: _ =>
    match s.alt.condition id with
    | none => s
    | some k =>
      (s.setAlt ((s.alt.setCondition id (some { k with pending := false })).occupy i
        (newRecord id k true s.sht.stamp 0))).tableFullCheck

/-- Retirement of the record in a slot; that of an ordinary record is followed by promotion (R129). -/
def State.retire (i : SlotNo) (s : State) : State :=
  if i = reservedSlot then s.setAlt (s.alt.stubbed i) else (s.setAlt (s.alt.stubbed i)).promote i

/-! ### Alarm table: reports -/

/-- A comes report on the condition list and the records: the record returns, a new one is written, or the
condition becomes pending (R130, R137). -/
def State.comesOnRecords (id : Identity) (k : Condition) (s : State) : State :=
  match s.alt.slotOf id with
  | some i =>
    match s.alt.record i with
    | some r => s.setAlt ((s.alt.setCondition id (some k)).rewrite i (r.returned k s.sht.stamp))
    | none => s
  | none =>
    match s.alt.slotForNew with
    | some i =>
      s.setAlt ((s.alt.setCondition id (some k)).occupy i (newRecord id k false s.sht.stamp 0))
    | none => (s.setAlt (s.alt.setCondition id (some { k with pending := true }))).tableFullComes

/-- The record of a condition whose level changes: escalation from LOW or HIGH to CRIT, or
de-escalation (R132). -/
def AlarmRecord.relevelled (old new : Option Level) (prio : Priority) (stamp : Option Stamp)
    (r : AlarmRecord) : AlarmRecord :=
  if new = some .crit ∧ old ≠ some .crit then
    AlarmRecord.touched stamp
      { r with
        level := new, priority := prio, state := .activeUnack, ackedBy := none, annunciate := true
        shelvedUntil := if prio = Priority.critical then none else r.shelvedUntil }
  else AlarmRecord.touched stamp { r with level := new, priority := prio }

/-- A level change of a present condition (R127, R132), offered to the trip map (R141). -/
def State.levelOfPresent (id : Identity) (k : Condition) (level : Option Level) (prio : Priority)
    (s : State) : State :=
  let s1 := s.setAlt (s.alt.setCondition id (some { k with level := level, priority := prio }))
  let s2 := match s1.alt.slotOf id with
    | none => s1
    | some i =>
      match s1.alt.record i with
      | none => s1
      | some r => s1.setAlt (s1.alt.rewrite i (r.relevelled k.level level prio s.sht.stamp))
  (s2.intoForce id).settle

/-- A comes report that finds its condition absent: list, record, trip map, came notice, outputs (R127). -/
def State.comesAfresh (id : Identity) (level : Option Level) (prio : Priority) (s : State) : State :=
  (((s.comesOnRecords id { level := level, priority := prio, pending := false }).intoForce id).cameNotice
    prio).settle

/-- A comes report (R127). -/
def State.comes (id : Identity) (level : Option Level) (prio : Priority) (s : State) : State :=
  match s.alt.condition id with
  | none => s.comesAfresh id level prio
  | some k =>
    if k.level ≠ level then s.levelOfPresent id k level prio
    else s.setAlt (s.alt.setCondition id (some { k with priority := prio }))

/-- A level-change report; one that finds its condition absent is a comes report (R127). -/
def State.levelChanges (id : Identity) (level : Option Level) (prio : Priority) (s : State) : State :=
  match s.alt.condition id with
  | none => s.comesAfresh id level prio
  | some k => s.levelOfPresent id k level prio

/-- A goes report on the records: the pending condition is dropped, or the record is retired or
cleared (R131). -/
def State.goesOnRecords (id : Identity) (k : Condition) (s : State) : State :=
  let s1 := s.setAlt (s.alt.setCondition id none)
  if k.pending then s1.tableFullCheck
  else
    match s1.alt.slotOf id with
    | none => s1
    | some i =>
      match s1.alt.record i with
      | none => s1
      | some r =>
        match r.gone s.sht.stamp with
        | none => s1.retire i
        | some r' => s1.setAlt (s1.alt.rewrite i r')

/-- A goes report (R127). -/
def State.goes (id : Identity) (s : State) : State :=
  match s.alt.condition id with
  | none => s
  | some k => ((s.goesOnRecords id k).outOfForce id).settle

/-- A report as a block hands it (R10, R127). -/
inductive Report where
  | comes (id : Identity) (level : Option Level) (prio : Priority)
  | goes (id : Identity)
  | level (id : Identity) (level : Option Level) (prio : Priority)
deriving DecidableEq, Repr

/-- One report taken by the alarm table. -/
def State.report (r : Report) (s : State) : State :=
  match r with
  | .comes id l p => s.comes id l p
  | .goes id => s.goes id
  | .level id l p => s.levelChanges id l p

/-- Reports taken in order. -/
def State.reports (rs : List Report) (s : State) : State := rs.foldl (fun s r => s.report r) s

/-- A condition without a level comes, at its fixed priority (R126). -/
def State.comesFixed (id : Identity) (s : State) : State := s.comes id none id.fixedPriority

/-! ### Point table: reconciliation (R10) -/

/-- The priority of a side condition at a level (Table 1.5). -/
def PointConfig.loPriorityAt (c : PointConfig) : Level → Priority
  | .crit => c.loCritPriority
  | .low | .high => c.loPriority

def PointConfig.hiPriorityAt (c : PointConfig) : Level → Priority
  | .crit => c.hiCritPriority
  | .low | .high => c.hiPriority

/-- A goes report where a condition was reported and is not due. -/
def goesPart (id : Identity) (reported due : Option Level) : List Report :=
  if reported.isSome ∧ due.isNone then [.goes id] else []

/-- A level-change report where the level due is not the one reported. -/
def levelPart (id : Identity) (prio : Level → Priority) : Option Level → Option Level → List Report
  | some a, some b => if a = b then [] else [.level id (some b) (prio b)]
  | _, _ => []

/-- A comes report where a condition is due and was not reported. -/
def comesPart (id : Identity) (prio : Level → Priority) : Option Level → Option Level → List Report
  | none, some b => [.comes id (some b) (prio b)]
  | _, _ => []

/-- The reports of one reconciliation: goes, then level changes, then comes (R10).  Among reports of one
kind the order lo-side, hi-side, quality is a DESIGN CHOICE, unsafe (log entry 30). -/
def PointTable.reports (t : PointTable) (p : PointNo) : List Report :=
  let r := t.points.get p
  let c := r.config
  goesPart (.point p .loSide) r.reportedLo (t.dueLo p)
    ++ goesPart (.point p .hiSide) r.reportedHi (t.dueHi p)
    ++ (if r.reportedQuality && !t.dueQuality p then [.goes (.point p .quality)] else [])
    ++ levelPart (.point p .loSide) c.loPriorityAt r.reportedLo (t.dueLo p)
    ++ levelPart (.point p .hiSide) c.hiPriorityAt r.reportedHi (t.dueHi p)
    ++ comesPart (.point p .loSide) c.loPriorityAt r.reportedLo (t.dueLo p)
    ++ comesPart (.point p .hiSide) c.hiPriorityAt r.reportedHi (t.dueHi p)
    ++ (if !r.reportedQuality && t.dueQuality p then
          [.comes (.point p .quality) none (Identity.fixedPriority (.point p .quality))] else [])

/-- Reconciliation of a point: the reported fields match what is due, and each difference is
reported (R10). -/
def State.reconcile (p : PointNo) (s : State) : State :=
  (s.setPoint p { s.point p with
      reportedLo := s.ptb.dueLo p, reportedHi := s.ptb.dueHi p, reportedQuality := s.ptb.dueQuality p }).reports
    (s.ptb.reports p)

/-- The points associated with a channel, rising. -/
def PointTable.associatedWith (t : PointTable) (c : Chan) : List PointNo :=
  (List.finRange 48).filter fun p => (t.points.get p).config.associated == some c

/-- A channel-off notice: the mark is set or cleared, and the channel's points are reconciled (R11). -/
def State.offNotice (c : Chan) (off : Bool) (s : State) : State :=
  (s.ptb.associatedWith c).foldl (fun s p => s.reconcile p)
    { s with ptb := { s.ptb with offMarks := s.ptb.offMarks.put c off } }

/-! ### Channel controller: entering CH_OFF, and trips of every channel -/

/-- A channel enters CH_OFF, with its notice to the point table (section 3.3). -/
def State.enterOff (c : Chan) (s : State) : State :=
  (s.setChan c { s.chan c with state := .off, startTimer := none, tripCause := none }).offNotice c true

/-- A trip of every channel by the trip line or EMERGENCY_STOP, those in CH_OFF included; the channels that
left CH_OFF then hand their channel-off notices (R53, R54, R55; DEDUCED, log entry 9). -/
def State.tripEvery (cause : TripCause) (s : State) : State :=
  (allChans.filter fun c => (s.chan c).state = .off).foldl (fun s c => s.offNotice c false)
    (allChans.foldl (fun s c => if (s.chan c).state = .tripped then s else s.tripTaken c cause) s)

/-- An assertion of the trip input, taken: every channel trips and SYSTEM/TRIP_IN comes (R54). -/
def State.tripLineTaken (s : State) : State :=
  (s.tripEvery .tripLine).comesFixed (.system .tripIn)

/-! ### Access unit -/

/-- Engineering access closes (R171). -/
def State.closeAccess (s : State) : State := { s with acu := { s.acu with openTimer := none } }

/-- Engineering access opens, or its timer is restarted (R169, R172). -/
def State.startOpenTimer (s : State) : State :=
  { s with acu := { s.acu with openTimer := some (s.timer Config.openTime) } }

/-! ### Lot registry: overdrawn marks, queues, debits -/

/-- The overdrawn mark of a channel takes a value; a change is handed to the channel controller, which
makes CHANNEL c/OVERDRAWN come or go (R36, R62). -/
def State.setOverdrawn (c : Chan) (b : Bool) (s : State) : State :=
  if s.lrg.overdrawn.get c = b then s
  else
    let s1 := { s with lrg := { s.lrg with overdrawn := s.lrg.overdrawn.put c b } }
    if b then s1.comesFixed (.channel c .overdrawn) else s1.goes (.channel c .overdrawn)

/-- The mark is cleared where the queue has a head with mass, and otherwise left (R36). -/
def State.evaluateOverdrawn (c : Chan) (s : State) : State :=
  match s.lrg.headLot c with
  | some r => if 0 < r.remaining then s.setOverdrawn c false else s
  | none => s

/-- The state of the lot in a slot written. -/
def State.setLotState (i : LotNo) (st : LotState) (s : State) : State :=
  match s.lrg.lot i with
  | some r => s.setLot i { r with state := st }
  | none => s

/-- The head of a channel's queue leaves it into a state, and head succession follows (R30). -/
def State.succession (c : Chan) (leaving : LotState) (s : State) : State :=
  match s.lrg.queues.get c with
  | [] => s
  | [h] => ((s.setLotState h leaving).setQueue c []).evaluateOverdrawn c
  | h :: n :: rest =>
    (((s.setLotState h leaving).setLotState n .drawing).setQueue c (n :: rest)).evaluateOverdrawn c

/-- A lot that is not the head leaves its queue into a state (R29). -/
def State.leaveQueue (c : Chan) (i : LotNo) (leaving : LotState) (s : State) : State :=
  (s.setLotState i leaving).setQueue c ((s.lrg.queues.get c).erase i)

/-- A lot-rejected notice: the channel trips with TC_LOT_REJECTED, and CHANNEL c/LOT_REJECTED comes and
goes (R56). -/
def State.lotRejected (c : Chan) (s : State) : State :=
  ((s.trip c .lotRejected).comesFixed (.channel c .lotRejected)).goes (.channel c .lotRejected)

/-- A lot is quarantined from the place it stands at (R27). -/
def State.quarantine (i : LotNo) (s : State) : State :=
  match s.lrg.lot i, s.lrg.position i with
  | some r, some (c, _) =>
    if r.state = .drawing then
      let s1 := s.succession c .quarantined
      if (s1.chan c).state = .off then s1 else s1.lotRejected c
    else s.leaveQueue c i .quarantined
  | _, _ => s.setLotState i .quarantined

/-- What a lot part of a debit carries of its lot (R33). -/
structure LotFigures where
  tag      : Nat
  kind     : FuelKind
  ncvAr    : Nat
  chlorine : Nat
  sulfur   : Nat
deriving DecidableEq, Repr

/-- A part of a debit's answer: a lot part, or an unassigned part (R33). -/
structure Part where
  lot : Option LotFigures
  kg  : Nat
deriving DecidableEq, Repr

/-- The lot part of `kg` kilograms charged to a lot, or none where `kg` is 0 (R33, R34). -/
def lotPart (r : LotRecord) (kg : Nat) : List Part :=
  if kg = 0 then []
  else
    match r.analysis with
    | some a => [{ lot := some ⟨r.tag, r.kind, a.ncvAr, a.chlorine, a.sulfur⟩, kg := kg }]
    | none => [{ lot := some ⟨r.tag, r.kind, 0, 0, 0⟩, kg := kg }]

/-- `kg` kilograms charged to a lot: its remaining mass falls and its debited total rises (R18, R34). -/
def LotRecord.charged (r : LotRecord) (kg : Nat) : LotRecord :=
  { r with remaining := r.remaining - kg, debited := min Config.debitedMax (r.debited + kg) }

/-- A debit of `k` kilograms charged along a channel's queue (R34): the parts answered, in the order
charged, and the state. -/
def State.charge (c : Chan) : List LotNo → Nat → State → List Part × State
  | [], k, s => ([{ lot := none, kg := k }], s.setOverdrawn c true)
  | h :: rest, k, s =>
    match s.lrg.lot h with
    | none => ([{ lot := none, kg := k }], s.setOverdrawn c true)
    | some r =>
      if k ≤ r.remaining then (lotPart r k, s.setLot h (r.charged k))
      else
        let s1 := s.setLot h (r.charged r.remaining)
        if rest.isEmpty then
          (lotPart r r.remaining ++ [{ lot := none, kg := k - r.remaining }], s1.setOverdrawn c true)
        else
          let next := State.charge c rest (k - r.remaining) (s1.succession c .exhausted)
          (lotPart r r.remaining ++ next.1, next.2)

/-- A debit taken by the registry (R33). -/
def State.debit (c : Chan) (k : Nat) (s : State) : List Part × State :=
  State.charge c (s.lrg.queues.get c) k s

/-! ### Shift tally unit: debit records (R155, R156) -/

/-- Heat, which saturates (R154). -/
def addHeat (a b : Nat) : Nat := min Config.countMax (a + b)

/-- The lot contribution list with `kg` more for a lot, where the lot has an entry or the list has room. -/
def addLotEntry (tag : Nat) (kind : FuelKind) (kg : Nat) : List LotEntry → Nat → Option (List LotEntry)
  | [], 0 => none
  | [], _ + 1 => some [⟨tag, kind, kg⟩]
  | e :: rest, room =>
    if e.tag = tag ∧ e.kind = kind then some ({ e with kg := e.kg + kg } :: rest)
    else (addLotEntry tag kind kg rest (room - 1)).map (e :: ·)

/-- The lot's kilograms go to the list, or else to the other aggregate (R156). -/
def ShiftUnit.contribute (c : Chan) (lot : LotFigures) (kg : Nat) (u : ShiftUnit) : ShiftUnit :=
  match addLotEntry lot.tag lot.kind kg u.current.lots Config.lotEntries with
  | some l => { u with current := { u.current with lots := l } }
  | none =>
    { u with
      current := { u.current with
        otherKg := u.current.otherKg + kg
        otherLots := if u.lastTags.get c = some lot.tag then u.current.otherLots
                     else satInc Config.eventCountMax u.current.otherLots }
      lastTags := u.lastTags.put c (some lot.tag) }

/-- The figures of a lot's kilograms added to the open record (R155). -/
def ShiftUnit.addLot (c : Chan) (l : Location) (cls : FuelClass) (lot : LotFigures) (kg : Nat)
    (u : ShiftUnit) : ShiftUnit :=
  let heat := kg * lot.ncvAr
  let cl := u.chlorineResidue.get c + kg * lot.chlorine
  let su := u.sulfurResidue.get c + kg * lot.sulfur
  { u with
    chlorineResidue := u.chlorineResidue.put c (cl % 1000)
    sulfurResidue := u.sulfurResidue.put c (su % 10)
    current := { u.current with
      channels := u.current.channels.modify c fun t =>
        { t with heat := addHeat t.heat heat, chlorine := t.chlorine + cl / 1000, sulfur := t.sulfur + su / 10 }
      heatMain := if l = .main then addHeat u.current.heatMain heat else u.current.heatMain
      heatCalc := if l = .calc then addHeat u.current.heatCalc heat else u.current.heatCalc
      heatAlt := if cls = .alt then addHeat u.current.heatAlt heat else u.current.heatAlt } }

/-- A debit record taken into the open record whole (R155). -/
def ShiftUnit.takeDebit (c : Chan) (l : Location) (cls : FuelClass) (p : Part) (u : ShiftUnit) : ShiftUnit :=
  let u1 := { u with current := { u.current with
    channels := u.current.channels.modify c fun t => { t with fed := t.fed + p.kg } } }
  match p.lot with
  | none => { u1 with current := { u1.current with unassigned := u1.current.unassigned + p.kg } }
  | some lot => (u1.addLot c l cls lot p.kg).contribute c lot p.kg

/-- One part of a debit's answer: a channel counter steps and the debit record is handed (R92, R93). -/
def State.takePart (c : Chan) (cls : FuelClass) (p : Part) (s : State) : State :=
  let r := s.chan c
  let s1 := s.setChan c (if p.lot.isSome then { r with debited := r.debited + p.kg }
                         else { r with unassigned := r.unassigned + p.kg })
  { s1 with sht := s1.sht.takeDebit c r.config.location cls p }

/-! ### Shift tally unit: closing (R160) -/

/-- The specific heat consumption for a clinker mass (R160). -/
def Tally.specificHeatFor (t : Tally) (clinker : Nat) : Option Nat :=
  if clinker = 0 then none else some ((t.heatMain + t.heatCalc) / clinker)

/-- The closed record (R160). -/
def Tally.closed (t : Tally) (stamp : Option Stamp) : Tally :=
  { t with
    finish := stamp
    substitution := some (if t.heatMain + t.heatCalc = 0 then 0 else t.heatAlt * 1000 / (t.heatMain + t.heatCalc))
    specificHeat := t.specificHeatFor t.clinker
    corrected := false, readSummary := false, readChannels := false, readLots := false }

/-- The shift number after one (R154). -/
def nextShift (n : Nat) : Nat := if n < Config.shiftNumberMax then n + 1 else 1

/-- The close operation: the open record becomes the held report, a new one opens, and a waiting notice is
handed (R160). -/
def State.closeShift (s : State) : State :=
  let u := s.sht
  let n := nextShift u.current.number
  State.reportNotice true { s with sht := { u with
      held := some (u.current.closed u.stamp)
      current := Tally.opened n (u.stamp.map fun t => { t with shift := n })
      lastTags := Tbl.all 6 none } }

/-! ### Channel controller: the control link (R58 to R61) -/

def State.setSupervision (v : Supervision) (s : State) : State :=
  { s with chc := { s.chc with supervision := v } }

/-- HC_CONTROL_LOST added to a channel that runs, starts or holds (R59). -/
def State.holdForLoss (c : Chan) (s : State) : State :=
  match (s.chan c).state with
  | .starting | .running | .holding =>
    (s.setChan c { s.chan c with holds := { (s.chan c).holds with controlLost := true } }).freeze c
  | .off | .stopping | .tripped => s

/-- HC_CONTROL_LOST removed from a channel's set (R61). -/
def State.clearLoss (c : Chan) (s : State) : State :=
  s.setChan c { s.chan c with holds := { (s.chan c).holds with controlLost := false } }

/-- The end of a loss (R61). -/
def State.endLoss (s : State) : State :=
  let v := s.chc.supervision
  let s1 := s.setSupervision { v with
    link := .live, holdTimer := none, supervisionTimer := some (s.timer v.supervisionTime) }
  allChans.foldl (fun s c => s.resume c)
    ((allChans.foldl (fun s c => s.clearLoss c) s1).goes (.system .controlLost))

/-- A refresh of the control link (R58). -/
def State.refresh (s : State) : State :=
  match s.chc.supervision.link with
  | .live => s.setSupervision { s.chc.supervision with
      supervisionTimer := some (s.timer s.chc.supervision.supervisionTime) }
  | .lostHold | .lostFallback => s.endLoss

/-! ### Settings store -/

/-- SYSTEM/STORE_FAULT is due while the image state is IMG_INVALID; a difference from what was reported is
handed to the alarm table (R193). -/
def State.reconcileStore (s : State) : State :=
  if s.sst.reportedFault = !s.sst.imageValid then s
  else
    let s1 := { s with sst := { s.sst with reportedFault := !s.sst.imageValid } }
    if s.sst.imageValid then s1.goes (.system .storeFault) else s1.comesFixed (.system .storeFault)

/-- The settings in force, as SAVE_SETTINGS takes them from the blocks (R194, Table 11.3). -/
def State.settings (s : State) : Settings :=
  { points := Tbl.make (PointConfig.default 0) fun p => (s.point p).config
    channels := Tbl.make (ChannelConfig.default 0) fun c => (s.chan c).config
    supervisionTime := s.chc.supervision.supervisionTime, holdTime := s.chc.supervision.holdTime
    firing := s.fsc.config
    compartments := Tbl.make .default fun k => (s.clc.compartments.get k).config
    cooler := s.clc.config
    tripMap := Tbl.make none fun e => (s.alt.tripMap.get e).rule
    plan := s.sht.plan
    word := s.acu.word }

end Sys2Proof.Machine
end

