-- ==== Sys2Proof/Machine/Links.lean ====
section
/-! DEFINITION. How a request reaches its owner and how the answer comes back: the acceptance checks, the
control port's response buffer, the panel port's transmitter and held frame (sections 10.3 to 10.10).
-/

namespace Sys2Proof.Machine

/-! ### The end of every command -/

/-- The machine goes on in a state; one more command has been taken (log entry 4). -/
def finish (s : State) : Host.Outcome State Fault Refusal := .next { s with moment := s.moment + 1 }

/-- Whether the blocks work: their timers run, and lines, pulses and requests are taken (R196). -/
def State.runs (s : State) : Bool := s.phase == .running

/-- Whether the links take bytes: in the start-up phase and after it (R196). -/
def State.linked (s : State) : Bool := s.phase == .startUp || s.phase == .running

/-- An event of a block that takes place only while the blocks work (R196; log entry 5). -/
def State.whileRunning (f : State → State) (s : State) : State := if s.runs then f s else s

/-! ### What an owner answers -/

/-- An owner's answer: the status, the fields of the response, and the state it leaves (R185). -/
structure Reply where
  status : Status
  fields : List Byte
  state  : State
deriving DecidableEq, Repr

/-- An owner block's rule for one kind of request: the port, the fields after the sequence, the state. -/
abbrev Owner := Port → List Byte → State → Reply

/-- Taken as asked, with the fields of the answer. -/
def taken (fields : List Byte) (s : State) : Reply := { status := .ok, fields := fields, state := s }

/-- Taken, an operating input brought into range where `clamped` (R4, R44, R67, R108, R119, R135). -/
def takenClamped (clamped : Bool) (fields : List Byte) (s : State) : Reply :=
  { status := if clamped then .okClamped else .ok, fields := fields, state := s }

/-- Taken without a change.  Whether the fields of an OK answer of this kind then follow is open (log
entry 7). -/
def noChange (k : Kind) (fields : List Byte) (s : State) : Reply :=
  { status := .okNoChange
    fields := if Config.noChangeCarriesFields k.code.toNat then fields else []
    state := s }

/-- Refused: nothing but the status (R185). -/
def refuse (st : Status) (s : State) : Reply := { status := st, fields := [], state := s }

/-- Refused with the reason that the rule names, as one byte (R185). -/
def refuseWhy (st : Status) (reason : Nat) (s : State) : Reply :=
  { status := st, fields := u8 reason, state := s }

/-! ### Acceptance (R185) -/

/-- The checks of R185 in their order, then the owner. -/
def accept (k : Kind) (o : Owner) (p : Port) (f : List Byte) (s : State) : Reply :=
  if s.phase = .startUp then refuse .busy s
  else if p = .panel ∧ panelMay k = false then refuse .notPermitted s
  else if lengthOk k f = false then refuse .outOfRange s
  else if s.sst.saving ∧ busyDuringSave k then refuse .busy s
  else o p f s

/-- The checks of R185 for a kind that is not in the catalogue. -/
def acceptUnknown (s : State) : Reply :=
  if s.phase = .startUp then refuse .busy s else refuse .unknownRequest s

/-- A frame that passed its check is counted on its port before its response is formed (R189). -/
def State.countTaken (p : Port) (s : State) : State :=
  match p with
  | .control => { s with control := { s.control with taken := (s.control.taken + 1) % Config.framesModulus } }
  | .panel => { s with panel := { s.panel with taken := (s.panel.taken + 1) % Config.framesModulus } }

/-- A frame that failed its check is counted on its port (R189). -/
def State.countBad (p : Port) (s : State) : State :=
  match p with
  | .control =>
    { s with control := { s.control with badFrames := satInc Config.linkCountMax s.control.badFrames } }
  | .panel => { s with panel := { s.panel with badFrames := satInc Config.linkCountMax s.panel.badFrames } }

/-- How a frame is answered: the response it gets, and the state the answer leaves. -/
abbrev Handler := State → Response × State

/-- A checked frame of a kind of the catalogue, counted and answered. -/
def answerRequest (k : Kind) (o : Owner) (p : Port) (q : Byte) (f : List Byte) : Handler := fun s =>
  let a := accept k o p f (s.countTaken p)
  ({ kind := k.code, status := a.status, seq := q, fields := a.fields }, a.state)

/-- A checked frame of a kind outside the catalogue, counted and answered. -/
def answerUnknown (p : Port) (kind q : Byte) : Handler := fun s =>
  let a := acceptUnknown (s.countTaken p)
  ({ kind := kind, status := a.status, seq := q, fields := a.fields }, a.state)

/-- The response to a frame that failed its check (R181, R183). -/
def badFrameResponse : Response := { kind := 0#8, status := .badFrame, seq := 0#8, fields := [] }

/-! ### The control port -/

/-- A response written to the control port's buffer; an unread one is replaced and counted (R182). -/
def State.writeControl (r : Response) (s : State) : State :=
  { s with control := { s.control with
      buffer := some r
      discardedResponses := if s.control.buffer.isSome
        then satInc Config.linkCountMax s.control.discardedResponses else s.control.discardedResponses } }

/-- What the part shifts out on data-out in a transfer, from its first byte on (R178, R182). -/
def State.shiftOut (bytes : List Byte) (s : State) : State :=
  { s with control := { s.control with dataOut := bytes } }

/-- A control-port write transfer of `len` bytes whose frame passed its check: answered, the response
written, and the refresh handed after it where the part is out of its start-up phase; 0x00 is shifted out
throughout (R178, R181, R188). -/
def State.controlArrives (len : Nat) (h : Handler) (s : State) : State :=
  if s.linked then
    let a := h s
    let s1 := (a.2.writeControl a.1).shiftOut (List.replicate len 0#8)
    if s.runs then s1.refresh else s1
  else s

/-- A control-port write transfer of `len` bytes whose frame failed its check; 0x00 is shifted out throughout
(R178, R181). -/
def State.controlFails (len : Nat) (s : State) : State :=
  if s.linked then
    ((s.countBad .control).writeControl badFrameResponse).shiftOut (List.replicate len 0#8)
  else s

/-- The bytes shifted out in a read transfer that clocks `n` bytes after the first (R182). -/
def ControlPort.readOut (x : ControlPort) (n : Nat) : List Byte :=
  match x.buffer with
  | none => List.replicate n 0#8
  | some r => (r.frame ++ List.replicate (n - r.frame.length) 0#8).take n

/-- A read transfer of `n` bytes after the first: the buffer is emptied where the whole response has been
shifted out (R182).  What is shifted out under the first byte, 0xA5, is a free value (log entry 19). -/
def State.controlRead (n : Nat) (s : State) : State :=
  if s.linked then
    { s with control := { s.control with
        dataOut := Config.readFirstByte s.moment :: s.control.readOut n
        buffer := if s.control.buffer.any (fun r => r.frame.length ≤ n) then none else s.control.buffer } }
  else s

/-! ### The panel port -/

def State.setReceiver (r : Receiver) (s : State) : State :=
  { s with panel := { s.panel with receiver := r } }

/-- A frame is taken with the transmitter free: its response is written and sent (R184). -/
def State.panelTake (h : Handler) (s : State) : State :=
  { (h s).2 with panel := { (h s).2.panel with sending := some (h s).1 } }

/-- A finished frame waits in the held-frame place, or is dropped and counted where a frame is held
already (R184). -/
def State.panelWait (fr : Frame) (s : State) : State :=
  if s.panel.held.isNone then { s with panel := { s.panel with held := some fr } }
  else { s with panel := { s.panel with
    discardedFrames := satInc Config.linkCountMax s.panel.discardedFrames } }

/-- A frame finished by the receiver, handed on: taken at once where the transmitter is idle and no frame
is held (R184). -/
def State.panelHandOn (fr : Frame) (h : Handler) (s : State) : State :=
  if s.panel.sending.isNone ∧ s.panel.held.isNone then s.panelTake h else s.panelWait fr

/-- A panel frame that passed its check arrives whole (R183, R184; DESIGN CHOICE, log entry 18). -/
def State.panelArrives (fr : Frame) (h : Handler) (s : State) : State :=
  if s.linked then (s.setReceiver .hunt).panelHandOn fr h else s

/-- The answer to a panel frame that failed its check; it was counted when it was finished (DEDUCED, log
entry 10). -/
def answerFailed : Handler := fun s => (badFrameResponse, s)

/-- A panel frame that failed its check, finished by the receiver (R183). -/
def State.panelFails (s : State) : State :=
  if s.linked then ((s.setReceiver .hunt).countBad .panel).panelHandOn .failed answerFailed else s

/-! ### A request row of the table -/

/-- A checked request frame arrives on a port.  A control-port frame of `n` field bytes occupies `n + 6`
bytes (Table 10.2). -/
def State.requestArrives (k : Kind) (o : Owner) (p : Port) (q : Byte) (f : List Byte) (s : State) : State :=
  match p with
  | .control => s.controlArrives (f.length + 6) (answerRequest k o .control q f)
  | .panel => s.panelArrives (.checked k.code q f) (answerRequest k o .panel q f)

end Sys2Proof.Machine
end

