-- ==== Sys2Proof/Machine/AccessUnit.lean ====
section
/-! DEFINITION. Access unit: opening, closing, the access word, reading (chapter 9).
-/

namespace Sys2Proof.Machine

def State.setAccess (x : Access) (s : State) : State := { s with acu := x }

/-- The 64-bit word at the front of the fields. -/
def wordOf (f : List Byte) : BitVec 64 := BitVec.ofNat 64 (field f 0 8)

/-- Whether a presented word is a match (R169). -/
def Access.opens (x : Access) (w : BitVec 64) : Bool := x.word == Config.wordBlank || w == x.word

/-- Access opened by a match (R169). -/
def State.openAccess (s : State) : State :=
  (s.setAccess { s.acu with mismatches := 0 }).startOpenTimer

/-- The lockout set by the mismatch that reaches the limit (R170). -/
def State.lockOut (s : State) : State :=
  ((s.setAccess { s.acu with
      mismatches := Config.mismatchLimit, lockout := true, reportedLocked := true }).closeAccess).comesFixed
    (.system .accessLocked)

/-- R169, R170. -/
def ownerAccessOpen : Owner := fun _ f s =>
  if s.acu.lockout then refuse .accessLocked s
  else if s.acu.opens (wordOf f) then taken [] s.openAccess
  else if s.acu.mismatches + 1 < Config.mismatchLimit then
    refuse .accessDenied (s.setAccess { s.acu with mismatches := s.acu.mismatches + 1 })
  else refuse .accessLocked s.lockOut

def execAccessOpen (p : Port) (q : Byte) (f : List Byte) (s : State) : Host.Outcome State Fault Refusal :=
  finish (s.requestArrives .accessOpen ownerAccessOpen p q f)

/-- R171. -/
def ownerAccessClose : Owner := fun _ _ s =>
  if s.acu.isOpen then taken [] s.closeAccess else noChange .accessClose [] s

def execAccessClose (p : Port) (q : Byte) (f : List Byte) (s : State) : Host.Outcome State Fault Refusal :=
  finish (s.requestArrives .accessClose ownerAccessClose p q f)

/-- The open timer's expiry closes access (R171). -/
def execOpenTimerExpiry (s : State) : Host.Outcome State Fault Refusal :=
  finish (s.whileRunning State.closeAccess)

/-- R173. -/
def ownerSetAccessWord : Owner := fun _ f s =>
  if s.acu.isOpen = false then refuse .accessRequired s
  else taken [] (s.setAccess { s.acu with word := wordOf f }).startOpenTimer

def execSetAccessWord (p : Port) (q : Byte) (f : List Byte) (s : State) : Host.Outcome State Fault Refusal :=
  finish (s.requestArrives .setAccessWord ownerSetAccessWord p q f)

/-- The access state as carried in a frame (Table 9.2). -/
def Access.code (x : Access) : Nat := if x.isOpen then 1 else 0

/-- The fields of a READ_ACCESS answer: the word reads as 64 zero bits, and its state as blank or
set (R168, R175). -/
def State.accessBytes (s : State) : List Byte :=
  u8 s.acu.code ++ timerBytes s.moment s.acu.openTimer ++ u16 s.acu.mismatches ++ flag s.acu.lockout
    ++ be 8 0 ++ flag (s.acu.word != Config.wordBlank)

/-- R175. -/
def ownerReadAccess : Owner := fun _ _ s => taken s.accessBytes s

def execReadAccess (p : Port) (q : Byte) (f : List Byte) (s : State) : Host.Outcome State Fault Refusal :=
  finish (s.requestArrives .readAccess ownerReadAccess p q f)

/-- The access record after a warm restart, its reported field absent (R177). -/
def Access.warm (x : Access) : Access := { x with openTimer := none, reportedLocked := false }

/-- SYSTEM/ACCESS_LOCKED re-sent where the lockout is set (R177). -/
def State.resendLocked (s : State) : State :=
  if s.acu.lockout then
    (s.setAccess { s.acu with reportedLocked := true }).comesFixed (.system .accessLocked)
  else s

end Sys2Proof.Machine
end

