-- ==== Sys2Proof/Machine/Alarms.lean ====
section
/-! DEFINITION. Alarm table: acknowledgement, shelving, the trip map, silence, collection, reading
(chapter 7).  What reports do to the table is in Machine/Ops.lean.
-/

namespace Sys2Proof.Machine

/-! ### Alarm handles (R133) -/

/-- A request that names an alarm record: a slot above 64 is OUT_OF_RANGE; generation 0, another
generation, a free slot and a stub are STALE_HANDLE (R133). -/
def withAlarm (f : List Byte) (s : State) (rule : SlotNo → AlarmRecord → Reply) : Reply :=
  if h : field f 0 1 < 65 then
    let i : SlotNo := ⟨field f 0 1, h⟩
    match s.alt.record i with
    | some r =>
      if field f 1 1 = 0 ∨ field f 1 1 ≠ (s.alt.slots.get i).generation then refuse .staleHandle s
      else rule i r
    | none => refuse .staleHandle s
  else refuse .outOfRange s

/-! ### Acknowledgement (R133, R134) -/

/-- An active record acknowledged on a port (R133). -/
def AlarmRecord.acked (p : Port) (stamp : Option Stamp) (r : AlarmRecord) : AlarmRecord :=
  AlarmRecord.touched stamp { r with state := .activeAcked, ackedBy := some p, annunciate := false }

/-- The record of a slot acknowledged on a port, its outputs apart (R133). -/
def State.acknowledge (p : Port) (i : SlotNo) (s : State) : State :=
  match s.alt.record i with
  | none => s
  | some r =>
    match r.state with
    | .activeUnack => s.setAlt (s.alt.rewrite i (r.acked p s.sht.stamp))
    | .clearedUnack => s.retire i
    | .activeAcked => s

/-- R133. -/
def ownerAckAlarm : Owner := fun p f s =>
  withAlarm f s fun i r =>
    match r.state with
    | .activeAcked => noChange .ackAlarm (u8 r.state.code) s
    | .activeUnack => taken (u8 AlarmState.activeAcked.code) (s.acknowledge p i).settle
    | .clearedUnack => taken (u8 0) (s.acknowledge p i).settle

def execAckAlarm (p : Port) (q : Byte) (f : List Byte) (s : State) : Host.Outcome State Fault Refusal :=
  finish (s.requestArrives .ackAlarm ownerAckAlarm p q f)

/-- The slots whose live record stands in a state, rising. -/
def AlarmTable.slotsIn (a : AlarmTable) (st : AlarmState) : List SlotNo :=
  (List.finRange 65).filter fun i => (a.record i).any fun r => r.state == st

/-- Every cleared record that stands is retired, then the freed ordinary slots are given to pending
conditions, both rising (R134). -/
def State.retireAll (slots : List SlotNo) (s : State) : State :=
  (slots.filter (· != reservedSlot)).foldl (fun s i => s.promote i)
    (slots.foldl (fun s i => s.setAlt (s.alt.stubbed i)) s)

/-- ACK_ALL as taken: the retirements and promotions, then the acknowledgements of the records that stood
unacknowledged (R134; log entry 12). -/
def State.ackAll (s : State) : State :=
  (s.alt.slotsIn .activeUnack).foldl (fun s i => s.acknowledge .control i)
    (s.retireAll (s.alt.slotsIn .clearedUnack)) |>.settle

/-- How many of the slots hold a stub in place of the live record they held. -/
def State.retiredAmong (slots : List SlotNo) (s : State) : Nat :=
  (slots.filter fun i => (s.alt.record i).isNone).length

/-- R134.  A record that stood unacknowledged and is retired within the request counts as retired; the
acknowledged record of SYSTEM/TABLE_FULL that its own going retires is counted in neither number: DEDUCED,
unsafe (log entry 12). -/
def ownerAckAll : Owner := fun _ _ s =>
  let unacked := s.alt.slotsIn .activeUnack
  let cleared := s.alt.slotsIn .clearedUnack
  if unacked.isEmpty && cleared.isEmpty then noChange .ackAll (u16 0 ++ u16 0) s
  else
    let late := s.ackAll.retiredAmong unacked
    taken (u16 (unacked.length - late) ++ u16 (cleared.length + late)) s.ackAll

def execAckAll (p : Port) (q : Byte) (f : List Byte) (s : State) : Host.Outcome State Fault Refusal :=
  finish (s.requestArrives .ackAll ownerAckAll p q f)

/-! ### Shelving (R135, R136) -/

/-- Whether the trip map names an identity. -/
def AlarmTable.mapped (a : AlarmTable) (id : Identity) : Bool :=
  a.tripMap.list.any fun e => e.rule.any fun r => r.identity == id

/-- Identities that may never be shelved (R135). -/
def Identity.neverShelved : Identity → Bool
  | .channel _ .stall | .channel _ .lotRejected | .system .tripIn | .system .tableFull => true
  | _ => false

/-- Whether a record may be shelved (the last check of R135). -/
def AlarmTable.mayShelve (a : AlarmTable) (r : AlarmRecord) : Bool :=
  r.priority != .critical && !a.mapped r.identity && !r.identity.neverShelved

/-- R135. -/
def ownerShelve : Owner := fun _ f s =>
  withAlarm f s fun i r =>
    let minutes := field f 2 2
    if minutes = 0 then refuse .outOfRange s
    else if r.state = .clearedUnack then refuse .wrongState s
    else if s.alt.mayShelve r = false then refuse .shelveDenied s
    else takenClamped (decide (Config.shelveMax < minutes)) []
      (s.setAlt (s.alt.rewrite i (AlarmRecord.touched s.sht.stamp
        { r with shelvedUntil := some (60 * min Config.shelveMax minutes) }))).settle

def execShelve (p : Port) (q : Byte) (f : List Byte) (s : State) : Host.Outcome State Fault Refusal :=
  finish (s.requestArrives .shelve ownerShelve p q f)

/-- A record taken off its shelf: annunciated afresh (R136). -/
def AlarmRecord.unshelved (stamp : Option Stamp) (r : AlarmRecord) : AlarmRecord :=
  AlarmRecord.touched stamp
    { r with shelvedUntil := none, state := .activeUnack, ackedBy := none, annunciate := true }

/-- R136, the request. -/
def ownerUnshelve : Owner := fun _ f s =>
  withAlarm f s fun i r =>
    if r.shelvedUntil.isNone then noChange .unshelve [] s
    else taken [] (s.setAlt (s.alt.rewrite i (r.unshelved s.sht.stamp))).settle

def execUnshelve (p : Port) (q : Byte) (f : List Byte) (s : State) : Host.Outcome State Fault Refusal :=
  finish (s.requestArrives .unshelve ownerUnshelve p q f)

/-- A record after one expiry of the shelving timer: its time falls, and at 0 it is unshelved (R136). -/
def AlarmRecord.shelfTick (stamp : Option Stamp) (r : AlarmRecord) : AlarmRecord :=
  match r.shelvedUntil with
  | none => r
  | some n => if n ≤ 1 then r.unshelved stamp else { r with shelvedUntil := some (n - 1) }

/-- A slot after one expiry of the shelving timer. -/
def AlarmSlot.shelfTick (stamp : Option Stamp) (x : AlarmSlot) : AlarmSlot :=
  match x.content with
  | .live r => { x with content := .live (r.shelfTick stamp) }
  | .free | .stub _ _ _ => x

/-- R136, the timer. -/
def State.shelvingTick (s : State) : State :=
  (s.setAlt { s.alt with slots := s.alt.slots.map (AlarmSlot.shelfTick s.sht.stamp) }).settle

def execShelvingTimerExpiry (s : State) : Host.Outcome State Fault Refusal :=
  finish (s.whileRunning State.shelvingTick)

/-- The shelf time of one record, of which no more than a second is left, reaches 0 (R136; log entry 13). -/
def State.shelfEnds (i : SlotNo) (s : State) : State :=
  match s.alt.record i with
  | none => s
  | some r =>
    if r.shelvedUntil.any (fun n => n ≤ 1) then
      (s.setAlt (s.alt.rewrite i (r.unshelved s.sht.stamp))).settle
    else s

def execShelfTimeExpiry (i : SlotNo) (s : State) : Host.Outcome State Fault Refusal :=
  finish (s.whileRunning (State.shelfEnds i))

/-! ### The trip map (R140, R142) -/

/-- The rule that six bytes of a trip-map entry spell, where R140 admits it. -/
def tripRuleOf (f : List Byte) : Option TripRule :=
  match identityAt f 1, minLevel? (field f 4 1), action? (field f 0 1) (field f 5 1) with
  | some id, some m, some a =>
    if id.mappable ∧ (m = .any ∨ id.isSide) then some { identity := id, minLevel := m, action := a } else none
  | _, _, _ => none

/-- The contents that six bytes spell: empty, a rule, or none where R140 refuses them. -/
def tripContents? (f : List Byte) : Option (Option TripRule) :=
  if field f 0 1 = 0 then some none else (tripRuleOf f).map some

/-- Whether another entry in force holds a channel on an identity (R142). -/
def AlarmTable.heldByOther (a : AlarmTable) (e : EntryNo) (id : Identity) (c : Chan) : Bool :=
  (List.finRange 16).any fun o =>
    o != e && (a.tripMap.get o).inForce
      && (a.tripMap.get o).rule.any fun r => r.identity == id && r.action == .holdChannel c

/-- The old entry taken out of force (R142). -/
def State.oldEntryOut (e : EntryNo) (s : State) : State :=
  match s.alt.tripMap.get e with
  | { rule := some { identity := id, minLevel := _, action := .holdChannel c }, inForce := true } =>
    if s.alt.heldByOther e id c then s.setInForce e false else (s.setInForce e false).holdRelease c id
  | { rule := _, inForce := _ } => s.setInForce e false

/-- The shelving of the live record of an identity ends (R136, R142). -/
def State.shelvingEnds (id : Identity) (s : State) : State :=
  match s.alt.slotOf id with
  | none => s
  | some i =>
    match s.alt.record i with
    | none => s
    | some r => if r.shelvedUntil.isSome then s.setAlt (s.alt.rewrite i (r.unshelved s.sht.stamp)) else s

/-- New contents written in an entry, its in-force mark clear. -/
def State.writeEntry (e : EntryNo) (x : Option TripRule) (s : State) : State :=
  s.setAlt { s.alt with tripMap := s.alt.tripMap.put e { rule := x, inForce := false } }

/-- An entry replaced (R142). -/
def State.replaceEntry (e : EntryNo) (x : Option TripRule) (s : State) : State :=
  let s1 := (s.oldEntryOut e).writeEntry e x
  match x with
  | none => s1
  | some r => ((s1.shelvingEnds r.identity).entryIntoForce e).settle

/-- R140. -/
def ownerSetTripEntry : Owner := fun _ f s =>
  if s.acu.isOpen = false then refuse .accessRequired s
  else match entry? (field f 0 1), tripContents? (f.drop 1) with
    | some e, some x => taken [] (s.replaceEntry e x).startOpenTimer
    | _, _ => refuse .outOfRange s

def execSetTripEntry (p : Port) (q : Byte) (f : List Byte) (s : State) : Host.Outcome State Fault Refusal :=
  finish (s.requestArrives .setTripEntry ownerSetTripEntry p q f)

/-- R140, reading: the 16 entries with their in-force marks. -/
def ownerReadTripMap : Owner := fun _ _ s =>
  taken (s.alt.tripMap.list.flatMap fun e => tripRuleBytes e.rule ++ flag e.inForce) s

def execReadTripMap (p : Port) (q : Byte) (f : List Byte) (s : State) : Host.Outcome State Fault Refusal :=
  finish (s.requestArrives .readTripMap ownerReadTripMap p q f)

/-! ### The horn silenced (R144) -/

/-- A slot silenced. -/
def AlarmSlot.silenced (stamp : Option Stamp) (x : AlarmSlot) : AlarmSlot :=
  match x.content with
  | .live r =>
    if r.annunciate then { x with content := .live (AlarmRecord.touched stamp { r with annunciate := false }) }
    else x
  | .free | .stub _ _ _ => x

/-- R144. -/
def ownerSilence : Owner := fun _ _ s =>
  if (List.finRange 65).any fun i => (s.alt.record i).any (·.annunciate) then
    taken [] (s.setAlt { s.alt with slots := s.alt.slots.map (AlarmSlot.silenced s.sht.stamp) }).settle
  else noChange .silence [] s

def execSilence (p : Port) (q : Byte) (f : List Byte) (s : State) : Host.Outcome State Fault Refusal :=
  finish (s.requestArrives .silence ownerSilence p q f)

/-! ### Records on the links (R145, R148) -/

/-- A live record from the handle to the shelved-until field, in the order of Table 7.4. -/
def recordHead (i : SlotNo) (generation : Nat) (r : AlarmRecord) : List Byte :=
  handleBytes i.val generation ++ r.identity.bytes ++ opt (fun l => u8 (Level.code l)) r.level
    ++ u8 r.priority.code ++ u8 r.state.code ++ opt stampBytes r.cameStamp ++ opt stampBytes r.changeStamp
    ++ u16 r.repeats ++ flag r.late ++ opt (fun p => u8 (portCode p)) r.ackedBy ++ opt u16 r.shelvedUntil

/-- The fields after the change marks; the lost count is present in slot 64 alone. -/
def recordTail (i : SlotNo) (r : AlarmRecord) : List Byte :=
  flag r.annunciate ++ opt u16 (if i = reservedSlot then some r.lost else none)

/-- The whole record of Table 7.4, with both change marks. -/
def recordBytes (i : SlotNo) (generation : Nat) (r : AlarmRecord) : List Byte :=
  recordHead i generation r ++ flag r.markControl ++ flag r.markPanel ++ recordTail i r

/-- An entry of a collection: a live record without its marks, or a retirement (R145; DEDUCED, log
entry 26). -/
def collectionEntry (i : SlotNo) (x : AlarmSlot) : List Byte :=
  match x.content with
  | .free => []
  | .live r => recordHead i x.generation r ++ recordTail i r
  | .stub id _ _ => handleBytes i.val x.generation ++ id.bytes ++ u8 0

/-- A slot collected by a port: its mark is cleared, and a stub with both marks clear becomes a free
slot (R145). -/
def AlarmSlot.collected (p : Port) (x : AlarmSlot) : AlarmSlot :=
  match x.content, p with
  | .free, _ => x
  | .live r, .control => { x with content := .live { r with markControl := false } }
  | .live r, .panel => { x with content := .live { r with markPanel := false } }
  | .stub id _ mp, .control => { x with content := if mp then .stub id false mp else .free }
  | .stub id mc _, .panel => { x with content := if mc then .stub id mc false else .free }

/-- The slots whose mark for a port is set, rising. -/
def AlarmTable.marked (a : AlarmTable) (p : Port) : List SlotNo :=
  (List.finRange 65).filter fun i => (a.slots.get i).mark p

/-- The table with the first six marked slots collected by a port. -/
def AlarmTable.collect (p : Port) (a : AlarmTable) : AlarmTable :=
  { a with slots := ((a.marked p).take Config.collectMax).foldl (fun t i => t.modify i (AlarmSlot.collected p)) a.slots }

/-- R145. -/
def ownerCollectAlarms : Owner := fun p _ s =>
  let marked := s.alt.marked p
  taken (listOf (fun i => collectionEntry i (s.alt.slots.get i)) (marked.take Config.collectMax)
      ++ u16 (marked.drop Config.collectMax).length)
    (s.setAlt (s.alt.collect p)).settle

def execCollectAlarms (p : Port) (q : Byte) (f : List Byte) (s : State) : Host.Outcome State Fault Refusal :=
  finish (s.requestArrives .collectAlarms ownerCollectAlarms p q f)

/-- R148, one record. -/
def ownerReadAlarm : Owner := fun _ f s =>
  withAlarm f s fun i r => taken (recordBytes i (s.alt.slots.get i).generation r) s

def execReadAlarm (p : Port) (q : Byte) (f : List Byte) (s : State) : Host.Outcome State Fault Refusal :=
  finish (s.requestArrives .readAlarm ownerReadAlarm p q f)

/-- A condition-list entry: presence with level and priority, and the pending mark. -/
def conditionBytes (k : Option Condition) : List Byte :=
  opt (fun k => opt (fun l => u8 (Level.code l)) (Condition.level k) ++ u8 k.priority.code) k
    ++ flag (k.any (·.pending))

/-- The live record of an identity, with its handle, where there is one. -/
def AlarmTable.recordOf (a : AlarmTable) (id : Identity) : List Byte :=
  match a.slotOf id with
  | none => flag false
  | some i =>
    match a.record i with
    | none => flag false
    | some r => flag true ++ recordBytes i (a.slots.get i).generation r

/-- R148, one identity. -/
def ownerFindAlarm : Owner := fun _ f s =>
  match identityAt f 0 with
  | none => refuse .outOfRange s
  | some id => taken (conditionBytes (s.alt.condition id) ++ s.alt.recordOf id) s

def execFindAlarm (p : Port) (q : Byte) (f : List Byte) (s : State) : Host.Outcome State Fault Refusal :=
  finish (s.requestArrives .findAlarm ownerFindAlarm p q f)

/-- The fields of a READ_ALARM_TABLE answer (R148).  That the live records are counted in rising state value,
ACTIVE_UNACK, ACTIVE_ACKED, CLEARED_UNACK, is DEDUCED, unsafe (log entry 6). -/
def AlarmTable.bytes (a : AlarmTable) : List Byte :=
  flag a.horn ++ flag a.attention
    ++ u16 (a.slotsIn .activeUnack).length ++ u16 (a.slotsIn .activeAcked).length
    ++ u16 (a.slotsIn .clearedUnack).length
    ++ u16 (a.slots.list.filter (·.content == .free)).length
    ++ u16 (a.slots.list.filter fun x => match x.content with
        | .stub _ _ _ => true
        | .free | .live _ => false).length
    ++ u16 a.pendings.length ++ listOf Identity.bytes (a.ranked.take Config.pendingShown)

/-- R148, the table. -/
def ownerReadAlarmTable : Owner := fun _ _ s => taken s.alt.bytes s

def execReadAlarmTable (p : Port) (q : Byte) (f : List Byte) (s : State) : Host.Outcome State Fault Refusal :=
  finish (s.requestArrives .readAlarmTable ownerReadAlarmTable p q f)

/-! ### Warm restart (R150) -/

/-- The table emptied: generations and trip map kept (R150). -/
def AlarmTable.warm (a : AlarmTable) : AlarmTable :=
  { conditions := Tbl.all 173 none
    slots := a.slots.map fun x => { generation := x.generation, content := .free }
    tripMap := a.tripMap.map fun e => { e with inForce := false }
    reportWaiting := a.reportWaiting, horn := false, attention := a.reportWaiting }

end Sys2Proof.Machine
end

