-- ==== Sys2Proof/Machine/Firing.lean ====
section
/-! DEFINITION. Firing computation: demands and settings, the nine stages of a firing period, reading
(chapter 4).  Stage n takes the figures of stage n - 1; nothing else is taken between two stages (R70).
-/

namespace Sys2Proof.Machine

/-! ### Demands and settings (R67 to R69) -/

/-- A demand in kW written for a location. -/
def State.setDemand (l : Location) (kw : Nat) (s : State) : State :=
  match l with
  | .main => { s with fsc := { s.fsc with demandMain := kw } }
  | .calc => { s with fsc := { s.fsc with demandCalc := kw } }

/-- R67. -/
def ownerSetDemand : Owner := fun _ f s =>
  match location? (field f 0 1) with
  | none => refuse .outOfRange s
  | some l =>
    let kw := 100 * min Config.demandMax (field f 1 2)
    takenClamped (decide (Config.demandMax < field f 1 2)) (u32 kw) (s.setDemand l kw)

def execSetDemand (p : Port) (q : Byte) (f : List Byte) (s : State) : Host.Outcome State Fault Refusal :=
  finish (s.requestArrives .setDemand ownerSetDemand p q f)

/-- The stored fields of the firing record written. -/
def State.setFiringConfig (c : FiringConfig) (s : State) : State := { s with fsc := { s.fsc with config := c } }

/-- R68, the ceiling. -/
def ownerSetClCeiling : Owner := fun _ f s =>
  let ceiling := (takeOpt 4 f).1
  if s.acu.isOpen = false then refuse .accessRequired s
  else if ceiling.any (fun v => Config.ceilingMax < v) then refuse .outOfRange s
  else taken [] (s.setFiringConfig { s.fsc.config with ceiling := ceiling }).startOpenTimer

def execSetClCeiling (p : Port) (q : Byte) (f : List Byte) (s : State) : Host.Outcome State Fault Refusal :=
  finish (s.requestArrives .setClCeiling ownerSetClCeiling p q f)

/-- R68, the credit parameters. -/
def ownerSetCreditParams : Owner := fun _ f s =>
  if s.acu.isOpen = false then refuse .accessRequired s
  else if field f 0 2 < Config.tRefMin ∨ Config.tRefMax < field f 0 2 ∨ Config.kSaMax < field f 2 2 then
    refuse .outOfRange s
  else taken []
    (s.setFiringConfig { s.fsc.config with tRef := field f 0 2, kSa := field f 2 2 }).startOpenTimer

def execSetCreditParams (p : Port) (q : Byte) (f : List Byte) (s : State) : Host.Outcome State Fault Refusal :=
  finish (s.requestArrives .setCreditParams ownerSetCreditParams p q f)

/-- R69. -/
def ownerSetDeficitAlarm : Owner := fun _ f s =>
  if field f 0 2 < Config.bandMin ∨ Config.bandMax < field f 0 2 ∨ field f 2 2 < Config.delayMin
      ∨ Config.delayMax < field f 2 2 then refuse .outOfRange s
  else taken [] (s.setFiringConfig { s.fsc.config with band := field f 0 2, delay := field f 2 2 })

def execSetDeficitAlarm (p : Port) (q : Byte) (f : List Byte) (s : State) : Host.Outcome State Fault Refusal :=
  finish (s.requestArrives .setDeficitAlarm ownerSetDeficitAlarm p q f)

/-! ### What a period reads (R70) -/

/-- One channel as a firing period reads it (R66, R70). -/
structure ChanView where
  state    : ChannelState
  location : Location
  cls      : FuelClass
  share    : Nat
  minFlow  : Nat
  maxFlow  : Nat
  step     : Nat
  stopStep : Nat
  ncv      : Nat
  chlorine : Nat
  setpoint : Nat
  /-- In the fallback of a lost link: held for the loss, the hold timer run out (R60, R79). -/
  fallback : Bool
deriving DecidableEq, Repr

/-- The reading of one channel. -/
def State.view (s : State) (c : Chan) : ChanView :=
  let r := s.chan c
  { state := r.state, location := r.config.location, cls := r.fuelClass, share := r.config.share
    minFlow := r.minFlow, maxFlow := r.maxFlow, step := r.rampStep, stopStep := r.stoppingStep
    ncv := s.lrg.headNcv c, chlorine := s.lrg.headChlorine c, setpoint := s.setpoint c
    fallback := r.holds.controlLost && s.chc.supervision.link == .lostFallback }

/-- The readings of the six channels. -/
abbrev Views := Tbl ChanView 6

/-- A figure for each channel. -/
abbrev Flows := Tbl Nat 6

def State.views (s : State) : Views := Tbl.make (s.view 0) s.view

def ChanView.running (v : ChanView) : Bool := v.state == .running

/-- Active, and not steered by the split: STARTING, HOLDING or STOPPING (R74). -/
def ChanView.steady (v : ChanView) : Bool :=
  v.state == .starting || v.state == .holding || v.state == .stopping

/-- Heat in kW of a mass flow (R66). -/
def ChanView.heat (v : ChanView) (flow : Nat) : Nat := flow * v.ncv / 3600

/-- Mass flow in kg/h of a heat (R74). -/
def ChanView.mass (v : ChanView) (heat : Nat) : Nat := heat * 3600 / v.ncv

/-- A sum over the channels that a test picks. -/
def sumWhere (vs : Views) (pick : ChanView → Bool) (f : Chan → Nat) : Nat :=
  ((allChans.filter fun c => pick (vs.get c)).map f).sum

/-- The part of a heat that falls to a share; 0 where the shares sum to 0 (R74, R75, R77). -/
def portion (heat share sum : Nat) : Nat := if sum = 0 then 0 else heat * share / sum

/-- A figure at each location. -/
structure AtLocations where
  atMain : Nat
  atCalc : Nat
deriving DecidableEq, Repr

def AtLocations.at (x : AtLocations) : Location → Nat
  | .main => x.atMain
  | .calc => x.atCalc

/-- The figure of each location. -/
def eachLocation (f : Location → Nat) : AtLocations := { atMain := f .main, atCalc := f .calc }

/-! ### Stage 1: demand correction (R72, R73) -/

/-- A signed figure brought into plus or minus a bound. -/
def boundBy (bound : Nat) (z : Int) : Int := max (-bound) (min z bound)

/-- The demands corrected, and the credit with its basis. -/
structure Correction where
  corrected : AtLocations
  credit    : Int
  basis     : CreditState
deriving DecidableEq, Repr

/-- The basis of the credit of a period: live or frozen (R72, R120). -/
def State.creditBasis (s : State) : CreditState := creditState s.clc.mode (s.point 4).quality

/-- The credit used (R72). -/
def State.creditUsed (s : State) : Int :=
  match s.creditBasis with
  | .valid => boundBy (s.fsc.demandMain / 10) (s.fsc.config.kSa * ((s.point 4).value - s.fsc.config.tRef))
  | .frozen => boundBy (s.fsc.demandMain / 10) s.fsc.lastCredit

/-- A demand limited to the flush cap where one is present (R73). -/
def capped (cap : Option Nat) (kw : Nat) : Nat :=
  match cap with
  | none => kw
  | some k => min k kw

/-- Stage 1. -/
def State.correction (s : State) : Correction :=
  { corrected :=
      { atMain := capped s.fsc.flushCap (s.fsc.demandMain - s.creditUsed).toNat
        atCalc := s.fsc.demandCalc }
    credit := s.creditUsed, basis := s.creditBasis }

/-! ### Stages 2 to 4: available heat, split, targets (R74) -/

/-- Stage 2. -/
def available (vs : Views) (corrected : AtLocations) : AtLocations :=
  eachLocation fun l =>
    corrected.at l - sumWhere vs (fun v => v.steady && v.location == l)
      fun c => (vs.get c).heat (vs.get c).setpoint

/-- The shares of a location's running channels summed. -/
def shareSum (vs : Views) (l : Location) : Nat :=
  sumWhere vs (fun v => v.running && v.location == l) fun c => (vs.get c).share

/-- Stages 3 and 4. -/
def firstTargets (vs : Views) (avail : AtLocations) : Flows :=
  Tbl.make 0 fun c =>
    let v := vs.get c
    if v.running then v.mass (portion (avail.at v.location) v.share (shareSum vs v.location)) else 0

/-! ### Stage 5: clamp and redistribution (R75) -/

/-- Whether the first clamp of stage 5 cuts a channel's target. -/
def isCut (vs : Views) (t : Flows) (c : Chan) : Bool :=
  (vs.get c).running && decide ((vs.get c).maxFlow < t.get c)

/-- The clamped-off heat of a location. -/
def cutHeat (vs : Views) (t : Flows) (l : Location) : Nat :=
  ((allChans.filter fun c => isCut vs t c && (vs.get c).location == l).map fun c =>
    (vs.get c).heat (t.get c - (vs.get c).maxFlow)).sum

/-- The shares of a location's running channels that were not clamped, summed. -/
def uncutShares (vs : Views) (t : Flows) (l : Location) : Nat :=
  ((allChans.filter fun c => (vs.get c).running && !isCut vs t c && (vs.get c).location == l).map fun c =>
    (vs.get c).share).sum

/-- Stage 5. -/
def clampedTargets (vs : Views) (t : Flows) : Flows :=
  let cut := eachLocation (cutHeat vs t)
  let uncut := eachLocation (uncutShares vs t)
  Tbl.make 0 fun c =>
    let v := vs.get c
    if v.running then
      let gained := if isCut vs t c then 0
        else v.mass (portion (cut.at v.location) v.share (uncut.at v.location))
      max v.minFlow (min v.maxFlow (t.get c + gained))
    else 0

/-! ### Stages 6 and 7: chlorine and handover (R76, R77) -/

/-- What the chlorine stage leaves: the targets, and whether it scaled them. -/
structure ChlorineStage where
  targets : Flows
  active  : Bool
deriving DecidableEq, Repr

/-- The fixed chlorine F in mg/h: that of the steady ALT channels at the setpoints they hold. -/
def fixedChlorine (vs : Views) : Nat :=
  sumWhere vs (fun v => v.steady && v.cls == .alt) fun c => (vs.get c).setpoint * (vs.get c).chlorine

/-- The running chlorine N in mg/h: that of the running ALT channels at given targets. -/
def runningChlorine (vs : Views) (t : Flows) : Nat :=
  sumWhere vs (fun v => v.running && v.cls == .alt) fun c => t.get c * (vs.get c).chlorine

/-- One running ALT target scaled to the allowed chlorine A out of N. -/
def scaled (allowed : Int) (n minFlow t : Nat) : Nat :=
  if allowed ≤ 0 then 0
  else if t * allowed.toNat / n < minFlow then 0 else t * allowed.toNat / n

/-- Stage 6. -/
def chlorineStage (vs : Views) (ceiling : Option Nat) (t : Flows) : ChlorineStage :=
  match ceiling with
  | none => { targets := t, active := false }
  | some g =>
    let n := runningChlorine vs t
    let fixed := fixedChlorine vs
    if fixed + n ≤ g * 1000 then { targets := t, active := false }
    else
      { targets := Tbl.make 0 fun c =>
          let v := vs.get c
          if v.running && v.cls == .alt then scaled ((g * 1000 : Nat) - (fixed : Int)) n v.minFlow (t.get c)
          else t.get c
        active := true }

/-- The heat the chlorine stage removed at a location. -/
def removedHeat (vs : Views) (before after : Flows) (l : Location) : Nat :=
  sumWhere vs (fun v => v.running && v.cls == .alt && v.location == l)
    fun c => (vs.get c).heat (before.get c) - (vs.get c).heat (after.get c)

/-- The shares of a location's running conventional channels summed. -/
def convShares (vs : Views) (l : Location) : Nat :=
  sumWhere vs (fun v => v.running && v.cls == .conv && v.location == l) fun c => (vs.get c).share

/-- Stage 7. -/
def handedTargets (vs : Views) (before after : Flows) : Flows :=
  let removed := eachLocation (removedHeat vs before after)
  let shares := eachLocation (convShares vs)
  Tbl.make 0 fun c =>
    let v := vs.get c
    if v.running && v.cls == .conv then
      min v.maxFlow
        (after.get c + v.mass (portion (removed.at v.location) v.share (shares.at v.location)))
    else after.get c

/-! ### Stage 8: setpoints (R50, R60, R78, R79) -/

/-- The setpoint of a running channel moved toward its target (R78). -/
def ChanView.ramped (v : ChanView) (target : Nat) : Nat :=
  let p := if v.setpoint < v.minFlow ∧ target ≠ 0 then v.minFlow else v.setpoint
  if p < target then min target (p + v.step)
  else
    match v.cls with
    | .alt => target
    | .conv => max target (p - v.step)

/-- The setpoint stage 8 leaves a channel. -/
def ChanView.newSetpoint (v : ChanView) (target : Nat) : Nat :=
  match v.state with
  | .running => v.ramped target
  | .stopping => v.setpoint - v.stopStep
  | .holding =>
    if v.fallback = true ∧ v.cls = .conv ∧ v.minFlow < v.setpoint then max v.minFlow (v.setpoint - v.stopStep)
    else v.setpoint
  | .starting => v.setpoint
  | .off | .tripped => 0

/-- The target stage 8 writes (R79). -/
def ChanView.newTarget (v : ChanView) (target : Nat) : Nat :=
  match v.state with
  | .running => target
  | .starting | .holding => v.newSetpoint target
  | .off | .stopping | .tripped => 0

/-! ### Stage 9: published figures (R80) -/

/-- The heat delivered by the active channels that a test picks, at their new setpoints. -/
def deliveredWhere (vs : Views) (sp : Flows) (pick : ChanView → Bool) : Nat :=
  sumWhere vs (fun v => v.state.active && pick v) fun c => (vs.get c).heat (sp.get c)

/-- The chlorine in mg/h of the active ALT channels at their new setpoints. -/
def altChlorine (vs : Views) (sp : Flows) : Nat :=
  sumWhere vs (fun v => v.state.active && v.cls == .alt) fun c => sp.get c * (vs.get c).chlorine

/-- The figures of a period. -/
def figures (vs : Views) (k : Correction) (active : Bool) (sp : Flows) : Published :=
  let m := deliveredWhere vs sp (·.location == .main)
  let n := deliveredWhere vs sp (·.location == .calc)
  let alt := deliveredWhere vs sp (·.cls == .alt)
  { correctedMain := k.corrected.atMain, correctedCalc := k.corrected.atCalc
    credit := k.credit, basis := k.basis, deliveredMain := m, deliveredCalc := n
    deficitMain := k.corrected.atMain - m, deficitCalc := k.corrected.atCalc - n
    surplusMain := m - k.corrected.atMain, surplusCalc := n - k.corrected.atCalc
    altChlorine := (altChlorine vs sp + 999) / 1000
    substitution := if m + n = 0 then 0 else alt * 1000 / (m + n)
    clActive := active }

/-! ### A period whole (R70) -/

/-- What the stages of one period find. -/
structure PeriodResult where
  correction : Correction
  /-- Running targets as stage 7 leaves them. -/
  targets    : Flows
  active     : Bool
  setpoints  : Flows
deriving DecidableEq, Repr

/-- Stages 1 to 8 on the readings. -/
def periodResult (vs : Views) (k : Correction) (ceiling : Option Nat) : PeriodResult :=
  let t5 := clampedTargets vs (firstTargets vs (available vs k.corrected))
  let cl := chlorineStage vs ceiling t5
  let t7 := handedTargets vs t5 cl.targets
  { correction := k, targets := t7, active := cl.active
    setpoints := Tbl.make 0 fun c => (vs.get c).newSetpoint (t7.get c) }

/-- Whether the chlorine stage set a channel's target to 0. -/
def PeriodResult.zeroed (x : PeriodResult) (vs : Views) (c : Chan) : Bool :=
  x.active && (vs.get c).running && (vs.get c).cls == .alt && x.targets.get c == 0

/-- The firing record with a period's results written, conditions apart. -/
def Firing.withPeriod (vs : Views) (x : PeriodResult) (r : Firing) : Firing :=
  { r with
    lastCredit := if x.correction.basis = .valid then x.correction.credit else r.lastCredit
    target := Tbl.make 0 fun c => (vs.get c).newTarget (x.targets.get c)
    setpoint := x.setpoints
    clZeroed := Tbl.make false (x.zeroed vs)
    published := figures vs x.correction x.active x.setpoints
    periodTaken := true }

/-- The hand-over at the end of a period: the rate is pending, and the setpoint enters the expected
sum (R70, R87, R99). -/
def State.handPeriod (c : Chan) (setpoint : Nat) (s : State) : State :=
  let s1 := s.handOver c setpoint
  s1.setFeeder c { s1.feeder c with expectedSum := (s1.feeder c).expectedSum + setpoint }

/-- A stopping channel whose setpoint has reached 0 goes to CH_OFF, at the period (R50).  A setpoint that a
pairing brought to 0 before it ends the stop here too: DEDUCED, unsafe (log entry 32). -/
def State.stopEnds (c : Chan) (s : State) : State :=
  if (s.chan c).state = .stopping ∧ s.setpoint c = 0 then s.enterOff c else s

/-! ### Firing conditions (R81, R82) -/

/-- Whether a deficit is above the band (R81). -/
def aboveBand (deficit corrected band : Nat) : Bool := decide (corrected * band < deficit * 1000)

/-- A deficit count after a period (R81). -/
def deficitCount (above : Bool) (delay count : Nat) : Nat := if above then min delay (count + 1) else 0

/-- The deficit condition of MAIN after a period (R81). -/
def State.deficitMain (s : State) : State :=
  let r := s.fsc
  let above := aboveBand r.published.deficitMain r.published.correctedMain r.config.band
  let n := deficitCount above r.config.delay r.countMain
  if above = true ∧ r.config.delay ≤ n ∧ r.reportedMain = false then
    State.comesFixed (.firing .heatDeficitMain) { s with fsc := { r with countMain := n, reportedMain := true } }
  else if above = false ∧ r.reportedMain = true then
    State.goes (.firing .heatDeficitMain) { s with fsc := { r with countMain := n, reportedMain := false } }
  else { s with fsc := { r with countMain := n } }

/-- The deficit condition of CALC after a period (R81). -/
def State.deficitCalc (s : State) : State :=
  let r := s.fsc
  let above := aboveBand r.published.deficitCalc r.published.correctedCalc r.config.band
  let n := deficitCount above r.config.delay r.countCalc
  if above = true ∧ r.config.delay ≤ n ∧ r.reportedCalc = false then
    State.comesFixed (.firing .heatDeficitCalc) { s with fsc := { r with countCalc := n, reportedCalc := true } }
  else if above = false ∧ r.reportedCalc = true then
    State.goes (.firing .heatDeficitCalc) { s with fsc := { r with countCalc := n, reportedCalc := false } }
  else { s with fsc := { r with countCalc := n } }

/-- FIRING/CL_LIMITED after a period (R82). -/
def State.clLimited (s : State) : State :=
  let r := s.fsc
  if r.published.clActive then
    if r.reportedCl then { s with fsc := { r with inactive := 0 } }
    else State.comesFixed (.firing .clLimited) { s with fsc := { r with inactive := 0, reportedCl := true } }
  else if r.reportedCl then
    if Config.clRelease ≤ r.inactive + 1 then
      State.goes (.firing .clLimited) { s with fsc := { r with inactive := 0, reportedCl := false } }
    else { s with fsc := { r with inactive := r.inactive + 1 } }
  else { s with fsc := { r with inactive := 0 } }

/-- The stages taken and their results written. -/
def State.takeStages (s : State) : State :=
  { s with fsc := s.fsc.withPeriod s.views (periodResult s.views s.correction s.fsc.config.ceiling) }

/-- A firing period whole: the stages, the hand-over of every setpoint, the channels that have stopped, and
the condition reports (R70; log entry 11).  That several channels which stop in one period enter CH_OFF one after
another, C1 to C6, each with its channel-off notice, is a DESIGN CHOICE, unsafe (log entry 40). -/
def State.firingPeriod (s : State) : State :=
  let s1 := s.takeStages
  let s2 := allChans.foldl (fun s c => s.handPeriod c (s.setpoint c)) s1
  let s3 := allChans.foldl (fun s c => s.stopEnds c) s2
  s3.deficitMain.deficitCalc.clLimited

def execFiringPeriodExpiry (s : State) : Host.Outcome State Fault Refusal :=
  finish (s.whileRunning State.firingPeriod)

/-! ### Notices of the cooler (R73) -/

/-- A flush-entry notice (R73). -/
def State.flushEntry (s : State) : State :=
  { s with fsc := { s.fsc with
    flushCap := some (if s.fsc.periodTaken then s.fsc.published.correctedMain else s.fsc.demandMain) } }

/-- A flush-end notice (R73). -/
def State.flushEnd (s : State) : State := { s with fsc := { s.fsc with flushCap := none } }

/-! ### Reading (R83) -/

def publishedBytes (x : Published) : List Byte :=
  u32 x.correctedMain ++ u32 x.correctedCalc ++ i16 x.credit ++ u8 x.basis.code
    ++ u32 x.deliveredMain ++ u32 x.deliveredCalc ++ u32 x.deficitMain ++ u32 x.deficitCalc
    ++ u32 x.surplusMain ++ u32 x.surplusCalc ++ u32 x.altChlorine ++ u16 x.substitution ++ flag x.clActive

/-- The fields of a READ_FIRING answer (R83). -/
def Firing.bytes (r : Firing) : List Byte :=
  u32 r.demandMain ++ u32 r.demandCalc ++ opt u32 r.config.ceiling ++ u16 r.config.tRef ++ u16 r.config.kSa
    ++ u16 r.config.band ++ u16 r.config.delay ++ i16 r.lastCredit ++ opt u32 r.flushCap
    ++ allChans.flatMap (fun c => u16 (r.target.get c) ++ u16 (r.setpoint.get c))
    ++ u16 r.countMain ++ u16 r.countCalc ++ u16 r.inactive
    ++ flag r.reportedMain ++ flag r.reportedCalc ++ flag r.reportedCl ++ publishedBytes r.published

/-- R83. -/
def ownerReadFiring : Owner := fun _ _ s => taken s.fsc.bytes s

def execReadFiring (p : Port) (q : Byte) (f : List Byte) (s : State) : Host.Outcome State Fault Refusal :=
  finish (s.requestArrives .readFiring ownerReadFiring p q f)

/-! ### Warm restart (R85) -/

/-- The firing record after a warm restart (R85). -/
def Firing.warm (r : Firing) : Firing :=
  { r with
    target := Tbl.all 6 0, setpoint := Tbl.all 6 0, clZeroed := Tbl.all 6 false, flushCap := none
    countMain := 0, countCalc := 0, inactive := 0
    reportedMain := false, reportedCalc := false, reportedCl := false, periodTaken := false }

end Sys2Proof.Machine
end

