-- ==== Sys2Proof/Machine/Cooling.lean ====
section
/-! DEFINITION. Cooler controller: configuration, the cooler period, flushes, manual running, reading
(chapter 6).
-/

namespace Sys2Proof.Machine

/-! ### Places of the cooler -/

def State.setCooler (k : Cooler) (s : State) : State := { s with clc := k }

def State.setCompartment (n : Comp) (x : Compartment) (s : State) : State :=
  { s with clc := { s.clc with compartments := s.clc.compartments.put n x } }

/-- A request that names a compartment (R107, R108, R119). -/
def withComp (f : List Byte) (s : State) (rule : Comp → Compartment → Reply) : Reply :=
  match comp? (field f 0 1) with
  | none => refuse .outOfRange s
  | some n => rule n (s.clc.compartments.get n)

/-! ### Configuration (R107 to R109) -/

/-- A compartment with weight, capacity and min speed written; an AUTO speed below the new min speed is
raised to it, with the manual speed in CM_MANUAL (R107). -/
def Compartment.configured (mode : CoolerMode) (weight capacity minSpeed : Nat) (x : Compartment) : Compartment :=
  let raised := x.config.control == .auto && decide (x.speed < minSpeed)
  { x with
    config := { x.config with weight := weight, capacity := capacity, minSpeed := minSpeed }
    speed := if raised then minSpeed else x.speed
    manualSpeed := if raised && mode == .manual then minSpeed else x.manualSpeed }

/-- R107. -/
def ownerSetCompartment : Owner := fun _ f s =>
  withComp f s fun n x =>
    if Config.weightMax < field f 1 2 ∨ field f 3 4 < Config.fanCapacityMin ∨ Config.fanCapacityMax < field f 3 4
        ∨ field f 7 2 < Config.minSpeedMin ∨ Config.minSpeedMax < field f 7 2 then refuse .outOfRange s
    else taken [] (s.setCompartment n (x.configured s.clc.mode (field f 1 2) (field f 3 4) (field f 7 2)))

def execSetCompartment (p : Port) (q : Byte) (f : List Byte) (s : State) : Host.Outcome State Fault Refusal :=
  finish (s.requestArrives .setCompartment ownerSetCompartment p q f)

/-- A compartment with control and fixed speed written (R108; the manual speed of a change to CMP_AUTO is
DEDUCED, log entry 24). -/
def Compartment.controlled (mode : CoolerMode) (control : CompControl) (fixedSpeed : Nat) (x : Compartment) :
    Compartment :=
  let x1 := { x with config := { x.config with control := control, fixedSpeed := fixedSpeed } }
  match x.config.control, control with
  | _, .fixed => { x1 with airShort := false }
  | .auto, .auto => x1
  | .fixed, .auto =>
    { x1 with
      speed := max x.config.minSpeed x.speed
      manualSpeed := if mode = .manual then max x.config.minSpeed x.speed else x.manualSpeed }

/-- R108. -/
def ownerSetCompartmentControl : Owner := fun _ f s =>
  withComp f s fun n x =>
    match control? (field f 1 1) with
    | none => refuse .outOfRange s
    | some k =>
      takenClamped (decide (Config.speedMax < field f 2 2)) []
        (s.setCompartment n (x.controlled s.clc.mode k (min Config.speedMax (field f 2 2))))

def execSetCompartmentControl (p : Port) (q : Byte) (f : List Byte) (s : State) :
    Host.Outcome State Fault Refusal :=
  finish (s.requestArrives .setCompartmentControl ownerSetCompartmentControl p q f)

/-- The configuration a SET_COOLER_CONFIG carries. -/
def coolerConfigOf (f : List Byte) : CoolerConfig :=
  { specificAir := field f 0 2, grateMin := field f 2 2, grateMax := field f 4 2, bedTarget := field f 6 2
    grateGain := field f 8 2, flushStep := field f 10 2, flushTime := field f 12 2 }

/-- Each value in its range of Table 6.4. -/
def CoolerConfig.inRange (c : CoolerConfig) : Bool :=
  decide (Config.specificAirMin ≤ c.specificAir) && decide (c.specificAir ≤ Config.specificAirMax)
    && decide (Config.grateMin ≤ c.grateMin) && decide (c.grateMin ≤ Config.grateMax)
    && decide (Config.grateMin ≤ c.grateMax) && decide (c.grateMax ≤ Config.grateMax)
    && decide (Config.bedTargetMin ≤ c.bedTarget) && decide (c.bedTarget ≤ Config.bedTargetMax)
    && decide (c.grateGain ≤ Config.grateGainMax)
    && decide (Config.flushStepMin ≤ c.flushStep) && decide (c.flushStep ≤ Config.flushStepMax)
    && decide (Config.flushTimeMin ≤ c.flushTime) && decide (c.flushTime ≤ Config.flushTimeMax)

/-- A grate speed brought within the bounds. -/
def CoolerConfig.bound (c : CoolerConfig) (grate : Nat) : Nat := max c.grateMin (min c.grateMax grate)

/-- The cooler with a new configuration, its grate speeds brought within the new bounds (R109). -/
def Cooler.configured (c : CoolerConfig) (k : Cooler) : Cooler :=
  { k with config := c, grate := c.bound k.grate, manualGrate := c.bound k.manualGrate }

/-- R109. -/
def ownerSetCoolerConfig : Owner := fun _ f s =>
  let c := coolerConfigOf f
  if c.inRange = false then refuse .outOfRange s
  else if c.grateMax < c.grateMin then refuse .limitOrder s
  else taken [] (s.setCooler (s.clc.configured c))

def execSetCoolerConfig (p : Port) (q : Byte) (f : List Byte) (s : State) : Host.Outcome State Fault Refusal :=
  finish (s.requestArrives .setCoolerConfig ownerSetCoolerConfig p q f)

/-! ### What a period reads (R106) -/

/-- The readings of one cooler period. -/
structure CoolerReadings where
  rate       : Int
  rateUsable : Bool
  bed        : Int
  bedUsable  : Bool
  discharge  : Band
deriving DecidableEq, Repr

def State.coolerReadings (s : State) : CoolerReadings :=
  { rate := (s.point 6).value, rateUsable := (s.point 6).quality.usable
    bed := (s.point 8).value, bedUsable := (s.point 8).quality.usable
    discharge := (s.point 16).band }

/-- The undergrate pressure point of a compartment: P(7 + n) (R105). -/
def pressurePoint (k : Comp) : PointNo := ⟨k.val + 8, by have := k.isLt; omega⟩

/-- Both P6 and P8 are usable. -/
def CoolerReadings.usable (r : CoolerReadings) : Bool := r.rateUsable && r.bedUsable

/-- The compartments with the pressures read (R105). -/
def State.pressuresRead (s : State) : Tbl Compartment 8 :=
  Tbl.make (.start .default) fun k =>
    { s.clc.compartments.get k with
      pressure := (s.point (pressurePoint k)).value
      pressureQuality := (s.point (pressurePoint k)).quality }

/-! ### Transitions (R113, R115) -/

/-- A flush trigger (R115). -/
def Cooler.trigger (k : Cooler) (r : CoolerReadings) : Bool :=
  (r.discharge == .high || r.discharge == .critHigh)
    || (r.bedUsable && k.previousP8.any fun q => decide ((k.config.flushStep : Int) < r.bed - q))

/-- The mode after the transition (Table 6.5). -/
def Cooler.nextMode (k : Cooler) (r : CoolerReadings) : CoolerMode :=
  match k.mode with
  | .idle => if r.usable && decide (Config.idleThreshold ≤ r.rate) then .normal else .idle
  | .normal =>
    if !r.usable then .held
    else if r.rate < Config.idleThreshold then .idle
    else if k.trigger r then .flush
    else .normal
  | .flush => if !r.usable then .held else .flush
  | .held => if r.usable then .normal else .held
  | .manual => .manual

/-- Whether a trigger is tested and holds at this period, so that the flush timer is started or
restarted (R113, R115). -/
def Cooler.triggered (k : Cooler) (r : CoolerReadings) : Bool :=
  (k.mode == .normal || k.mode == .flush) && k.nextMode r == .flush && k.trigger r

/-! ### Air distribution and the bed loop (R110, R112) -/

/-- The air of the FIXED compartments. -/
def fixedAir (cs : Tbl Compartment 8) : Nat :=
  ((cs.list.filter (·.config.control == .fixed)).map fun x => x.config.fixedSpeed * x.config.capacity / 1000).sum

/-- The weights of the AUTO compartments summed. -/
def autoWeights (cs : Tbl Compartment 8) : Nat :=
  ((cs.list.filter (·.config.control == .auto)).map (·.config.weight)).sum

/-- The speed an AUTO compartment's share of the rest asks for, before its bounds (R110). -/
def CompartmentConfig.asked (c : CompartmentConfig) (rest weights : Nat) : Nat :=
  (if weights = 0 then 0 else rest * c.weight / weights) * 1000 / c.capacity

/-- A distributed AUTO compartment: its speed and its air-short flag (R110). -/
def Compartment.distributed (rest weights : Nat) (x : Compartment) : Compartment :=
  match x.config.control with
  | .fixed => x
  | .auto =>
    { x with
      speed := min Config.speedMax (max x.config.minSpeed (x.config.asked rest weights))
      airShort := decide (Config.speedMax < x.config.asked rest weights) }

/-- The air distribution over all compartments (R110). -/
def distribution (specificAir : Nat) (rate : Int) (cs : Tbl Compartment 8) : Tbl Compartment 8 :=
  let rest := rate.toNat * specificAir / 10 - fixedAir cs
  let weights := autoWeights cs
  cs.map fun x => x.distributed rest weights

/-- The grate speed the bed loop leaves (R112). -/
def bedLoop (c : CoolerConfig) (bed : Int) (grate : Nat) : Nat :=
  let change := (c.grateGain * (bed - c.bedTarget) : Int).tdiv 1000
  c.bound ((grate : Int) + max (-Config.grateStep) (min Config.grateStep change)).toNat

/-! ### Outputs by mode (R111, R114) -/

/-- A FIXED compartment takes its fixed speed (R108, R114). -/
def Compartment.fixedTaken (x : Compartment) : Compartment :=
  match x.config.control with
  | .fixed => { x with speed := x.config.fixedSpeed }
  | .auto => x

/-- An AUTO compartment takes a speed. -/
def Compartment.autoTakes (speed : Nat) (x : Compartment) : Compartment :=
  match x.config.control with
  | .auto => { x with speed := speed }
  | .fixed => x

/-- A compartment with its air-short flag cleared. -/
def Compartment.flagCleared (x : Compartment) : Compartment := { x with airShort := false }

/-- The compartments after step 3, from those with their pressures read (Table 6.6, R111). -/
def outputs (mode : CoolerMode) (specificAir : Nat) (rate : Int) (cs : Tbl Compartment 8) : Tbl Compartment 8 :=
  Vector.map Compartment.fixedTaken <|
    match mode with
    | .idle => cs.map fun x => (x.autoTakes x.config.minSpeed).flagCleared
    | .normal => distribution specificAir rate cs
    | .flush =>
      Tbl.make (.start .default) fun k =>
        let x := (distribution specificAir rate cs).get k
        if isRecup k then x.autoTakes Config.speedMax else x
    | .held => cs
    | .manual => cs.map fun x => (x.autoTakes x.manualSpeed).flagCleared

/-- The grate speed after step 3 (Table 6.6). -/
def Cooler.nextGrate (k : Cooler) (mode : CoolerMode) (r : CoolerReadings) : Nat :=
  match mode with
  | .idle => k.config.grateMin
  | .normal => bedLoop k.config r.bed k.grate
  | .flush => k.config.grateMax
  | .held => k.grate
  | .manual => k.manualGrate

/-- The cooler after steps 1 to 4 of a period (R106). -/
def Cooler.period (cs : Tbl Compartment 8) (r : CoolerReadings) (start : Timer) (k : Cooler) : Cooler :=
  { k with
    compartments := outputs (k.nextMode r) k.config.specificAir r.rate cs
    mode := k.nextMode r
    grate := k.nextGrate (k.nextMode r) r
    flushTimer := if k.triggered r then some start else k.flushTimer
    previousP8 := if r.bedUsable then some r.bed else none }

/-! ### Condition reports (R121) -/

/-- COOLER/HELD follows the mode. -/
def State.heldReport (s : State) : State :=
  let due := s.clc.mode == .held
  if s.clc.reportedHeld = due then s
  else
    let s1 := s.setCooler { s.clc with reportedHeld := due }
    if due then s1.comesFixed (.cooler .held) else s1.goes (.cooler .held)

/-- COOLER/FLUSH follows the flush timer. -/
def State.flushReport (s : State) : State :=
  let due := s.clc.flushTimer.isSome
  if s.clc.reportedFlush = due then s
  else
    let s1 := s.setCooler { s.clc with reportedFlush := due }
    if due then s1.comesFixed (.cooler .flush) else s1.goes (.cooler .flush)

/-- COOLER/AIR_SHORT follows the air-short flags (R111). -/
def State.airShortReport (s : State) : State :=
  let due := s.clc.airShortDue
  if s.clc.reportedAirShort = due then s
  else
    let s1 := s.setCooler { s.clc with reportedAirShort := due }
    if due then s1.comesFixed (.cooler .airShort) else s1.goes (.cooler .airShort)

/-- A cooler period whole: readings, transition, outputs, previous P8, a flush-entry notice where
CM_NORMAL was left for CM_FLUSH, and the reports HELD, FLUSH, AIR_SHORT (R106, R115, R121). -/
def State.coolerPeriod (s : State) : State :=
  let r := s.coolerReadings
  let s1 := s.setCooler (s.clc.period s.pressuresRead r (s.timer s.clc.config.flushTime))
  let s2 := if s.clc.mode = .normal ∧ s.clc.nextMode r = .flush then s1.flushEntry else s1
  s2.heldReport.flushReport.airShortReport

def execCoolerPeriodExpiry (s : State) : Host.Outcome State Fault Refusal :=
  finish (s.whileRunning State.coolerPeriod)

/-- The flush timer's expiry, taken (R116). -/
def State.flushRunsOut (s : State) : State :=
  let s1 := s.setCooler { s.clc with
    flushTimer := none
    mode := if s.clc.mode = .flush then .normal else s.clc.mode }
  s1.flushEnd.flushReport

/-- R116. -/
def State.flushExpires (s : State) : State := if s.clc.flushTimer.isSome then s.flushRunsOut else s

def execFlushTimerExpiry (s : State) : Host.Outcome State Fault Refusal :=
  finish (s.whileRunning State.flushExpires)

/-! ### Manual running (R118, R119) -/

/-- CM_MANUAL entered: the outputs stand, the flags are cleared, AIR_SHORT and HELD go (R118; their order is
DEDUCED, log entry 16). -/
def State.enterManual (s : State) : State :=
  let k := s.clc
  let s1 := s.setCooler { k with
    mode := .manual
    manualGrate := k.grate
    compartments := k.compartments.map fun x => { x with manualSpeed := x.speed, airShort := false } }
  s1.airShortReport.heldReport

/-- The mode AUTOMATIC leaves CM_MANUAL for (R118). -/
def State.automaticMode (s : State) : CoolerMode :=
  if (s.point 6).quality.usable = true ∧ (s.point 6).value < Config.idleThreshold then .idle else .normal

/-- R118. -/
def ownerCoolerMode : Owner := fun _ f s =>
  match field f 0 1 with
  | 1 =>
    if s.clc.mode = .manual then noChange .coolerMode (u8 s.clc.mode.code) s
    else taken (u8 CoolerMode.manual.code) s.enterManual
  | 0 =>
    if s.clc.mode = .manual then taken (u8 s.automaticMode.code) (s.setCooler { s.clc with mode := s.automaticMode })
    else noChange .coolerMode (u8 s.clc.mode.code) s
  | _ => refuse .outOfRange s

def execCoolerMode (p : Port) (q : Byte) (f : List Byte) (s : State) : Host.Outcome State Fault Refusal :=
  finish (s.requestArrives .coolerMode ownerCoolerMode p q f)

/-- A manual speed as written: no lower than the min speed, no higher than 1000 (R119). -/
def CompartmentConfig.manualBound (c : CompartmentConfig) (speed : Nat) : Nat :=
  min Config.speedMax (max c.minSpeed speed)

/-- R119, a fan.  That a compartment outside 1 to 8 is OUT_OF_RANGE outside CM_MANUAL too is DEDUCED, unsafe
(log entry 34). -/
def ownerSetManualSpeed : Owner := fun _ f s =>
  withComp f s fun n x =>
    if s.clc.mode ≠ .manual ∨ x.config.control = .fixed then refuse .wrongState s
    else
      let v := x.config.manualBound (field f 1 2)
      takenClamped (v != field f 1 2) [] (s.setCompartment n { x with speed := v, manualSpeed := v })

def execSetManualSpeed (p : Port) (q : Byte) (f : List Byte) (s : State) : Host.Outcome State Fault Refusal :=
  finish (s.requestArrives .setManualSpeed ownerSetManualSpeed p q f)

/-- R119, the grate. -/
def ownerSetManualGrate : Owner := fun _ f s =>
  if s.clc.mode ≠ .manual then refuse .wrongState s
  else
    let v := s.clc.config.bound (field f 0 2)
    takenClamped (v != field f 0 2) [] (s.setCooler { s.clc with grate := v, manualGrate := v })

def execSetManualGrate (p : Port) (q : Byte) (f : List Byte) (s : State) : Host.Outcome State Fault Refusal :=
  finish (s.requestArrives .setManualGrate ownerSetManualGrate p q f)

/-! ### Reading (R122) -/

/-- A compartment record in the order of Table 6.3. -/
def compartmentBytes (k : Comp) (x : Compartment) : List Byte :=
  u8 (if isRecup k then 0 else 1) ++ compartmentConfigBytes x.config ++ u16 x.speed ++ u16 x.manualSpeed
    ++ flag x.airShort ++ i16 x.pressure ++ u8 x.pressureQuality.code

/-- The fields of a READ_COOLER answer (R122). -/
def State.coolerBytes (s : State) : List Byte :=
  let k := s.clc
  u8 k.mode.code ++ u16 k.config.specificAir ++ u16 k.config.grateMin ++ u16 k.config.grateMax
    ++ u16 k.grate ++ u16 k.manualGrate ++ u16 k.config.bedTarget ++ u16 k.config.grateGain
    ++ u16 k.config.flushStep ++ u16 k.config.flushTime ++ timerBytes s.moment k.flushTimer
    ++ opt i16 k.previousP8 ++ flag k.reportedFlush ++ flag k.reportedAirShort ++ flag k.reportedHeld
    ++ (List.finRange 8).flatMap (fun n => compartmentBytes n (k.compartments.get n))
    ++ u8 (creditState k.mode (s.point 4).quality).code

/-- R122. -/
def ownerReadCooler : Owner := fun _ _ s => taken s.coolerBytes s

def execReadCooler (p : Port) (q : Byte) (f : List Byte) (s : State) : Host.Outcome State Fault Refusal :=
  finish (s.requestArrives .readCooler ownerReadCooler p q f)

/-! ### Warm restart (R124) -/

/-- A compartment after a warm restart (R124).  A FIXED one publishes its fixed speed at once, though no period
has taken it since SET_COMPARTMENT_CONTROL: DEDUCED, unsafe (log entry 35). -/
def Compartment.warm (x : Compartment) : Compartment :=
  { x with speed := x.config.idleSpeed, manualSpeed := x.config.idleSpeed, airShort := false }

/-- The cooler after a warm restart (R124). -/
def Cooler.warm (k : Cooler) : Cooler :=
  { k with
    compartments := k.compartments.map Compartment.warm
    mode := .idle, grate := k.config.grateMin, manualGrate := k.config.grateMin
    flushTimer := none, previousP8 := none
    reportedFlush := false, reportedAirShort := false, reportedHeld := false }

end Sys2Proof.Machine
end

