-- ==== Sys2Proof/Machine/Channels.lean ====
section
/-! DEFINITION. Channel controller: configuration halves, start, stop, hold, trips, clearing, and the
supervision of the control link (chapter 3).
-/

namespace Sys2Proof.Machine

/-- A request that names a channel: another number is refused before any other check (R42). -/
def withChan (f : List Byte) (s : State) (rule : Chan → Reply) : Reply :=
  match chan? (field f 0 1) with
  | none => refuse .outOfRange s
  | some c => rule c

/-! ### Fuel, lot chlorine limit, share (R43, R44) -/

/-- The accepted-kind set that a byte names: not empty, and of kinds of Table 2.2 alone (R43). -/
def kindSet? (n : Nat) : Option (BitVec 7) := if 0 < n ∧ n < 128 then some (BitVec.ofNat 7 n) else none

/-- The last two checks of R43 hold: a channel whose location or class changes is in CH_OFF, and one whose
class changes has an empty queue. -/
def State.mayTakeFuel (c : Chan) (l : Location) (kinds : BitVec 7) (s : State) : Bool :=
  let r := s.chan c
  let classChanges := classOf kinds != r.fuelClass
  ((l == r.config.location && !classChanges) || r.state == .off)
    && (!classChanges || (s.lrg.queues.get c).isEmpty)

/-- A channel's configuration written. -/
def State.setChanConfig (c : Chan) (cf : ChannelConfig) (s : State) : State :=
  s.setChan c { s.chan c with config := cf }

/-- R43. -/
def ownerSetChannelFuel : Owner := fun _ f s =>
  withChan f s fun c =>
    if s.acu.isOpen = false then refuse .accessRequired s
    else match location? (field f 1 1), kindSet? (field f 2 1) with
      | some l, some kinds =>
        if oneClass kinds = false then refuse .kindMismatch s
        else if s.mayTakeFuel c l kinds = false then refuse .wrongState s
        else taken (u8 (classOf kinds).code)
          (s.setChanConfig c { (s.chan c).config with location := l, kinds := kinds }).startOpenTimer
      | _, _ => refuse .outOfRange s

def execSetChannelFuel (p : Port) (q : Byte) (f : List Byte) (s : State) : Host.Outcome State Fault Refusal :=
  finish (s.requestArrives .setChannelFuel ownerSetChannelFuel p q f)

/-- R44, the limit. -/
def ownerSetLotClLimit : Owner := fun _ f s =>
  withChan f s fun c =>
    if s.acu.isOpen = false then refuse .accessRequired s
    else if Config.clLimitMax < field f 1 2 then refuse .outOfRange s
    else taken []
      (s.setChanConfig c { (s.chan c).config with clLimit := field f 1 2 }).startOpenTimer

def execSetLotClLimit (p : Port) (q : Byte) (f : List Byte) (s : State) : Host.Outcome State Fault Refusal :=
  finish (s.requestArrives .setLotClLimit ownerSetLotClLimit p q f)

/-- R44, the share. -/
def ownerSetShare : Owner := fun _ f s =>
  withChan f s fun c =>
    takenClamped (decide (Config.shareMax < field f 1 2)) []
      (s.setChanConfig c { (s.chan c).config with share := min Config.shareMax (field f 1 2) })

def execSetShare (p : Port) (q : Byte) (f : List Byte) (s : State) : Host.Outcome State Fault Refusal :=
  finish (s.requestArrives .setShare ownerSetShare p q f)

/-! ### Configuration halves (R45, R46) -/

/-- A channel block that takes a new calibration at a pairing (R90). -/
def FeederBlock.recalibrated (k : Calibration) (b : FeederBlock) : FeederBlock :=
  { b with calibration := some k, trim := Config.trimNominal, expectedSum := 0, countedMass := 0 }

/-- The setpoint a pairing leaves, from the record with the new limits (R46).  `clZero` says that the
target is 0 because the chlorine stage set it so. -/
def pairedSetpoint (r : ChannelRecord) (l : FlowLimits) (clZero : Bool) (setpoint : Nat) : Nat :=
  match r.state with
  | .starting => l.minFlow
  | .running =>
    if r.fuelClass = .alt ∧ clZero = true then min setpoint l.maxFlow
    else max l.minFlow (min setpoint l.maxFlow)
  | .off | .holding | .stopping | .tripped => min setpoint l.maxFlow

/-- Pairing: both halves enter force, the feeder takes the calibration, target and setpoint follow the new
limits, and the setpoint is handed (R46, R90).  A stopping channel that a max flow of 0 brings to setpoint 0
stays in CH_STOPPING until `State.stopEnds` of the next period: DEDUCED, unsafe (log entry 32). -/
def State.pair (c : Chan) (l : FlowLimits) (k : Calibration) (s : State) : State :=
  let r := s.chan c
  let clZero := s.fsc.clZeroed.get c && s.fsc.target.get c == 0
  let s1 := s.setChan c { r with
    config := { r.config with halves := some { limits := l, calibration := k } }
    stagedLimits := none, stagedCalibration := none }
  let s2 := { s1 with fsc := { s1.fsc with target := s1.fsc.target.put c (min (s1.fsc.target.get c) l.maxFlow) } }
  (s2.setFeeder c ((s2.feeder c).recalibrated k)).drive c (pairedSetpoint r l clZero (s.setpoint c))

/-- A LIMITS half written: staged, or paired with a staged CALIBRATION half (Table 3.6). -/
def State.writeLimitsHalf (c : Chan) (l : FlowLimits) (s : State) : State :=
  match (s.chan c).stagedCalibration with
  | some k => s.pair c l k
  | none => s.setChan c { s.chan c with stagedLimits := some l }

/-- A CALIBRATION half written: staged, or paired with a staged LIMITS half (Table 3.6). -/
def State.writeCalibrationHalf (c : Chan) (k : Calibration) (s : State) : State :=
  match (s.chan c).stagedLimits with
  | some l => s.pair c l k
  | none => s.setChan c { s.chan c with stagedCalibration := some k }

/-- R45, the LIMITS half. -/
def ownerSetFlowLimits : Owner := fun _ f s =>
  withChan f s fun c =>
    let l : FlowLimits := { minFlow := field f 1 2, maxFlow := field f 3 2, ramp := field f 5 2 }
    if s.acu.isOpen = false then refuse .accessRequired s
    else if Config.flowMax < l.minFlow ∨ Config.flowMax < l.maxFlow ∨ l.ramp < Config.rampMin
        ∨ Config.rampMax < l.ramp then refuse .outOfRange s
    else if l.maxFlow < l.minFlow then refuse .limitOrder s
    else taken (u8 ((s.writeLimitsHalf c l).chan c).pairState.code) (s.writeLimitsHalf c l).startOpenTimer

def execSetFlowLimits (p : Port) (q : Byte) (f : List Byte) (s : State) : Host.Outcome State Fault Refusal :=
  finish (s.requestArrives .setFlowLimits ownerSetFlowLimits p q f)

/-- R45, the CALIBRATION half. -/
def ownerSetCalibration : Owner := fun _ f s =>
  withChan f s fun c =>
    let k : Calibration := { capacity := field f 1 4, pulseMass := field f 5 2 }
    if s.acu.isOpen = false then refuse .accessRequired s
    else if k.capacity < Config.capacityMin ∨ Config.capacityMax < k.capacity
        ∨ k.pulseMass < Config.pulseMassMin ∨ Config.pulseMassMax < k.pulseMass then refuse .outOfRange s
    else taken (u8 ((s.writeCalibrationHalf c k).chan c).pairState.code)
      (s.writeCalibrationHalf c k).startOpenTimer

def execSetCalibration (p : Port) (q : Byte) (f : List Byte) (s : State) : Host.Outcome State Fault Refusal :=
  finish (s.requestArrives .setCalibration ownerSetCalibration p q f)

/-! ### Start and stop (R47 to R50) -/

/-- The start refusal reason that holds first (Table 3.8). -/
def State.startRefusal (c : Chan) (s : State) : Option Nat :=
  if s.tripLine then some 1
  else if s.chc.supervision.link ≠ .live then some 2
  else if (s.chan c).state ≠ .off then some 3
  else if (s.chan c).holds.isEmpty = false then some 4
  else if (s.chan c).config.halves.isNone then some 5
  else if (s.lrg.head c).isNone then some 6
  else none

/-- A start taken (R47). -/
def State.startChannel (c : Chan) (s : State) : State :=
  ((s.setChan c { s.chan c with state := .starting, startTimer := some (s.timer Config.startHold) }).drive c
    (s.chan c).minFlow).offNotice c false

/-- R47. -/
def ownerStartChannel : Owner := fun _ f s =>
  withChan f s fun c =>
    match s.startRefusal c with
    | some reason => refuseWhy .wrongState reason s
    | none => taken [] (s.startChannel c)

def execStartChannel (p : Port) (q : Byte) (f : List Byte) (s : State) : Host.Outcome State Fault Refusal :=
  finish (s.requestArrives .startChannel ownerStartChannel p q f)

/-- A start timer's expiry (R48). -/
def State.startExpires (c : Chan) (s : State) : State :=
  if (s.chan c).state = .starting ∧ (s.chan c).startTimer.isSome then s.enterRunning c else s

def execStartTimerExpiry (c : Chan) (s : State) : Host.Outcome State Fault Refusal :=
  finish (s.whileRunning (State.startExpires c))

/-- A stop taken (R49). -/
def State.stopChannel (c : Chan) (s : State) : State :=
  match (s.chan c).fuelClass with
  | .alt => (s.drive c 0).enterOff c
  | .conv =>
    if s.setpoint c = 0 then s.enterOff c
    else s.setChan c { s.chan c with state := .stopping, startTimer := none }

/-- R49. -/
def ownerStopChannel : Owner := fun _ f s =>
  withChan f s fun c =>
    match (s.chan c).state with
    | .starting | .running | .holding =>
      taken (u8 ((s.stopChannel c).chan c).state.code) (s.stopChannel c)
    | .off | .stopping => noChange .stopChannel (u8 (s.chan c).state.code) s
    | .tripped => refuse .wrongState s

def execStopChannel (p : Port) (q : Byte) (f : List Byte) (s : State) : Host.Outcome State Fault Refusal :=
  finish (s.requestArrives .stopChannel ownerStopChannel p q f)

/-! ### Operator holds (R51) -/

/-- HC_OPERATOR written in a channel's set. -/
def State.setOperatorHold (c : Chan) (b : Bool) (s : State) : State :=
  s.setChan c { s.chan c with holds := { (s.chan c).holds with operator := b } }

/-- R51, the hold. -/
def ownerHoldChannel : Owner := fun _ f s =>
  withChan f s fun c =>
    if (s.chan c).holds.operator then noChange .holdChannel (u8 (s.chan c).state.code) s
    else taken (u8 (((s.setOperatorHold c true).freeze c).chan c).state.code)
      ((s.setOperatorHold c true).freeze c)

def execHoldChannel (p : Port) (q : Byte) (f : List Byte) (s : State) : Host.Outcome State Fault Refusal :=
  finish (s.requestArrives .holdChannel ownerHoldChannel p q f)

/-- R51, the release. -/
def ownerReleaseHold : Owner := fun _ f s =>
  withChan f s fun c =>
    if (s.chan c).holds.operator = false then noChange .releaseHold [] s
    else taken [] ((s.setOperatorHold c false).resume c)

def execReleaseHold (p : Port) (q : Byte) (f : List Byte) (s : State) : Host.Outcome State Fault Refusal :=
  finish (s.requestArrives .releaseHold ownerReleaseHold p q f)

/-! ### Trips (R54, R55) and clearing (R57) -/

/-- R55. -/
def ownerEmergencyStop : Owner := fun _ _ s => taken [] (s.tripEvery .emergencyStop)

def execEmergencyStop (p : Port) (q : Byte) (f : List Byte) (s : State) : Host.Outcome State Fault Refusal :=
  finish (s.requestArrives .emergencyStop ownerEmergencyStop p q f)

/-- An assertion of the trip input (R54); one that comes while the part is held or starting is taken at the
end of the start-up phase, where the line then still stands asserted (R196). -/
def execTripLineAssert (s : State) : Host.Outcome State Fault Refusal :=
  finish (State.whileRunning State.tripLineTaken { s with tripLine := true })

/-- A deassertion of the trip input: SYSTEM/TRIP_IN goes (R54). -/
def execTripLineDeassert (s : State) : Host.Outcome State Fault Refusal :=
  finish (State.whileRunning (State.goes (.system .tripIn)) { s with tripLine := false })

/-- The clear refusal reason that holds first (Table 3.9). -/
def State.clearRefusal (c : Chan) (s : State) : Option Nat :=
  if (s.chan c).state ≠ .tripped then some 1
  else if s.tripLine then some 2
  else match (s.chan c).tripCause.bind (TripCause.identity c) with
    | none => none
    | some i =>
      if s.alt.isPresent i then some 3
      else if (s.alt.slotOf i).isSome then some 4
      else none

/-- R57. -/
def ownerClearTrip : Owner := fun _ f s =>
  withChan f s fun c =>
    match s.clearRefusal c with
    | some reason => refuseWhy .wrongState reason s
    | none => taken [] (s.enterOff c)

def execClearTrip (p : Port) (q : Byte) (f : List Byte) (s : State) : Host.Outcome State Fault Refusal :=
  finish (s.requestArrives .clearTrip ownerClearTrip p q f)

/-! ### Control-link supervision (R58 to R60) -/

/-- R58. -/
def ownerSetLinkTimes : Owner := fun _ f s =>
  if field f 0 2 < Config.supervisionTimeMin ∨ Config.supervisionTimeMax < field f 0 2
      ∨ Config.holdTimeMax < field f 2 2 then refuse .outOfRange s
  else taken [] (s.setSupervision { s.chc.supervision with
    supervisionTime := field f 0 2, holdTime := field f 2 2 })

def execSetLinkTimes (p : Port) (q : Byte) (f : List Byte) (s : State) : Host.Outcome State Fault Refusal :=
  finish (s.requestArrives .setLinkTimes ownerSetLinkTimes p q f)

/-- An alternative-fuel channel held for the loss falls to its min flow at once (R60). -/
def State.fallBack (c : Chan) (s : State) : State :=
  let r := s.chan c
  if r.state = .holding ∧ r.holds.controlLost ∧ r.fuelClass = .alt ∧ r.minFlow < s.setpoint c then
    s.drive c r.minFlow
  else s

/-- The hold timer's expiry, taken (R60). -/
def State.holdRunsOut (s : State) : State :=
  allChans.foldl (fun s c => s.fallBack c)
    (s.setSupervision { s.chc.supervision with link := .lostFallback, holdTimer := none })

/-- The supervision timer's expiry, taken (R59).  That the timer then stands stopped, and reads as absent, until
the loss ends is DEDUCED, unsafe: Table 3.10 knows no stopped supervision timer (log entry 37). -/
def State.linkLost (s : State) : State :=
  let v := s.chc.supervision
  let s1 := ((s.setSupervision { v with link := .lostHold, supervisionTimer := none }).comesFixed
    (.system .controlLost)).closeAccess
  let s2 := allChans.foldl (fun s c => s.holdForLoss c) s1
  if v.holdTime = 0 then s2.holdRunsOut
  else s2.setSupervision { s2.chc.supervision with holdTimer := some (s.timer v.holdTime) }

/-- R59. -/
def State.supervisionExpires (s : State) : State :=
  if s.chc.supervision.link = .live ∧ s.chc.supervision.supervisionTimer.isSome then s.linkLost else s

def execSupervisionExpiry (s : State) : Host.Outcome State Fault Refusal :=
  finish (s.whileRunning State.supervisionExpires)

/-- R60. -/
def State.holdExpires (s : State) : State :=
  if s.chc.supervision.link = .lostHold ∧ s.chc.supervision.holdTimer.isSome then s.holdRunsOut else s

def execHoldTimerExpiry (s : State) : Host.Outcome State Fault Refusal :=
  finish (s.whileRunning State.holdExpires)

/-! ### Reading (R63) -/

/-- A hold-cause set: bit n for the cause of value n (Table 10.3). -/
def HoldCauses.code (h : HoldCauses) : Nat :=
  (if h.controlLost then 1 else 0) + (if h.operator then 2 else 0) + (if h.alarm then 4 else 0)

/-- A trip cause: its value, then its identity as an optional field, present with TC_ALARM alone (Table 3.5).
That the identity has its presence byte is DEDUCED, unsafe (log entry 6). -/
def tripCauseBytes : TripCause → List Byte
  | .alarm i => u8 2 ++ opt Identity.bytes (some i)
  | t => u8 t.code ++ opt Identity.bytes none

/-- The fields of a READ_CHANNEL answer: Table 3.5, setpoint and target, Table 3.10 (R63). -/
def State.channelBytes (c : Chan) (s : State) : List Byte :=
  let r := s.chan c
  let v := s.chc.supervision
  u8 r.config.location.code ++ u8 r.config.kinds.toNat ++ u8 r.fuelClass.code ++ u16 r.config.clLimit
    ++ u16 r.config.share ++ opt flowLimitsBytes (r.config.halves.map (·.limits))
    ++ opt calibrationBytes (r.config.halves.map (·.calibration)) ++ opt flowLimitsBytes r.stagedLimits
    ++ opt calibrationBytes r.stagedCalibration ++ u8 r.pairState.code ++ u8 r.state.code ++ u8 r.holds.code
    ++ listOf Identity.bytes r.alarmHolds ++ opt tripCauseBytes r.tripCause ++ timerBytes s.moment r.startTimer
    ++ u48 r.fed ++ u48 r.debited ++ u48 r.unassigned
    ++ u16 (s.setpoint c) ++ u16 (s.fsc.target.get c)
    ++ u8 v.link.code ++ timerBytes s.moment v.supervisionTimer ++ timerBytes s.moment v.holdTimer
    ++ u16 v.supervisionTime ++ u16 v.holdTime

/-- R63. -/
def ownerReadChannel : Owner := fun _ f s => withChan f s fun c => taken (s.channelBytes c) s

def execReadChannel (p : Port) (q : Byte) (f : List Byte) (s : State) : Host.Outcome State Fault Refusal :=
  finish (s.requestArrives .readChannel ownerReadChannel p q f)

/-! ### Warm restart (R65) -/

/-- A channel record after a warm restart (R65). -/
def ChannelRecord.warm (r : ChannelRecord) : ChannelRecord :=
  { r with state := .off, tripCause := none, startTimer := none, holds := .empty, alarmHolds := [] }

/-- The channel controller after a warm restart, its supervision timer restarted (R65). -/
def ChannelController.warm (supervision : Timer) (k : ChannelController) : ChannelController :=
  { channels := k.channels.map ChannelRecord.warm
    supervision := { k.supervision with
      link := .live, supervisionTimer := some supervision, holdTimer := none } }

end Sys2Proof.Machine
end

