-- ==== Sys2Proof/Machine/Feeders.lean ====
section
/-! DEFINITION. Feeder interface: output windows, pulses, stall detection, trim, reading (chapter 5).
-/

namespace Sys2Proof.Machine

/-! ### Output windows (R88, R96) -/

/-- A window boundary: the pending rate is applied, and the stall window starts or stops where the applied
rate crosses 500 Hz (R88, R96).  A window that expired untripped (R97) stays stopped at a boundary that moves
the rate from one value of 500 Hz or more to another: DEDUCED, unsafe (log entry 33). -/
def FeederBlock.boundary (start : Timer) (b : FeederBlock) : FeederBlock :=
  { b with
    appliedRate := b.pendingRate
    stallWindow :=
      if b.pendingRate < Config.stallRate then none
      else if b.appliedRate < Config.stallRate then some start
      else b.stallWindow }

/-- R88. -/
def State.windowBoundary (c : Chan) (s : State) : State :=
  s.setFeeder c ((s.feeder c).boundary (s.timer (s.feeder c).stallTime))

def execOutputWindowBoundary (c : Chan) (s : State) : Host.Outcome State Fault Refusal :=
  finish (s.whileRunning (State.windowBoundary c))

/-! ### Pulses (R91 to R96) -/

/-- The counts of a pulse taken, and the stall window restarted where it runs (R91, R94, R96). -/
def FeederBlock.pulsed (restart : Timer) (b : FeederBlock) : FeederBlock :=
  { b with
    pulses := (b.pulses + 1) % Config.pulseModulus
    uncalibratedPulses := if b.calibration.isNone then (b.uncalibratedPulses + 1) % Config.pulseModulus
                          else b.uncalibratedPulses
    stallWindow := b.stallWindow.map fun _ => restart }

/-- `k` whole kilograms: fed kg and the counted mass rise, the debit is handed to the registry, and its
parts step the counters and reach the shift tally unit in list order (R91 to R93). -/
def State.feed (c : Chan) (k : Nat) (s : State) : State :=
  let cls := (s.chan c).fuelClass
  let s1 := s.setChan c { s.chan c with fed := (s.chan c).fed + k }
  let s2 := s1.setFeeder c { s1.feeder c with countedMass := (s1.feeder c).countedMass + k }
  let d := s2.debit c k
  d.1.foldl (fun s p => s.takePart c cls p) d.2

/-- The mass of a pulse added to the residue, and the whole kilograms fed (R91). -/
def State.weigh (c : Chan) (pulseMass : Nat) (s : State) : State :=
  let g := (s.feeder c).residue + pulseMass
  let s1 := s.setFeeder c { s.feeder c with residue := g % 1000 }
  if g / 1000 = 0 then s1 else s1.feed c (g / 1000)

/-- A pulse taken whole (R91, R94). -/
def State.pulse (c : Chan) (s : State) : State :=
  let s1 := s.setFeeder c ((s.feeder c).pulsed (s.timer (s.feeder c).stallTime))
  match (s.feeder c).calibration with
  | none => s1
  | some k => s1.weigh c k.pulseMass

def execFeederPulse (c : Chan) (s : State) : Host.Outcome State Fault Refusal :=
  finish (s.whileRunning (State.pulse c))

/-! ### Stall detection (R97, R98) -/

/-- The expiry of a running stall window (R97). -/
def State.stalls (c : Chan) (s : State) : State :=
  let s1 := s.setFeeder c { s.feeder c with stallWindow := none }
  if (s.chan c).state.active then
    ((s1.trip c .stall).comesFixed (.channel c .stall)).goes (.channel c .stall)
  else s1

/-- R97. -/
def State.stallExpires (c : Chan) (s : State) : State :=
  if (s.feeder c).stallWindow.isSome then s.stalls c else s

def execStallWindowExpiry (c : Chan) (s : State) : Host.Outcome State Fault Refusal :=
  finish (s.whileRunning (State.stallExpires c))

/-- R98. -/
def ownerSetStallTime : Owner := fun _ f s =>
  withChan f s fun c =>
    if field f 1 2 < Config.stallTimeMin ∨ Config.stallTimeMax < field f 1 2 then refuse .outOfRange s
    else taken [] (s.setFeeder c { s.feeder c with stallTime := field f 1 2 })

def execSetStallTime (p : Port) (q : Byte) (f : List Byte) (s : State) : Host.Outcome State Fault Refusal :=
  finish (s.requestArrives .setStallTime ownerSetStallTime p q f)

/-! ### Trim (R100) -/

/-- A figure moved toward an aim by no more than a step. -/
def moveToward (step now aim : Nat) : Nat :=
  if aim < now then max aim (now - step) else min aim (now + step)

/-- The trim an interval's end leaves (R100). -/
def adaptedTrim (trim expected counted : Nat) : Nat :=
  if Config.trimMinMass ≤ expected ∧ 0 < counted then
    max Config.trimMin
      (min Config.trimMax (moveToward Config.trimStepMax trim (trim * expected / counted)))
  else trim

/-- The end of a trim interval (R99, R100). -/
def FeederBlock.intervalEnds (b : FeederBlock) : FeederBlock :=
  { b with trim := adaptedTrim b.trim (b.expectedSum / 3600) b.countedMass, expectedSum := 0, countedMass := 0 }

/-- R100. -/
def State.trimInterval (c : Chan) (s : State) : State := s.setFeeder c (s.feeder c).intervalEnds

def execTrimIntervalExpiry (c : Chan) (s : State) : Host.Outcome State Fault Refusal :=
  finish (s.whileRunning (State.trimInterval c))

/-! ### Reading (R101) -/

/-- The fields of a READ_FEEDER answer (R101). -/
def State.feederBytes (c : Chan) (s : State) : List Byte :=
  let b := s.feeder c
  let r := s.chan c
  opt calibrationBytes b.calibration ++ u16 b.pendingRate ++ u16 b.appliedRate ++ u16 b.trim ++ u16 b.residue
    ++ u32 b.pulses ++ u32 b.uncalibratedPulses ++ u16 b.stallTime ++ flag b.stallWindow.isSome
    ++ u32 b.expectedSum ++ u32 b.countedMass ++ u48 r.fed ++ u48 r.debited ++ u48 r.unassigned

/-- R101. -/
def ownerReadFeeder : Owner := fun _ f s => withChan f s fun c => taken (s.feederBytes c) s

def execReadFeeder (p : Port) (q : Byte) (f : List Byte) (s : State) : Host.Outcome State Fault Refusal :=
  finish (s.requestArrives .readFeeder ownerReadFeeder p q f)

end Sys2Proof.Machine
end

