-- ==== Sys2Proof/Machine/Lots.lean ====
section
/-! DEFINITION. Lot registry: the life of a lot, its bin queue, and the lookups (chapter 2).
-/

namespace Sys2Proof.Machine

/-! ### Lot references (R19) -/

/-- The slot a handle names, or the refusal (R19). -/
def LotRegistry.byHandle (g : LotRegistry) (slot generation : Nat) : Except Status LotNo :=
  if h : slot < 32 then
    if generation = 0 ∨ generation ≠ (g.lots.get ⟨slot, h⟩).generation ∨ (g.lot ⟨slot, h⟩).isNone then
      .error .staleHandle
    else .ok ⟨slot, h⟩
  else .error .outOfRange

/-- The slot a tag names, or the refusal (R19). -/
def LotRegistry.byTag (g : LotRegistry) (tag : Nat) : Except Status LotNo :=
  if tag = 0 then .error .outOfRange
  else match g.findTag tag with
    | some i => .ok i
    | none => .error .notFound

/-- The slot that the lot reference at the front of the fields names, or the refusal (R19, Table 10.3).
What padding bytes other than 0 do is open (log entry 8). -/
def LotRegistry.byReference (g : LotRegistry) (f : List Byte) : Except Status LotNo :=
  match field f 0 1 with
  | 0 =>
    if field f 3 2 ≠ 0 ∧ Config.refusesPadding then .error .outOfRange
    else g.byHandle (field f 1 1) (field f 2 1)
  | 1 => g.byTag (field f 1 4)
  | _ => .error .outOfRange

/-- A request that names a lot: the reference is resolved before any other check (R19). -/
def withLot (f : List Byte) (s : State) (rule : LotNo → LotRecord → Reply) : Reply :=
  match s.lrg.byReference f with
  | .error st => refuse st s
  | .ok i =>
    match s.lrg.lot i with
    | some r => rule i r
    | none => refuse .staleHandle s

/-- A lot's current handle. -/
def LotRegistry.handle (g : LotRegistry) (i : LotNo) : List Byte :=
  handleBytes i.val (g.lots.get i).generation

/-- A lot's state as carried in a frame; LOT_FREE is 0 (Table 2.3). -/
def LotRegistry.stateCode (g : LotRegistry) (i : LotNo) : Nat :=
  match g.lot i with
  | none => 0
  | some r => r.state.code

/-- The lot's handle and its state after the request. -/
def State.lotAnswer (i : LotNo) (s : State) : List Byte := s.lrg.handle i ++ u8 (s.lrg.stateCode i)

/-! ### Registration (R22) -/

/-- The record of a newly registered lot (R18, R22). -/
def LotRecord.new (tag : Nat) (k : FuelKind) (mass : Nat) : LotRecord :=
  { tag := tag, kind := k, registered := mass, remaining := mass, analysis := none
    state := .registered, debited := 0 }

/-- A free slot occupied: its generation steps (R19, R22). -/
def LotRegistry.occupy (i : LotNo) (r : LotRecord) (g : LotRegistry) : LotRegistry :=
  { g with
    lots := g.lots.modify i fun x => { generation := nextGeneration x.generation, record := some r } }

/-- A lot registered in a slot. -/
def State.register (i : LotNo) (r : LotRecord) (s : State) : State := { s with lrg := s.lrg.occupy i r }

/-- R22. -/
def ownerRegisterLot : Owner := fun _ f s =>
  let tag := field f 0 4
  let mass := field f 5 4
  match kind? (field f 4 1) with
  | none => refuse .outOfRange s
  | some k =>
    if tag = 0 ∨ mass = 0 ∨ Config.lotMassMax < mass then refuse .outOfRange s
    else if (s.lrg.findTag tag).isSome then refuse .duplicate s
    else match s.lrg.freeSlot with
      | none => refuse .full s
      | some i =>
        taken ((s.register i (.new tag k mass)).lrg.handle i) (s.register i (.new tag k mass))

def execRegisterLot (p : Port) (q : Byte) (f : List Byte) (s : State) : Host.Outcome State Fault Refusal :=
  finish (s.requestArrives .registerLot ownerRegisterLot p q f)

/-! ### Analysis (R21, R23 to R25) -/

/-- The as-received NCV, each term rounded down on its own (R21). -/
def asReceived (ncvDry moisture : Nat) : Nat :=
  ncvDry * (1000 - moisture) / 1000 - Config.latentAllowance * moisture / 1000

/-- The analysis four quantities give, where each is in its range and the as-received NCV is at least
5,000 kJ/kg (R21). -/
def analysisOf (ncvDry moisture chlorine sulfur : Nat) : Option Analysis :=
  if Config.ncvDryMin ≤ ncvDry ∧ ncvDry ≤ Config.ncvDryMax ∧ moisture ≤ Config.moistureMax
      ∧ chlorine ≤ Config.chlorineMax ∧ sulfur ≤ Config.sulfurMax
      ∧ Config.ncvArMin ≤ asReceived ncvDry moisture then
    some { ncvDry := ncvDry, moisture := moisture, chlorine := chlorine, sulfur := sulfur
           ncvAr := asReceived ncvDry moisture }
  else none

/-- A lot record with an analysis written: LOT_REGISTERED goes to LOT_ANALYSED (R23, R24). -/
def LotRecord.analysed (a : Analysis) (r : LotRecord) : LotRecord :=
  { r with analysis := some a, state := if r.state = .registered then .analysed else r.state }

/-- An analysis taken: a queued or drawing lot above its channel's lot chlorine limit is quarantined
within it (R24, R25). -/
def State.analyse (i : LotNo) (r : LotRecord) (a : Analysis) (s : State) : State :=
  let s1 := s.setLot i (r.analysed a)
  match s.lrg.position i with
  | none => s1
  | some (c, _) => if (s.chan c).config.clLimit < a.chlorine then s1.quarantine i else s1

/-- R23. -/
def ownerSetAnalysis : Owner := fun _ f s =>
  withLot f s fun i r =>
    match r.state with
    | .exhausted | .quarantined => refuse .wrongState s
    | .registered | .analysed | .queued | .drawing =>
      match analysisOf (field f 5 2) (field f 7 2) (field f 9 2) (field f 11 2) with
      | none => refuse .outOfRange s
      | some a =>
        taken ((s.analyse i r a).lrg.handle i ++ u16 a.ncvAr ++ u8 ((s.analyse i r a).lrg.stateCode i))
          (s.analyse i r a)

def execSetAnalysis (p : Port) (q : Byte) (f : List Byte) (s : State) : Host.Outcome State Fault Refusal :=
  finish (s.requestArrives .setAnalysis ownerSetAnalysis p q f)

/-! ### Mass, quarantine, retirement (R26 to R28) -/

/-- A remaining mass written, with what follows for a drawing lot (R26). -/
def State.amend (i : LotNo) (r : LotRecord) (mass : Nat) (s : State) : State :=
  let s1 := s.setLot i { r with remaining := mass }
  match r.state, s.lrg.position i with
  | .drawing, some (c, _) =>
    if 0 < mass then s1.setOverdrawn c false
    else if 1 < (s.lrg.queues.get c).length then s1.succession c .exhausted
    else s1
  | _, _ => s1

/-- R26. -/
def ownerAmendMass : Owner := fun _ f s =>
  withLot f s fun i r =>
    if r.state = .exhausted then refuse .wrongState s
    else if Config.lotMassMax < field f 5 4 then refuse .outOfRange s
    else taken ((s.amend i r (field f 5 4)).lotAnswer i) (s.amend i r (field f 5 4))

def execAmendMass (p : Port) (q : Byte) (f : List Byte) (s : State) : Host.Outcome State Fault Refusal :=
  finish (s.requestArrives .amendMass ownerAmendMass p q f)

/-- R27. -/
def ownerQuarantineLot : Owner := fun _ f s =>
  withLot f s fun i r =>
    match r.state with
    | .registered | .exhausted => refuse .wrongState s
    | .quarantined => noChange .quarantineLot (s.lotAnswer i) s
    | .analysed | .queued | .drawing => taken ((s.quarantine i).lotAnswer i) (s.quarantine i)

def execQuarantineLot (p : Port) (q : Byte) (f : List Byte) (s : State) : Host.Outcome State Fault Refusal :=
  finish (s.requestArrives .quarantineLot ownerQuarantineLot p q f)

/-- A lot's slot freed, its generation kept (R18, R28). -/
def State.freeLot (i : LotNo) (s : State) : State :=
  { s with lrg := { s.lrg with lots := s.lrg.lots.modify i fun x => { x with record := none } } }

/-- R28. -/
def ownerRetireLot : Owner := fun _ f s =>
  withLot f s fun i r =>
    match r.state with
    | .queued | .drawing => refuse .wrongState s
    | .registered | .analysed | .exhausted | .quarantined => taken [] (s.freeLot i)

def execRetireLot (p : Port) (q : Byte) (f : List Byte) (s : State) : Host.Outcome State Fault Refusal :=
  finish (s.requestArrives .retireLot ownerRetireLot p q f)

/-! ### Bin queues (R31, R32) -/

/-- A lot becomes the only lot and the head of a queue. -/
def State.newHead (c : Chan) (i : LotNo) (s : State) : State :=
  ((s.setLotState i .drawing).setQueue c [i]).evaluateOverdrawn c

/-- A lot joins a queue at its tail; a lone head at 0 is exhausted by it (R31). -/
def State.enqueue (c : Chan) (i : LotNo) (s : State) : State :=
  match s.lrg.queues.get c with
  | [] => s.newHead c i
  | [h] =>
    if (s.lrg.lot h).any (fun r => r.remaining == 0) then (s.setLotState h .exhausted).newHead c i
    else (s.setLotState i .queued).setQueue c [h, i]
  | h :: rest => (s.setLotState i .queued).setQueue c (h :: rest ++ [i])

/-- The lot's place in its queue; 0 where it stands in none. -/
def LotRegistry.place (g : LotRegistry) (i : LotNo) : Nat :=
  match g.position i with
  | none => 0
  | some (_, n) => n

/-- R31. -/
def ownerEnqueueLot : Owner := fun _ f s =>
  withLot f s fun i r =>
    match chan? (field f 5 1) with
    | none => refuse .outOfRange s
    | some c =>
      match r.state, r.analysis with
      | .analysed, some a =>
        if hasKind (s.chan c).config.kinds r.kind = false then refuse .kindMismatch s
        else if (s.chan c).config.clLimit < a.chlorine then refuse .limitExceeded s
        else if Config.queueDepth ≤ (s.lrg.queues.get c).length then refuse .full s
        else taken ((s.enqueue c i).lotAnswer i ++ u16 ((s.enqueue c i).lrg.place i)) (s.enqueue c i)
      | _, _ => refuse .wrongState s

def execEnqueueLot (p : Port) (q : Byte) (f : List Byte) (s : State) : Host.Outcome State Fault Refusal :=
  finish (s.requestArrives .enqueueLot ownerEnqueueLot p q f)

/-- R32. -/
def ownerDequeueLot : Owner := fun _ f s =>
  withLot f s fun i r =>
    match r.state, s.lrg.position i with
    | .queued, some (c, _) =>
      taken ((s.leaveQueue c i .analysed).lotAnswer i) (s.leaveQueue c i .analysed)
    | .drawing, some (c, _) =>
      if (s.chan c).state.active then refuse .wrongState s
      else taken ((s.succession c .analysed).lotAnswer i) (s.succession c .analysed)
    | _, _ => refuse .wrongState s

def execDequeueLot (p : Port) (q : Byte) (f : List Byte) (s : State) : Host.Outcome State Fault Refusal :=
  finish (s.requestArrives .dequeueLot ownerDequeueLot p q f)

/-! ### Lookups (R38, R39) -/

def analysisBytes (a : Analysis) : List Byte :=
  u16 a.ncvDry ++ u16 a.moisture ++ u16 a.chlorine ++ u16 a.sulfur

/-- A lot's handle and whole record, in the order R38 names them. -/
def LotRegistry.lotBytes (g : LotRegistry) (i : LotNo) (r : LotRecord) : List Byte :=
  g.handle i ++ u32 r.tag ++ u8 r.kind.code ++ u8 r.kind.fuelClass.code ++ u32 r.registered
    ++ u32 r.remaining ++ opt analysisBytes r.analysis ++ opt (fun a => u16 a.ncvAr) r.analysis
    ++ u8 r.state.code ++ opt (fun x => chanByte x.1 ++ u16 x.2) (g.position i) ++ u32 r.debited

/-- R38, by reference. -/
def ownerReadLot : Owner := fun _ f s => withLot f s fun i r => taken (s.lrg.lotBytes i r) s

def execReadLot (p : Port) (q : Byte) (f : List Byte) (s : State) : Host.Outcome State Fault Refusal :=
  finish (s.requestArrives .readLot ownerReadLot p q f)

/-- R38, by tag. -/
def ownerFindLot : Owner := fun _ f s =>
  match s.lrg.byTag (field f 0 4) with
  | .error st => refuse st s
  | .ok i =>
    match s.lrg.lot i with
    | some r => taken (s.lrg.lotBytes i r) s
    | none => refuse .notFound s

def execFindLot (p : Port) (q : Byte) (f : List Byte) (s : State) : Host.Outcome State Fault Refusal :=
  finish (s.requestArrives .findLot ownerFindLot p q f)

/-- One entry of a READ_QUEUE answer (R39). -/
def LotRegistry.queueEntry (g : LotRegistry) (i : LotNo) (place : Nat) : List Byte :=
  match g.lot i with
  | none => []
  | some r =>
    u16 place ++ g.handle i ++ u32 r.tag ++ u8 r.kind.code ++ u8 r.state.code ++ u32 r.remaining

/-- The fields of a READ_QUEUE answer (R39). -/
def LotRegistry.queueBytes (g : LotRegistry) (c : Chan) : List Byte :=
  flag (g.overdrawn.get c)
    ++ listOf (fun x => g.queueEntry x.1 x.2) ((g.queues.get c).zipIdx 1)

/-- R39. -/
def ownerReadQueue : Owner := fun _ f s =>
  match chan? (field f 0 1) with
  | none => refuse .outOfRange s
  | some c => taken (s.lrg.queueBytes c) s

def execReadQueue (p : Port) (q : Byte) (f : List Byte) (s : State) : Host.Outcome State Fault Refusal :=
  finish (s.requestArrives .readQueue ownerReadQueue p q f)

/-! ### Warm restart (R41) -/

/-- An overdrawn notice marked set for each channel whose mark is set, C1 to C6 (R41, R62). -/
def State.resendOverdrawn (s : State) : State :=
  allChans.foldl (fun s c =>
    if s.lrg.overdrawn.get c then s.comesFixed (.channel c .overdrawn) else s) s

end Sys2Proof.Machine
end

