-- ==== Sys2Proof/Machine/Points.lean ====
section
/-! DEFINITION. Point table: updates, ageing, limit sets, configuration, reading (chapter 1).
-/

namespace Sys2Proof.Machine

/-! ### Point updates (R3, R4) -/

/-- One entry of a POINT_UPDATE. -/
structure PointEntry where
  point   : PointNo
  value   : Int
  quality : Quality
deriving DecidableEq, Repr

/-- The entry in four bytes of the fields, where its point and quality are ones R3 admits. -/
def pointEntry (f : List Byte) (at_ : Nat) : Option PointEntry :=
  match point? (field f at_ 1), givenQuality? (field f (at_ + 3) 1) with
  | some p, some q => some { point := p, value := signed16 (field f (at_ + 1) 2), quality := q }
  | _, _ => none

/-- The `n` entries from a place of the fields on; none where one of them is not admitted. -/
def pointEntries (f : List Byte) : Nat → Nat → Option (List PointEntry)
  | 0, _ => some []
  | n + 1, at_ =>
    match pointEntry f at_, pointEntries f n (at_ + 4) with
    | some e, some es => some (e :: es)
    | _, _ => none

/-- The entries of a POINT_UPDATE that passes the check of R3. -/
def updateEntries (f : List Byte) : Option (List PointEntry) :=
  let n := field f 0 1
  if 1 ≤ n ∧ n ≤ Config.updateEntriesMax ∧ f.length = 1 + 4 * n then pointEntries f n 1 else none

/-- Whether an entry's value lies outside its point's range. -/
def PointEntry.clamped (e : PointEntry) : Bool := clampToRange e.point e.value != e.value

/-- The quality stored: a clamped good value is uncertain (R4). -/
def PointEntry.stored (e : PointEntry) : Quality :=
  if e.clamped = true ∧ e.quality = .good then .uncertain else e.quality

/-- A point record with an update entry taken: value, quality, age and band (R4, R8). -/
def PointRecord.updated (e : PointEntry) (r : PointRecord) : PointRecord :=
  { r with
    value := clampToRange e.point e.value
    quality := e.stored
    age := 0
    band := if e.stored.usable
            then evaluateBand r.config.limits r.band (clampToRange e.point e.value) else r.band }

/-- An update entry taken whole, with its reports (R4). -/
def State.takeEntry (e : PointEntry) (s : State) : State :=
  (s.setPoint e.point ((s.point e.point).updated e)).reconcile e.point

/-- R3. -/
def ownerPointUpdate : Owner := fun _ f s =>
  match updateEntries f with
  | none => refuse .outOfRange s
  | some es => takenClamped (es.any (·.clamped)) [] (es.foldl (fun s e => s.takeEntry e) s)

def execPointUpdate (p : Port) (q : Byte) (f : List Byte) (s : State) : Host.Outcome State Fault Refusal :=
  finish (s.requestArrives .pointUpdate ownerPointUpdate p q f)

/-! ### Ageing (R5) -/

/-- A point's age after one expiry. -/
def PointRecord.aged (r : PointRecord) : PointRecord := { r with age := satInc Config.ageMax r.age }

/-- Whether an aged point turns stale (R5). -/
def PointRecord.turnsStale (r : PointRecord) : Bool :=
  r.config.staleLimit != 0 && r.config.staleLimit ≤ r.age && r.quality.usable

/-- A point that turns stale does so, and is reconciled (R5). -/
def State.staleCheck (p : PointNo) (s : State) : State :=
  if (s.point p).turnsStale then (s.setPoint p { s.point p with quality := .stale }).reconcile p else s

/-- Every point's age stepped. -/
def PointTable.aged (t : PointTable) : PointTable := { t with points := t.points.map PointRecord.aged }

/-- Every age stepped, then every point that turns stale reconciled (R5).  That several such points are taken
in ascending number is a DESIGN CHOICE, unsafe (log entry 31). -/
def State.age (s : State) : State :=
  (List.finRange 48).foldl (fun s p => s.staleCheck p) { s with ptb := s.ptb.aged }

def execAgeingExpiry (s : State) : Host.Outcome State Fault Refusal := finish (s.whileRunning State.age)

/-! ### Limit sets (R6) -/

/-- The limit set of a SET_LIMITS: four limits, each with a presence byte, and the deadband. -/
def limitSetOf (f : List Byte) : LimitSet :=
  let a := takeOpt 2 (f.drop 1)
  let b := takeOpt 2 a.2
  let c := takeOpt 2 b.2
  let d := takeOpt 2 c.2
  { critLow := a.1.map signed16, low := b.1.map signed16, high := c.1.map signed16
    critHigh := d.1.map signed16, deadband := field d.2 0 2 }

/-- The present limits in their order. -/
def LimitSet.present (l : LimitSet) : List Int :=
  l.critLow.toList ++ l.low.toList ++ l.high.toList ++ l.critHigh.toList

/-- Each present limit lies within the point's range, and the deadband is 0 to 1000 (R6). -/
def LimitSet.inRange (p : PointNo) (l : LimitSet) : Bool :=
  l.present.all (fun v => clampToRange p v == v) && l.deadband ≤ Config.deadbandMax

/-- Strictly increasing. -/
def rising : List Int → Bool
  | [] => true
  | [_] => true
  | a :: b :: rest => a < b && rising (b :: rest)

/-- A point record with a new limit set, its band evaluated where the quality is usable (R6, R8). -/
def PointRecord.withLimits (l : LimitSet) (r : PointRecord) : PointRecord :=
  { r with
    config := { r.config with limits := l }
    band := if r.quality.usable then evaluateBand l r.band r.value else r.band }

/-- The limits written, the point reconciled, and the taken notice where the point is protected (R6). -/
def State.writeLimits (p : PointNo) (l : LimitSet) (s : State) : State :=
  let s1 := (s.setPoint p ((s.point p).withLimits l)).reconcile p
  if (s.point p).config.protect then s1.startOpenTimer else s1

/-- R6. -/
def ownerSetLimits : Owner := fun _ f s =>
  match point? (field f 0 1) with
  | none => refuse .outOfRange s
  | some p =>
    let l := limitSetOf f
    if (s.point p).config.protect ∧ s.acu.isOpen = false then refuse .accessRequired s
    else if l.inRange p = false then refuse .outOfRange s
    else if rising l.present = false then refuse .limitOrder s
    else taken (u8 ((s.point p).withLimits l).band.code) (s.writeLimits p l)

def execSetLimits (p : Port) (q : Byte) (f : List Byte) (s : State) : Host.Outcome State Fault Refusal :=
  finish (s.requestArrives .setLimits ownerSetLimits p q f)

/-! ### Point configuration and protect marks (R12, R13) -/

/-- The configuration a SET_POINT_CONFIG gives a point, where every field is in its range (R12; an enable
byte above 1 is outside it: DEDUCED, log entry 20). -/
def pointConfigOf (f : List Byte) (c : PointConfig) : Option PointConfig :=
  let channel := takeOpt 1 (f.drop 8)
  match priority? (field f 3 1), priority? (field f 4 1), priority? (field f 5 1), priority? (field f 6 1) with
  | some lo, some loCrit, some hi, some hiCrit =>
    if field f 1 2 ≤ Config.staleLimitMax ∧ field f 7 1 ≤ 1 ∧ channel.1.all (fun n => (chan? n).isSome) then
      some { c with
        staleLimit := field f 1 2, loPriority := lo, loCritPriority := loCrit, hiPriority := hi
        hiCritPriority := hiCrit, qualityAlarm := field f 7 1 == 1, associated := channel.1.bind chan? }
    else none
  | _, _, _, _ => none

/-- R12. -/
def ownerSetPointConfig : Owner := fun _ f s =>
  match point? (field f 0 1) with
  | none => refuse .outOfRange s
  | some p =>
    match pointConfigOf f (s.point p).config with
    | none => refuse .outOfRange s
    | some c => taken [] ((s.setPoint p { s.point p with config := c }).reconcile p)

def execSetPointConfig (p : Port) (q : Byte) (f : List Byte) (s : State) : Host.Outcome State Fault Refusal :=
  finish (s.requestArrives .setPointConfig ownerSetPointConfig p q f)

/-- A point's protect mark written. -/
def State.writeProtect (p : PointNo) (b : Bool) (s : State) : State :=
  s.setPoint p { s.point p with config := { (s.point p).config with protect := b } }

/-- R13. -/
def ownerSetProtectMark : Owner := fun _ f s =>
  match point? (field f 0 1), field f 1 1 with
  | some p, 1 =>
    if (s.point p).config.protect then noChange .setProtectMark [] s else taken [] (s.writeProtect p true)
  | some p, 0 =>
    if (s.point p).config.protect = false then noChange .setProtectMark [] s
    else if s.acu.isOpen = false then refuse .accessRequired s
    else taken [] (s.writeProtect p false).startOpenTimer
  | _, _ => refuse .outOfRange s

def execSetProtectMark (p : Port) (q : Byte) (f : List Byte) (s : State) : Host.Outcome State Fault Refusal :=
  finish (s.requestArrives .setProtectMark ownerSetProtectMark p q f)

/-! ### Reading (R14) -/

/-- The fields of a READ_POINT answer, in the order R14 names them. -/
def PointTable.pointBytes (t : PointTable) (p : PointNo) : List Byte :=
  let r := t.points.get p
  i16 r.value ++ u8 r.quality.code ++ u16 r.age ++ u16 r.config.staleLimit ++ limitSetBytes r.config.limits
    ++ prioritiesBytes r.config ++ flag r.config.qualityAlarm ++ opt chanByte r.config.associated
    ++ flag r.config.protect ++ u8 r.band.code ++ opt (fun l => u8 (Level.code l)) r.reportedLo
    ++ opt (fun l => u8 (Level.code l)) r.reportedHi ++ flag r.reportedQuality
    ++ opt (fun c => flag (t.offMarks.get c)) r.config.associated

/-- R14. -/
def ownerReadPoint : Owner := fun _ f s =>
  match point? (field f 0 1) with
  | none => refuse .outOfRange s
  | some p => taken (s.ptb.pointBytes p) s

def execReadPoint (p : Port) (q : Byte) (f : List Byte) (s : State) : Host.Outcome State Fault Refusal :=
  finish (s.requestArrives .readPoint ownerReadPoint p q f)

/-! ### Warm restart (R17) -/

/-- Marks set and reported fields absent; the reconciliation follows with the re-sending (R17). -/
def PointTable.warm (t : PointTable) : PointTable :=
  { points := t.points.map fun r => { r with reportedLo := none, reportedHi := none, reportedQuality := false }
    offMarks := Tbl.all 6 true }

end Sys2Proof.Machine
end

