-- ==== Sys2Proof/Machine/Shifts.lean ====
section
/-! DEFINITION. Shift tally unit: clock, plan, sampling, boundaries, the held report, reading (chapter 8).
What debit records, notices and a close do to the records is in Machine/Ops.lean.
-/

namespace Sys2Proof.Machine

def State.setShift (u : ShiftUnit) (s : State) : State := { s with sht := u }

/-! ### Clock and plan (R151 to R153) -/

/-- The clock set: an absent start stamp of the open record takes the stamp of the setting (R152). -/
def ShiftUnit.clockSet (k : Clock) (u : ShiftUnit) : ShiftUnit :=
  { u with
    clock := some k
    current := { u.current with
      start := some (u.current.start.getD { day := k.day, secs := k.secs, shift := u.current.number }) } }

/-- R152. -/
def ownerSetClock : Owner := fun _ f s =>
  if Config.dayCountMax < field f 0 2 ∨ Config.daySeconds ≤ field f 2 4 then refuse .outOfRange s
  else taken [] (s.setShift (s.sht.clockSet { day := field f 0 2, secs := field f 2 4 }))

def execSetClock (p : Port) (q : Byte) (f : List Byte) (s : State) : Host.Outcome State Fault Refusal :=
  finish (s.requestArrives .setClock ownerSetClock p q f)

/-- R153. -/
def ownerSetShiftPlan : Owner := fun _ f s =>
  let plan : ShiftPlan := { length := field f 0 2, firstStart := field f 2 2 }
  if (plan.length = 360 ∨ plan.length = 480 ∨ plan.length = 720) ∧ plan.firstStart ≤ 1439 then
    taken [] (s.setShift { s.sht with plan := plan })
  else refuse .outOfRange s

def execSetShiftPlan (p : Port) (q : Byte) (f : List Byte) (s : State) : Host.Outcome State Fault Refusal :=
  finish (s.requestArrives .setShiftPlan ownerSetShiftPlan p q f)

/-! ### The second's sample (R158) -/

/-- Running seconds of the active channels stepped (R158, step 2). -/
def Tally.runningStepped (active : Chan → Bool) (t : Tally) : Tally :=
  { t with channels := allChans.foldl (fun x c =>
      if active c then x.modify c fun k => { k with running := k.running + 1 } else x) t.channels }

/-- The seconds of a cooler mode stepped (R158, step 3). -/
def ModeSeconds.step (n : ModeSeconds) : CoolerMode → ModeSeconds
  | .idle => { n with idle := n.idle + 1 }
  | .normal => { n with normal := n.normal + 1 }
  | .flush => { n with flush := n.flush + 1 }
  | .held => { n with held := n.held + 1 }
  | .manual => { n with manual := n.manual + 1 }

/-- The clinker of a second integrated, or the second missing (R158, step 4). -/
def ShiftUnit.clinkerTaken (rate : Int) (q : Quality) (u : ShiftUnit) : ShiftUnit :=
  match q with
  | .good =>
    let g := u.clinkerResidue + rate.toNat * 100
    { u with clinkerResidue := g % 3600, current := { u.current with clinker := u.current.clinker + g / 3600 } }
  | .uncertain | .bad | .stale => { u with current := { u.current with missing := u.current.missing + 1 } }

/-- The clock one second on (R151). -/
def Clock.next (k : Clock) : Clock :=
  if k.secs + 1 < Config.daySeconds then { k with secs := k.secs + 1 }
  else { day := (k.day + 1) % (Config.dayCountMax + 1), secs := 0 }

/-- Steps 2 to 4 of an expiry on the open record. -/
def State.sampled (s : State) : ShiftUnit :=
  { s.sht with current :=
      { s.sht.current.runningStepped (fun c => (s.chan c).state.active) with
        modes := s.sht.current.modes.step s.clc.mode } }.clinkerTaken
    (s.point 6).value (s.point 6).quality

/-- A boundary: the open record closes into an empty held slot, or its close is deferred (R159). -/
def State.boundary (s : State) : State :=
  if s.sht.held.isNone then s.closeShift
  else s.setShift { s.sht with current := { s.sht.current with overrun := true } }

/-- An expiry whole (R158). -/
def State.shiftSecond (s : State) : State :=
  let s1 := s.setShift s.sampled
  match s1.sht.clock with
  | none => s1
  | some k =>
    let s2 := s1.setShift { s1.sht with clock := some k.next }
    if s.sht.plan.isBoundary k.next.secs then s2.boundary else s2

def execShiftTimerExpiry (s : State) : Host.Outcome State Fault Refusal :=
  finish (s.whileRunning State.shiftSecond)

/-! ### Closing and releasing (R161 to R163) -/

/-- R161. -/
def ownerShiftClose : Owner := fun _ _ s =>
  if s.sht.held.isSome then refuse .heldPending s
  else taken (u16 s.sht.current.number) s.closeShift

def execShiftClose (p : Port) (q : Byte) (f : List Byte) (s : State) : Host.Outcome State Fault Refusal :=
  finish (s.requestArrives .shiftClose ownerShiftClose p q f)

/-- The held slot emptied, with the collected notice where the report had not been collected (R162). -/
def State.freeHeld (t : Tally) (s : State) : State :=
  let s1 := s.setShift { s.sht with held := none }
  if t.collected then s1 else s1.reportNotice false

/-- R162. -/
def ownerReleaseShift : Owner := fun _ f s =>
  match s.sht.held with
  | none => noChange .releaseShift (opt u16 none) s
  | some t =>
    if t.number ≠ field f 0 2 then refuse .wrongState s
    else if s.sht.current.overrun then
      taken (opt u16 (some s.sht.current.number)) (s.freeHeld t).closeShift
    else taken (opt u16 none) (s.freeHeld t)

def execReleaseShift (p : Port) (q : Byte) (f : List Byte) (s : State) : Host.Outcome State Fault Refusal :=
  finish (s.requestArrives .releaseShift ownerReleaseShift p q f)

/-- A held record with its clinker corrected (R163). -/
def Tally.clinkerCorrected (kg : Nat) (t : Tally) : Tally :=
  { t with clinker := kg, corrected := true, specificHeat := t.specificHeatFor kg }

/-- R163.  The specific heat consumption is answered in six bytes, modulo 2^48: DEDUCED, unsafe (log entry 6).
That a wrong number is refused before a mass out of range is DEDUCED, unsafe (log entry 34). -/
def ownerCorrectShift : Owner := fun _ f s =>
  match s.sht.held with
  | none => refuse .wrongState s
  | some t =>
    if t.number ≠ field f 0 2 then refuse .wrongState s
    else if Config.countMax < field f 2 6 then refuse .outOfRange s
    else taken (opt u48 (t.specificHeatFor (field f 2 6)))
      (s.setShift { s.sht with held := some (t.clinkerCorrected (field f 2 6)) })

def execCorrectShift (p : Port) (q : Byte) (f : List Byte) (s : State) : Host.Outcome State Fault Refusal :=
  finish (s.requestArrives .correctShift ownerCorrectShift p q f)

/-! ### Reading (R164, R165) -/

/-- Part selectors (Table 8.4). -/
inductive ShiftPart where
  | summary
  | channels
  | lots
deriving DecidableEq, Repr

def shiftPart? : Nat → Option ShiftPart
  | 0 => some .summary
  | 1 => some .channels
  | 2 => some .lots
  | _ => none

/-- The four alarms-came counts (Table 8.2).  The order of rising priority value is DEDUCED, unsafe (log
entry 6). -/
def cameBytes (n : CameCounts) : List Byte := u16 n.critical ++ u16 n.high ++ u16 n.low ++ u16 n.notice

/-- The five cooler mode seconds (Table 8.2).  The order of rising mode value is DEDUCED, unsafe (log entry
6). -/
def modeSecondsBytes (n : ModeSeconds) : List Byte :=
  u48 n.idle ++ u48 n.normal ++ u48 n.flush ++ u48 n.held ++ u48 n.manual

def channelTallyBytes (t : ChannelTally) : List Byte :=
  u48 t.fed ++ u48 t.heat ++ u48 t.chlorine ++ u48 t.sulfur ++ u48 t.running ++ u16 t.trips

def lotEntryBytes (e : LotEntry) : List Byte := u32 e.tag ++ u8 e.kind.code ++ u48 e.kg

/-- A part of a tally record (Table 8.4).  The specific heat consumption, for which R154 gives no range, takes
six bytes as a shift tally does, modulo 2^48: DEDUCED, unsafe (log entry 6). -/
def Tally.partBytes (t : Tally) : ShiftPart → List Byte
  | .summary =>
    u16 t.number ++ opt stampBytes t.start ++ opt stampBytes t.finish ++ flag t.overrun ++ flag t.corrected
      ++ flag t.readSummary ++ flag t.readChannels ++ flag t.readLots
      ++ u48 t.unassigned ++ u48 t.heatMain ++ u48 t.heatCalc ++ u48 t.heatAlt ++ cameBytes t.came
      ++ modeSecondsBytes t.modes ++ u48 t.clinker ++ u48 t.missing ++ opt u16 t.substitution
      ++ opt u48 t.specificHeat
  | .channels => t.channels.list.flatMap channelTallyBytes
  | .lots => listOf lotEntryBytes t.lots ++ u16 t.otherLots ++ u48 t.otherKg

/-- The read mark of a part set (R164). -/
def Tally.read (part : ShiftPart) (t : Tally) : Tally :=
  match part with
  | .summary => { t with readSummary := true }
  | .channels => { t with readChannels := true }
  | .lots => { t with readLots := true }

/-- A part of the held record read on the control port: its mark is set, and a report collected by it hands
its notice (R164). -/
def State.readHeld (part : ShiftPart) (t : Tally) (s : State) : State :=
  let s1 := s.setShift { s.sht with held := some (t.read part) }
  if t.collected = false ∧ (t.read part).collected then s1.reportNotice false else s1

/-- R164.  That a selector outside Table 8.4 is refused before an empty held slot is DEDUCED, unsafe (log
entry 34). -/
def ownerReadShift : Owner := fun p f s =>
  match field f 0 1, shiftPart? (field f 1 1) with
  | 0, some part => taken (s.sht.current.partBytes part) s
  | 1, some part =>
    match s.sht.held with
    | none => refuse .notFound s
    | some t =>
      match p with
      | .control => taken (t.partBytes part) (s.readHeld part t)
      | .panel => taken (t.partBytes part) s
  | _, _ => refuse .outOfRange s

def execReadShift (p : Port) (q : Byte) (f : List Byte) (s : State) : Host.Outcome State Fault Refusal :=
  finish (s.requestArrives .readShift ownerReadShift p q f)

/-- The fields of a READ_CLOCK answer (R165).  That the held report's number and collected flag are one optional
field, both left out while no report is held, is a DESIGN CHOICE, unsafe (log entry 39). -/
def ShiftUnit.clockBytes (u : ShiftUnit) : List Byte :=
  flag u.clock.isSome ++ opt (fun k => u16 (Clock.day k) ++ u32 k.secs) u.clock
    ++ u16 u.plan.length ++ u16 u.plan.firstStart ++ u16 u.current.number ++ flag u.current.overrun
    ++ opt (fun t => u16 (Tally.number t) ++ flag t.collected) u.held
    ++ opt u16 (u.clock.map fun k => u.plan.nextBoundary k.secs)

/-- R165. -/
def ownerReadClock : Owner := fun _ _ s => taken s.sht.clockBytes s

def execReadClock (p : Port) (q : Byte) (f : List Byte) (s : State) : Host.Outcome State Fault Refusal :=
  finish (s.requestArrives .readClock ownerReadClock p q f)

end Sys2Proof.Machine
end

