-- ==== Sys2Proof/Machine/Power.lean ====
section
/-! DEFINITION. Settings store and start-up: starting, the reset input, loss of power, saving, the warm
restart, status (chapter 11); READ_LINK (R190).
-/

namespace Sys2Proof.Machine

/-! ### Held, without power (R195, R196) -/

/-- The outputs of a part held in reset or without power: every pulse-rate output silent, annunciator and
attention outputs off (R196). -/
def State.silenced (s : State) : State :=
  { s with
    fdi := s.fdi.map fun b => { b with appliedRate := 0 }
    alt := { s.alt with horn := false, attention := false } }

/-- A write of the image cut off leaves it partly written (R195). -/
def Store.cutOff (x : Store) : Store :=
  { x with image := if x.saving then .spoiled else x.image, inFlight := none }

/-- The part held in a phase without work (DEDUCED, log entry 21). -/
def State.halt (ph : Phase) (s : State) : State :=
  { s.silenced with phase := ph, sst := s.sst.cutOff }

/-- R196: an assertion of the reset input holds a powered part. -/
def execResetAssert (s : State) : Host.Outcome State Fault Refusal :=
  finish (if s.phase = .off then s else s.halt .held)

/-- R195, R196: loss of power. -/
def execPowerLoss (s : State) : Host.Outcome State Fault Refusal := finish (s.halt .off)

/-! ### Starting (R196, R197) -/

/-- The store as a start writes it from the image it keeps (R196, R197). -/
def Store.started (cause : ResetCause) (x : Store) : Store :=
  { image := x.image, imageValid := x.image.valid, inFlight := none, lastResult := .none
    reportedFault := false, cause := cause, unclean := false }

/-- Every block at its start on the settings of the image or the defaults; the queue of commands, the trip
line and the image stay (R16, R40, R64, R84, R102, R123, R149, R166, R176, R191). -/
def State.fresh (cause : ResetCause) (s : State) : State :=
  let st := s.sst.image.settings
  { pending := s.pending, phase := .startUp, tripLine := s.tripLine
    ptb := .start st, lrg := .start, chc := .start st, fsc := .start st, fdi := feedersStart st
    clc := .start st, alt := .start st, sht := .start st, acu := .start st
    control := .start, panel := .start, sst := s.sst.started cause, moment := s.moment }

/-- Every point reconciled, in ascending number (R16, R17). -/
def State.reconcileAll (s : State) : State := (List.finRange 48).foldl (fun s p => s.reconcile p) s

/-- The start-up phase entered: fresh blocks, the points reconciled, and SYSTEM/STORE_FAULT where the image
is invalid (R196). -/
def State.start (cause : ResetCause) (s : State) : State := (s.fresh cause).reconcileAll.reconcileStore

/-- Power is up and the reset input released (R196). -/
def execPowerOn (s : State) : Host.Outcome State Fault Refusal := finish ((s.halt .off).start .powerOn)

/-- Release of the asserted reset input; while power has not come up it is a power-on (R196, R197). -/
def execPinReset (s : State) : Host.Outcome State Fault Refusal :=
  finish (if s.phase = .off then (s.halt .off).start .powerOn else (s.halt .held).start .pin)

/-- The end of the start-up phase: the supervision timer starts, and a trip input that stands asserted is
taken as an assertion (R64, R196). -/
def State.startUpEnds (s : State) : State :=
  let s1 := { s with phase := .running }
  let s2 := s1.setSupervision { s.chc.supervision with
    link := .live, supervisionTimer := some (s.timer s.chc.supervision.supervisionTime), holdTimer := none }
  if s.tripLine then s2.tripLineTaken else s2

/-- R196. -/
def execStartUpEnd (s : State) : Host.Outcome State Fault Refusal :=
  finish (if s.phase = .startUp then s.startUpEnds else s)

/-! ### Saving (R194, R195) -/

/-- R194: the settings as they stand are taken for the image. -/
def ownerSaveSettings : Owner := fun _ _ s =>
  taken [] { s with sst := { s.sst with inFlight := some s.settings } }

def execSaveSettings (p : Port) (q : Byte) (f : List Byte) (s : State) : Host.Outcome State Fault Refusal :=
  finish (s.requestArrives .saveSettings ownerSaveSettings p q f)

/-- The store after a write completes: `held` says whether the non-volatile store holds what was
written (R195). -/
def Store.completed (held : Bool) (st : Settings) (x : Store) : Store :=
  { x with
    image := if held then .written st st.check else .spoiled
    imageValid := held
    inFlight := none
    lastResult := if held then .done else .failed }

/-- R195. -/
def State.saveCompletes (held : Bool) (s : State) : State :=
  match s.sst.inFlight with
  | none => s
  | some st => State.reconcileStore { s with sst := s.sst.completed held st }

def execSaveCompletion (held : Bool) (s : State) : Host.Outcome State Fault Refusal :=
  finish (s.saveCompletes held)

/-! ### Warm restart (R198) -/

/-- The panel port after a warm restart: a partly received frame is lost, a held frame dropped and counted,
a response being sent kept (R192). -/
def PanelPort.warm (x : PanelPort) : PanelPort :=
  { x with
    receiver := .hunt
    held := none
    discardedFrames := if x.held.isSome then satInc Config.linkCountMax x.discardedFrames
                       else x.discardedFrames }

/-- Whether some channel is in a state other than CH_OFF (R65). -/
def State.someChannelOn (s : State) : Bool := allChans.any fun c => (s.chan c).state != .off

/-- Steps 1 and 2: the reset cause record, and every block through its warm restart; the lot registry and
the shift tally unit keep their whole state (R41, R167, R198). -/
def State.blocksWarm (s : State) : State :=
  { s with
    ptb := s.ptb.warm
    chc := s.chc.warm (s.timer s.chc.supervision.supervisionTime)
    fsc := s.fsc.warm
    fdi := s.fdi.map FeederBlock.zeroed
    clc := s.clc.warm
    alt := s.alt.warm
    acu := s.acu.warm
    panel := s.panel.warm
    sst := { s.sst with cause := .warm, unclean := s.someChannelOn } }

/-- The trip input taken as an assertion where it stands asserted (R65). -/
def State.resendTripLine (s : State) : State := if s.tripLine then s.tripLineTaken else s

/-- The store's condition re-sent: reported absent before, present after (R198). -/
def State.resendStore (s : State) : State :=
  State.reconcileStore { s with sst := { s.sst with reportedFault := false } }

/-- A warm restart whole: the blocks, the report notice of the shift tally unit, and the conditions
re-sent (R150, R198; log entry 14). -/
def State.warmRestart (s : State) : State :=
  let s1 := s.blocksWarm.reportNotice s.sht.reportDue
  s1.reconcileAll.resendOverdrawn.resendTripLine.resendStore.resendLocked

/-- The reset cause record (R197). -/
def Store.causeBytes (x : Store) : List Byte := u8 x.cause.code ++ flag x.unclean

/-- R198. -/
def ownerWarmRestart : Owner := fun _ _ s => taken s.warmRestart.sst.causeBytes s.warmRestart

def execWarmRestart (p : Port) (q : Byte) (f : List Byte) (s : State) : Host.Outcome State Fault Refusal :=
  finish (s.requestArrives .warmRestart ownerWarmRestart p q f)

/-! ### Status (R199) and link counts (R190) -/

/-- The fields of a READ_STATUS answer (R199). -/
def State.statusBytes (s : State) : List Byte :=
  u16 Config.familyCode ++ u16 Config.partCode ++ u16 Config.revision ++ s.sst.causeBytes
    ++ flag s.sht.clock.isSome ++ u8 s.acu.code ++ u8 (if s.sst.imageValid then 0 else 1)
    ++ u8 (if s.sst.saving then 1 else 0) ++ u8 s.sst.lastResult.code

/-- R199. -/
def ownerReadStatus : Owner := fun _ _ s => taken s.statusBytes s

def execReadStatus (p : Port) (q : Byte) (f : List Byte) (s : State) : Host.Outcome State Fault Refusal :=
  finish (s.requestArrives .readStatus ownerReadStatus p q f)

/-- Receiver states (R183). -/
def Receiver.code : Receiver → Nat
  | .hunt => 0
  | .length => 1
  | .body _ _ => 2

/-- The fields of a READ_LINK answer: for each port the counts of frames taken, bad frames, discarded
responses and discarded frames (R190; log entry 6). -/
def State.linkBytes (s : State) : List Byte :=
  u32 s.control.taken ++ u16 s.control.badFrames ++ u16 s.control.discardedResponses ++ u16 0
    ++ u32 s.panel.taken ++ u16 s.panel.badFrames ++ u16 0 ++ u16 s.panel.discardedFrames
    ++ u8 s.panel.receiver.code ++ flag s.panel.held.isSome

/-- R190. -/
def ownerReadLink : Owner := fun _ _ s => taken s.linkBytes s

def execReadLink (p : Port) (q : Byte) (f : List Byte) (s : State) : Host.Outcome State Fault Refusal :=
  finish (s.requestArrives .readLink ownerReadLink p q f)

end Sys2Proof.Machine
end

