-- ==== Sys2Proof/Machine/Route.lean ====
section
/-! DEFINITION. Which block owns each request kind (Table 10.4), the frames that are not request rows of
the table, and the panel port's receiver and transmitter (chapter 10).
-/

namespace Sys2Proof.Machine

/-- The owner's rule of each kind (Table 10.4). -/
def ownerOf : Kind → Owner
  | .readStatus => ownerReadStatus
  | .saveSettings => ownerSaveSettings
  | .warmRestart => ownerWarmRestart
  | .readLink => ownerReadLink
  | .pointUpdate => ownerPointUpdate
  | .readPoint => ownerReadPoint
  | .setLimits => ownerSetLimits
  | .setPointConfig => ownerSetPointConfig
  | .setProtectMark => ownerSetProtectMark
  | .registerLot => ownerRegisterLot
  | .setAnalysis => ownerSetAnalysis
  | .amendMass => ownerAmendMass
  | .enqueueLot => ownerEnqueueLot
  | .dequeueLot => ownerDequeueLot
  | .quarantineLot => ownerQuarantineLot
  | .retireLot => ownerRetireLot
  | .readLot => ownerReadLot
  | .findLot => ownerFindLot
  | .readQueue => ownerReadQueue
  | .startChannel => ownerStartChannel
  | .stopChannel => ownerStopChannel
  | .holdChannel => ownerHoldChannel
  | .releaseHold => ownerReleaseHold
  | .emergencyStop => ownerEmergencyStop
  | .clearTrip => ownerClearTrip
  | .setChannelFuel => ownerSetChannelFuel
  | .setLotClLimit => ownerSetLotClLimit
  | .setShare => ownerSetShare
  | .setFlowLimits => ownerSetFlowLimits
  | .setCalibration => ownerSetCalibration
  | .setLinkTimes => ownerSetLinkTimes
  | .readChannel => ownerReadChannel
  | .setDemand => ownerSetDemand
  | .setClCeiling => ownerSetClCeiling
  | .setCreditParams => ownerSetCreditParams
  | .setDeficitAlarm => ownerSetDeficitAlarm
  | .readFiring => ownerReadFiring
  | .setStallTime => ownerSetStallTime
  | .readFeeder => ownerReadFeeder
  | .coolerMode => ownerCoolerMode
  | .setManualSpeed => ownerSetManualSpeed
  | .setManualGrate => ownerSetManualGrate
  | .setCompartment => ownerSetCompartment
  | .setCompartmentControl => ownerSetCompartmentControl
  | .setCoolerConfig => ownerSetCoolerConfig
  | .readCooler => ownerReadCooler
  | .ackAlarm => ownerAckAlarm
  | .ackAll => ownerAckAll
  | .shelve => ownerShelve
  | .unshelve => ownerUnshelve
  | .silence => ownerSilence
  | .collectAlarms => ownerCollectAlarms
  | .setTripEntry => ownerSetTripEntry
  | .readTripMap => ownerReadTripMap
  | .readAlarm => ownerReadAlarm
  | .findAlarm => ownerFindAlarm
  | .readAlarmTable => ownerReadAlarmTable
  | .setClock => ownerSetClock
  | .setShiftPlan => ownerSetShiftPlan
  | .shiftClose => ownerShiftClose
  | .releaseShift => ownerReleaseShift
  | .correctShift => ownerCorrectShift
  | .readShift => ownerReadShift
  | .readClock => ownerReadClock
  | .accessOpen => ownerAccessOpen
  | .accessClose => ownerAccessClose
  | .setAccessWord => ownerSetAccessWord
  | .readAccess => ownerReadAccess

/-- A checked frame routed by its kind (R185). -/
def routed (p : Port) (kind q : Byte) (f : List Byte) : Handler :=
  match Kind.ofCode kind with
  | some k => answerRequest k (ownerOf k) p q f
  | none => answerUnknown p kind q

/-! ### Control-port transfers (R178, R181, R182) -/

/-- A write transfer of these bytes, the sync byte among them (R181). -/
def State.writeTransfer (bytes : List Byte) (s : State) : State :=
  match readTransfer bytes with
  | .failed => s.controlFails bytes.length
  | .checked kind q f => s.controlArrives bytes.length (routed .control kind q f)

/-- A transfer of these bytes from select to release: its first byte decides its kind, and any first byte
but two leaves it ignored (R178; log entry 28). -/
def State.transfer (bytes : List Byte) (s : State) : State :=
  match bytes with
  | [] => s
  | b :: rest =>
    if b = Config.sync then s.writeTransfer (b :: rest)
    else if b = Config.readCommand then s.controlRead rest.length
    else s

/-- R181. -/
def execControlBadFrame (bytes : List Byte) (s : State) : Host.Outcome State Fault Refusal :=
  finish (s.transfer bytes)

/-- R178. -/
def execIgnoredTransfer (bytes : List Byte) (s : State) : Host.Outcome State Fault Refusal :=
  finish (s.transfer bytes)

/-- R182. -/
def execControlReadTransfer (clocked : Nat) (s : State) : Host.Outcome State Fault Refusal :=
  finish (s.controlRead clocked)

/-- R185: a checked frame whose kind the catalogue does not have. -/
def execUnknownRequest (p : Port) (kind q : Byte) (f : List Byte) (s : State) :
    Host.Outcome State Fault Refusal :=
  finish (match p with
    | .control => s.controlArrives (f.length + 6) (routed .control kind q f)
    | .panel => s.panelArrives (.checked kind q f) (routed .panel kind q f))

/-! ### The panel port (R183, R184) -/

/-- A frame the receiver finishes, handed on (R183, R184). -/
def State.panelFinished (fr : Frame) (s : State) : State :=
  match fr with
  | .failed => s.panelFails
  | .checked kind q f => s.panelArrives (.checked kind q f) (routed .panel kind q f)

/-- R183. -/
def execPanelBadFrame (s : State) : Host.Outcome State Fault Refusal := finish s.panelFails

/-- R183: a gap ends the frame that is being received. -/
def execPanelGapTimeout (s : State) : Host.Outcome State Fault Refusal :=
  finish (if s.panel.receiver = .hunt then s else s.panelFails)

/-- R184. -/
def execPanelFrameHold (fr : Frame) (s : State) : Host.Outcome State Fault Refusal :=
  finish (s.panelFinished fr)

/-- The answer to a frame that was held: a failed one was counted when it was finished. -/
def heldHandler : Frame → Handler
  | .failed => answerFailed
  | .checked kind q f => routed .panel kind q f

/-- The transmitter finishes a response: the held frame, where there is one, is taken (R184). -/
def State.transmitEnds (s : State) : State :=
  match s.panel.held with
  | none => { s with panel := { s.panel with sending := none } }
  | some fr => State.panelTake (heldHandler fr) { s with panel := { s.panel with sending := none, held := none } }

/-- R184. -/
def execPanelTransmitDone (s : State) : Host.Outcome State Fault Refusal :=
  finish (if s.linked = true ∧ s.panel.sending.isSome then s.transmitEnds else s)

/-- One byte at the receiver (R183). -/
def State.receiveByte (b : Byte) (s : State) : State :=
  match s.panel.receiver with
  | .hunt => if b = Config.sync then s.setReceiver .length else s
  | .length =>
    if Config.frameLenMin ≤ b.toNat ∧ b.toNat ≤ Config.frameLenMax then s.setReceiver (.body b.toNat [])
    else s.panelFails
  | .body n got =>
    if (got ++ [b]).length < n then s.setReceiver (.body n (got ++ [b]))
    else s.panelFinished (readFrame (BitVec.ofNat 8 n) (got ++ [b]))

/-- R183. -/
def execPanelReceiverByte (b : Byte) (s : State) : Host.Outcome State Fault Refusal :=
  finish (if s.linked then s.receiveByte b else s)

end Sys2Proof.Machine
end

