-- ==== Sys2Proof/Machine/Dispatch.lean ====
section
/-! DEFINITION. The effect of each command on everything but the queue: one arm per row of the table of
operations and events. -/

namespace Sys2Proof.Machine

def exec (i : Instr) (s : State) : Host.Outcome State Fault Refusal :=
  match i with
  | .powerOn => Sys2Proof.Machine.execPowerOn s
  | .pinReset => Sys2Proof.Machine.execPinReset s
  | .resetAssert => Sys2Proof.Machine.execResetAssert s
  | .powerLoss => Sys2Proof.Machine.execPowerLoss s
  | .startUpEnd => Sys2Proof.Machine.execStartUpEnd s
  | .controlBadFrame bytes => Sys2Proof.Machine.execControlBadFrame bytes s
  | .ignoredTransfer bytes => Sys2Proof.Machine.execIgnoredTransfer bytes s
  | .controlReadTransfer clocked => Sys2Proof.Machine.execControlReadTransfer clocked s
  | .unknownRequest port kind seq fields => Sys2Proof.Machine.execUnknownRequest port kind seq fields s
  | .panelBadFrame => Sys2Proof.Machine.execPanelBadFrame s
  | .panelGapTimeout => Sys2Proof.Machine.execPanelGapTimeout s
  | .panelFrameHold frame => Sys2Proof.Machine.execPanelFrameHold frame s
  | .panelTransmitDone => Sys2Proof.Machine.execPanelTransmitDone s
  | .readStatus port seq fields => Sys2Proof.Machine.execReadStatus port seq fields s
  | .saveSettings port seq fields => Sys2Proof.Machine.execSaveSettings port seq fields s
  | .saveCompletion held => Sys2Proof.Machine.execSaveCompletion held s
  | .warmRestart port seq fields => Sys2Proof.Machine.execWarmRestart port seq fields s
  | .readLink port seq fields => Sys2Proof.Machine.execReadLink port seq fields s
  | .pointUpdate port seq fields => Sys2Proof.Machine.execPointUpdate port seq fields s
  | .readPoint port seq fields => Sys2Proof.Machine.execReadPoint port seq fields s
  | .setLimits port seq fields => Sys2Proof.Machine.execSetLimits port seq fields s
  | .setPointConfig port seq fields => Sys2Proof.Machine.execSetPointConfig port seq fields s
  | .setProtectMark port seq fields => Sys2Proof.Machine.execSetProtectMark port seq fields s
  | .ageingExpiry => Sys2Proof.Machine.execAgeingExpiry s
  | .registerLot port seq fields => Sys2Proof.Machine.execRegisterLot port seq fields s
  | .setAnalysis port seq fields => Sys2Proof.Machine.execSetAnalysis port seq fields s
  | .amendMass port seq fields => Sys2Proof.Machine.execAmendMass port seq fields s
  | .enqueueLot port seq fields => Sys2Proof.Machine.execEnqueueLot port seq fields s
  | .dequeueLot port seq fields => Sys2Proof.Machine.execDequeueLot port seq fields s
  | .quarantineLot port seq fields => Sys2Proof.Machine.execQuarantineLot port seq fields s
  | .retireLot port seq fields => Sys2Proof.Machine.execRetireLot port seq fields s
  | .readLot port seq fields => Sys2Proof.Machine.execReadLot port seq fields s
  | .findLot port seq fields => Sys2Proof.Machine.execFindLot port seq fields s
  | .readQueue port seq fields => Sys2Proof.Machine.execReadQueue port seq fields s
  | .startChannel port seq fields => Sys2Proof.Machine.execStartChannel port seq fields s
  | .startTimerExpiry c => Sys2Proof.Machine.execStartTimerExpiry c s
  | .stopChannel port seq fields => Sys2Proof.Machine.execStopChannel port seq fields s
  | .holdChannel port seq fields => Sys2Proof.Machine.execHoldChannel port seq fields s
  | .releaseHold port seq fields => Sys2Proof.Machine.execReleaseHold port seq fields s
  | .tripLineAssert => Sys2Proof.Machine.execTripLineAssert s
  | .tripLineDeassert => Sys2Proof.Machine.execTripLineDeassert s
  | .emergencyStop port seq fields => Sys2Proof.Machine.execEmergencyStop port seq fields s
  | .clearTrip port seq fields => Sys2Proof.Machine.execClearTrip port seq fields s
  | .setChannelFuel port seq fields => Sys2Proof.Machine.execSetChannelFuel port seq fields s
  | .setLotClLimit port seq fields => Sys2Proof.Machine.execSetLotClLimit port seq fields s
  | .setShare port seq fields => Sys2Proof.Machine.execSetShare port seq fields s
  | .setFlowLimits port seq fields => Sys2Proof.Machine.execSetFlowLimits port seq fields s
  | .setCalibration port seq fields => Sys2Proof.Machine.execSetCalibration port seq fields s
  | .setLinkTimes port seq fields => Sys2Proof.Machine.execSetLinkTimes port seq fields s
  | .supervisionExpiry => Sys2Proof.Machine.execSupervisionExpiry s
  | .holdTimerExpiry => Sys2Proof.Machine.execHoldTimerExpiry s
  | .readChannel port seq fields => Sys2Proof.Machine.execReadChannel port seq fields s
  | .setDemand port seq fields => Sys2Proof.Machine.execSetDemand port seq fields s
  | .setClCeiling port seq fields => Sys2Proof.Machine.execSetClCeiling port seq fields s
  | .setCreditParams port seq fields => Sys2Proof.Machine.execSetCreditParams port seq fields s
  | .setDeficitAlarm port seq fields => Sys2Proof.Machine.execSetDeficitAlarm port seq fields s
  | .readFiring port seq fields => Sys2Proof.Machine.execReadFiring port seq fields s
  | .firingPeriodExpiry => Sys2Proof.Machine.execFiringPeriodExpiry s
  | .outputWindowBoundary c => Sys2Proof.Machine.execOutputWindowBoundary c s
  | .feederPulse c => Sys2Proof.Machine.execFeederPulse c s
  | .stallWindowExpiry c => Sys2Proof.Machine.execStallWindowExpiry c s
  | .setStallTime port seq fields => Sys2Proof.Machine.execSetStallTime port seq fields s
  | .trimIntervalExpiry c => Sys2Proof.Machine.execTrimIntervalExpiry c s
  | .readFeeder port seq fields => Sys2Proof.Machine.execReadFeeder port seq fields s
  | .coolerPeriodExpiry => Sys2Proof.Machine.execCoolerPeriodExpiry s
  | .flushTimerExpiry => Sys2Proof.Machine.execFlushTimerExpiry s
  | .coolerMode port seq fields => Sys2Proof.Machine.execCoolerMode port seq fields s
  | .setManualSpeed port seq fields => Sys2Proof.Machine.execSetManualSpeed port seq fields s
  | .setManualGrate port seq fields => Sys2Proof.Machine.execSetManualGrate port seq fields s
  | .setCompartment port seq fields => Sys2Proof.Machine.execSetCompartment port seq fields s
  | .setCompartmentControl port seq fields => Sys2Proof.Machine.execSetCompartmentControl port seq fields s
  | .setCoolerConfig port seq fields => Sys2Proof.Machine.execSetCoolerConfig port seq fields s
  | .readCooler port seq fields => Sys2Proof.Machine.execReadCooler port seq fields s
  | .ackAlarm port seq fields => Sys2Proof.Machine.execAckAlarm port seq fields s
  | .ackAll port seq fields => Sys2Proof.Machine.execAckAll port seq fields s
  | .shelve port seq fields => Sys2Proof.Machine.execShelve port seq fields s
  | .unshelve port seq fields => Sys2Proof.Machine.execUnshelve port seq fields s
  | .shelvingTimerExpiry => Sys2Proof.Machine.execShelvingTimerExpiry s
  | .shelfTimeExpiry slot => Sys2Proof.Machine.execShelfTimeExpiry slot s
  | .silence port seq fields => Sys2Proof.Machine.execSilence port seq fields s
  | .collectAlarms port seq fields => Sys2Proof.Machine.execCollectAlarms port seq fields s
  | .setTripEntry port seq fields => Sys2Proof.Machine.execSetTripEntry port seq fields s
  | .readTripMap port seq fields => Sys2Proof.Machine.execReadTripMap port seq fields s
  | .readAlarm port seq fields => Sys2Proof.Machine.execReadAlarm port seq fields s
  | .findAlarm port seq fields => Sys2Proof.Machine.execFindAlarm port seq fields s
  | .readAlarmTable port seq fields => Sys2Proof.Machine.execReadAlarmTable port seq fields s
  | .setClock port seq fields => Sys2Proof.Machine.execSetClock port seq fields s
  | .setShiftPlan port seq fields => Sys2Proof.Machine.execSetShiftPlan port seq fields s
  | .shiftClose port seq fields => Sys2Proof.Machine.execShiftClose port seq fields s
  | .releaseShift port seq fields => Sys2Proof.Machine.execReleaseShift port seq fields s
  | .correctShift port seq fields => Sys2Proof.Machine.execCorrectShift port seq fields s
  | .readShift port seq fields => Sys2Proof.Machine.execReadShift port seq fields s
  | .readClock port seq fields => Sys2Proof.Machine.execReadClock port seq fields s
  | .shiftTimerExpiry => Sys2Proof.Machine.execShiftTimerExpiry s
  | .accessOpen port seq fields => Sys2Proof.Machine.execAccessOpen port seq fields s
  | .accessClose port seq fields => Sys2Proof.Machine.execAccessClose port seq fields s
  | .openTimerExpiry => Sys2Proof.Machine.execOpenTimerExpiry s
  | .setAccessWord port seq fields => Sys2Proof.Machine.execSetAccessWord port seq fields s
  | .readAccess port seq fields => Sys2Proof.Machine.execReadAccess port seq fields s
  | .panelReceiverByte byte => Sys2Proof.Machine.execPanelReceiverByte byte s

end Sys2Proof.Machine
end

