-- ==== Sys2Proof/Safety.lean ====
section
/-! DEFINITION. What a safe part is, in the terms the claims use: when a request is taken at once and what
the part then looks like, and the conditions that every command is claimed to keep.
-/

namespace Sys2Proof.Machine

/-! ### A request taken at once -/

/-- A port can take a frame at once: the control port always, the panel port while its transmitter is idle
and no frame is held (R184). -/
def State.portFree (s : State) : Port → Prop
  | .control => True
  | .panel => s.panel.sending = none ∧ s.panel.held = none

/-- A request of a kind passes the acceptance checks of R185 on a port that takes it at once. -/
structure Ready (k : Kind) (p : Port) (f : List Byte) (s : State) : Prop where
  running   : s.phase = .running
  free      : s.portFree p
  permitted : p = .panel → panelMay k = true
  length    : lengthOk k f = true
  notBusy   : busyDuringSave k = true → s.sst.inFlight = none

/-- The state on which the owner takes a request: the frame is counted (R189), and the panel's receiver is
back in HUNT (R183). -/
def State.taking (s : State) : Port → State
  | .control => s.countTaken .control
  | .panel => (s.setReceiver .hunt).countTaken .panel

/-- The state after an owner's reply has been carried back: on the control port the response stands in the
buffer and the refresh has been handed (R182, R188); on the panel port it is being sent (R184).  One more
command has been taken (log entry 4). -/
def delivered (k : Kind) (p : Port) (q : Byte) (f : List Byte) (r : Reply) : State :=
  let response : Response := { kind := k.code, status := r.status, seq := q, fields := r.fields }
  let t := match p with
    | .control => ((r.state.writeControl response).shiftOut (List.replicate (f.length + 6) 0#8)).refresh
    | .panel => { r.state with panel := { r.state.panel with sending := some response } }
  { t with moment := t.moment + 1 }

/-- A state with one more command taken. -/
def State.after (s : State) : State := { s with moment := s.moment + 1 }

/-! ### Mass and lots -/

/-- Fed kilograms are the debited and the unassigned kilograms (R62). -/
def State.MassBalanced (s : State) : Prop :=
  ∀ c, (s.chan c).fed = (s.chan c).debited + (s.chan c).unassigned

/-- The bin queues hold what R29 says: at most 6 lots, each in one place, each analysed, the head and only
the head drawing; and a lot is queued or drawing exactly where a queue holds it. -/
structure LotRegistry.Ordered (g : LotRegistry) : Prop where
  short  : ∀ c, (g.queues.get c).length ≤ Config.queueDepth
  once   : ∀ c, (g.queues.get c).Nodup
  apart  : ∀ c d i, i ∈ g.queues.get c → i ∈ g.queues.get d → c = d
  queued : ∀ c i, i ∈ g.queues.get c → ∃ r, g.lot i = some r ∧ r.analysis.isSome
             ∧ r.state = if g.head c = some i then .drawing else .queued
  placed : ∀ i r, g.lot i = some r → r.state = .queued ∨ r.state = .drawing → ∃ c, i ∈ g.queues.get c

/-- No two occupied lot slots hold the same tag (R22). -/
def LotRegistry.TagsApart (g : LotRegistry) : Prop :=
  ∀ i j r r', g.lot i = some r → g.lot j = some r' → r.tag = r'.tag → i = j

/-! ### Channels -/

/-- While the trip line is asserted every channel is tripped; a tripped channel has a cause and nothing
else has; and a channel that is off or tripped is not driven (R53, R54, R57). -/
structure State.TripsHold (s : State) : Prop where
  line     : s.phase = .running → s.tripLine = true → ∀ c, (s.chan c).state = .tripped
  cause    : ∀ c, (s.chan c).tripCause.isSome = true ↔ (s.chan c).state = .tripped
  idle     : ∀ c, (s.chan c).state = .off ∨ (s.chan c).state = .tripped → s.setpoint c = 0
  silent   : ∀ c, (s.chan c).state = .tripped →
               s.fsc.target.get c = 0 ∧ (s.feeder c).pendingRate = 0 ∧ (s.feeder c).appliedRate = 0

/-- The timers of the control link run as its state says, and no channel is held for a loss while the link
is live (R58 to R61).  That the supervision timer is stopped while the link is lost, and the link live in the
start-up phase, are the model's choices (log entries 37 and 36). -/
structure State.LinkAgrees (s : State) : Prop where
  starting    : s.phase = .startUp → s.chc.supervision.link = .live
  supervised  : s.phase = .running →
                  (s.chc.supervision.supervisionTimer.isSome = true ↔ s.chc.supervision.link = .live)
  holding     : s.chc.supervision.holdTimer.isSome = true ↔ s.chc.supervision.link = .lostHold
  released    : s.chc.supervision.link = .live → ∀ c, (s.chan c).holds.controlLost = false

/-- Min flow does not exceed max flow, where the halves are present (R45). -/
def halvesOrdered (h : Option Halves) : Prop := ∀ x, h = some x → x.limits.minFlow ≤ x.limits.maxFlow

/-- No channel's setpoint or target exceeds its max flow in force (R79). -/
structure State.FlowsBounded (s : State) : Prop where
  ordered  : ∀ c, halvesOrdered (s.chan c).config.halves
  staged   : ∀ c l, (s.chan c).stagedLimits = some l → l.minFlow ≤ l.maxFlow
  stored   : ∀ c, halvesOrdered (s.sst.image.settings.channels.get c).halves
  saving   : ∀ st, s.sst.inFlight = some st → ∀ c, halvesOrdered (st.channels.get c).halves
  setpoint : ∀ c, s.setpoint c ≤ (s.chan c).maxFlow
  target   : ∀ c, s.fsc.target.get c ≤ (s.chan c).maxFlow

/-! ### Feeders and cooler -/

/-- The figures of a channel block stay in the ranges of Table 5.2, and a stall window runs only while the
applied rate is at or above 500 Hz (R96). -/
structure State.FeedersBounded (s : State) : Prop where
  trim    : ∀ c, Config.trimMin ≤ (s.feeder c).trim ∧ (s.feeder c).trim ≤ Config.trimMax
  rates   : ∀ c, (s.feeder c).pendingRate ≤ Config.rateMax ∧ (s.feeder c).appliedRate ≤ Config.rateMax
  residue : ∀ c, (s.feeder c).residue < 1000
  counts  : ∀ c, (s.feeder c).pulses < Config.pulseModulus
              ∧ (s.feeder c).uncalibratedPulses < Config.pulseModulus
  window  : s.linked = true → ∀ c, (s.feeder c).stallWindow.isSome = true →
              Config.stallRate ≤ (s.feeder c).appliedRate

/-- A compartment's stored speeds lie in their ranges. -/
def CompartmentConfig.Bounded (c : CompartmentConfig) : Prop :=
  c.minSpeed ≤ Config.speedMax ∧ c.fixedSpeed ≤ Config.speedMax

/-- The settings of the cooler lie in their ranges. -/
def Settings.CoolerBounded (st : Settings) : Prop :=
  (∀ k, (st.compartments.get k).Bounded) ∧ st.cooler.grateMin ≤ st.cooler.grateMax

/-- Every fan speed is at most 1000, an AUTO one at least its min speed, and the grate speeds lie between
their bounds (section 6.2); a manual speed is the speed published while the cooler is in CM_MANUAL. -/
structure State.CoolerBounded (s : State) : Prop where
  config  : ∀ k, (s.clc.compartments.get k).config.Bounded
  grates  : s.clc.config.grateMin ≤ s.clc.config.grateMax
  stored  : s.sst.image.settings.CoolerBounded
  saving  : ∀ st, s.sst.inFlight = some st → st.CoolerBounded
  speed   : ∀ k, (s.clc.compartments.get k).speed ≤ Config.speedMax
  auto    : ∀ k, (s.clc.compartments.get k).config.control = .auto →
              (s.clc.compartments.get k).config.minSpeed ≤ (s.clc.compartments.get k).speed
  manual  : s.clc.mode = .manual → ∀ k, (s.clc.compartments.get k).config.control = .auto →
              (s.clc.compartments.get k).manualSpeed = (s.clc.compartments.get k).speed
  grate   : s.clc.config.grateMin ≤ s.clc.grate ∧ s.clc.grate ≤ s.clc.config.grateMax
  manualGrate : s.clc.config.grateMin ≤ s.clc.manualGrate ∧ s.clc.manualGrate ≤ s.clc.config.grateMax

/-! ### Points and alarms -/

/-- The channel-off view follows the channels, what was reported is what is due, and the condition list
holds a point's condition exactly where it was reported (R9 to R11, R127). -/
structure State.PointsAgree (s : State) : Prop where
  marks   : ∀ c, s.ptb.offMarks.get c = true ↔ (s.chan c).state = .off
  lo      : ∀ p, (s.point p).reportedLo = s.ptb.dueLo p
  hi      : ∀ p, (s.point p).reportedHi = s.ptb.dueHi p
  quality : ∀ p, (s.point p).reportedQuality = s.ptb.dueQuality p
  loList  : ∀ p, s.alt.isPresent (.point p .loSide) = (s.point p).reportedLo.isSome
  hiList  : ∀ p, s.alt.isPresent (.point p .hiSide) = (s.point p).reportedHi.isSome
  qualityList : ∀ p, s.alt.isPresent (.point p .quality) = (s.point p).reportedQuality

/-- The records and the condition list agree: one live record for an identity, slot 64 for
SYSTEM/TABLE_FULL alone; a present condition has an active record unless it is pending; a record of an
absent condition is cleared and unshelved; conditions are pending only while every ordinary slot holds a
live record, and SYSTEM/TABLE_FULL is present exactly then (R128, R131, R137, R139). -/
structure AlarmTable.Sound (a : AlarmTable) : Prop where
  distinct : ∀ i j r r', a.record i = some r → a.record j = some r' → r.identity = r'.identity → i = j
  reserved : ∀ i r, a.record i = some r → (r.identity = .system .tableFull ↔ i = reservedSlot)
  waiting  : ∀ id k, a.condition id = some k → k.pending = true →
               a.slotOf id = none ∧ id ≠ .system .tableFull
  shown    : ∀ id k, a.condition id = some k → k.pending = false →
               ∃ i r, a.record i = some r ∧ r.identity = id ∧ r.state ≠ .clearedUnack
  gone     : ∀ i r, a.record i = some r → a.condition r.identity = none →
               r.state = .clearedUnack ∧ r.shelvedUntil = none
  full     : a.pendings ≠ [] → ∀ i, i ≠ reservedSlot → (a.record i).isSome = true
  tableFull : a.isPresent (.system .tableFull) = true ↔ a.pendings ≠ []

/-- A trip map of rules whose identities are of class POINT, FIRING or COOLER (R140). -/
def Settings.Mappable (st : Settings) : Prop :=
  ∀ e r, st.tripMap.get e = some r → r.identity.mappable = true

/-- The trip map and the channels' alarm holds agree: an entry in force has its identity present; a channel's
list holds, each once, the identities of the hold entries in force that name it; and HC_ALARM is in its set
exactly where the list is not empty (R52, R141, R142). -/
structure State.TripMapAgrees (s : State) : Prop where
  rules   : s.settings.Mappable
  stored  : s.sst.image.settings.Mappable
  saving  : ∀ st, s.sst.inFlight = some st → st.Mappable
  inForce : ∀ e, (s.alt.tripMap.get e).inForce = true →
              ∃ r, (s.alt.tripMap.get e).rule = some r ∧ s.alt.isPresent r.identity = true
  listed  : ∀ c id, id ∈ (s.chan c).alarmHolds ↔ ∃ e r, (s.alt.tripMap.get e).inForce = true
              ∧ (s.alt.tripMap.get e).rule = some r ∧ r.identity = id ∧ r.action = .holdChannel c
  once    : ∀ c, (s.chan c).alarmHolds.Nodup
  cause   : ∀ c, (s.chan c).holds.alarm = true ↔ (s.chan c).alarmHolds ≠ []

/-- The horn and attention outputs are what the records and the held report call for, and off while the
part is held or without power, when every pulse-rate output is silent too (R144, R146, R196). -/
structure State.OutputsAgree (s : State) : Prop where
  driven  : s.linked = true → s.alt.horn = s.alt.hornDue ∧ s.alt.attention = s.alt.attentionDue
  dark    : s.linked = false → s.alt.horn = false ∧ s.alt.attention = false
              ∧ ∀ c, (s.feeder c).appliedRate = 0
  noSave  : s.linked = false → s.sst.inFlight = none
  report  : s.alt.reportWaiting = s.sht.reportDue

/-! ### Shift, access, store -/

/-- The kilograms of a tally record stand on both sides of the balance of R156. -/
def Tally.Balanced (t : Tally) : Prop :=
  (t.channels.list.map (·.fed)).sum = (t.lots.map (·.kg)).sum + t.otherKg + t.unassigned

/-- Both tally records balance, a lot list has room for 16 entries, and a close is deferred only while a
report is held (R156, R159, R162). -/
structure ShiftUnit.Sound (u : ShiftUnit) : Prop where
  current : u.current.Balanced
  held    : ∀ t, u.held = some t → t.Balanced
  entries : u.current.lots.length ≤ Config.lotEntries
  defer   : u.current.overrun = true → u.held.isSome = true

/-- While the lockout is set access is closed, the count stands at 3 and the condition is reported;
otherwise the count is below 3 (R170). -/
structure Access.Sound (x : Access) : Prop where
  locked   : x.lockout = true → x.openTimer = none ∧ x.mismatches = Config.mismatchLimit
  unlocked : x.lockout = false → x.mismatches < Config.mismatchLimit
  reported : x.reportedLocked = x.lockout

/-- The settings that a save in flight writes are the settings in force (R194). -/
def State.SaveHolds (s : State) : Prop := ∀ st, s.sst.inFlight = some st → st = s.settings

end Sys2Proof.Machine
end

