-- ==== Sys2Proof/WellFormed.lean ====
section
/-! DEFINITION. Which commands are well formed: the bytes a row carries are bytes the link could have
delivered as that row.  A command that is not well formed still has a meaning (the part acts on the bytes
as they are), but it is not the row's own.
-/

namespace Sys2Proof

/-- The field bytes of a request fit a frame of length 250: kind, sequence, fields, check (R179). -/
def fieldsFit (fields : List Byte) : Bool := fields.length + 4 ≤ Config.frameLenMax

/-- A frame that a receiver could have finished. -/
def Frame.wellFormed : Frame → Bool
  | .failed => true
  | .checked _ _ fields => fieldsFit fields

/-- Well-formedness of a command. -/
def Instr.wellFormed : Instr → Bool
  | .readStatus _ _ f => fieldsFit f
  | .saveSettings _ _ f => fieldsFit f
  | .warmRestart _ _ f => fieldsFit f
  | .readLink _ _ f => fieldsFit f
  | .pointUpdate _ _ f => fieldsFit f
  | .readPoint _ _ f => fieldsFit f
  | .setLimits _ _ f => fieldsFit f
  | .setPointConfig _ _ f => fieldsFit f
  | .setProtectMark _ _ f => fieldsFit f
  | .registerLot _ _ f => fieldsFit f
  | .setAnalysis _ _ f => fieldsFit f
  | .amendMass _ _ f => fieldsFit f
  | .enqueueLot _ _ f => fieldsFit f
  | .dequeueLot _ _ f => fieldsFit f
  | .quarantineLot _ _ f => fieldsFit f
  | .retireLot _ _ f => fieldsFit f
  | .readLot _ _ f => fieldsFit f
  | .findLot _ _ f => fieldsFit f
  | .readQueue _ _ f => fieldsFit f
  | .startChannel _ _ f => fieldsFit f
  | .stopChannel _ _ f => fieldsFit f
  | .holdChannel _ _ f => fieldsFit f
  | .releaseHold _ _ f => fieldsFit f
  | .emergencyStop _ _ f => fieldsFit f
  | .clearTrip _ _ f => fieldsFit f
  | .setChannelFuel _ _ f => fieldsFit f
  | .setLotClLimit _ _ f => fieldsFit f
  | .setShare _ _ f => fieldsFit f
  | .setFlowLimits _ _ f => fieldsFit f
  | .setCalibration _ _ f => fieldsFit f
  | .setLinkTimes _ _ f => fieldsFit f
  | .readChannel _ _ f => fieldsFit f
  | .setDemand _ _ f => fieldsFit f
  | .setClCeiling _ _ f => fieldsFit f
  | .setCreditParams _ _ f => fieldsFit f
  | .setDeficitAlarm _ _ f => fieldsFit f
  | .readFiring _ _ f => fieldsFit f
  | .setStallTime _ _ f => fieldsFit f
  | .readFeeder _ _ f => fieldsFit f
  | .coolerMode _ _ f => fieldsFit f
  | .setManualSpeed _ _ f => fieldsFit f
  | .setManualGrate _ _ f => fieldsFit f
  | .setCompartment _ _ f => fieldsFit f
  | .setCompartmentControl _ _ f => fieldsFit f
  | .setCoolerConfig _ _ f => fieldsFit f
  | .readCooler _ _ f => fieldsFit f
  | .ackAlarm _ _ f => fieldsFit f
  | .ackAll _ _ f => fieldsFit f
  | .shelve _ _ f => fieldsFit f
  | .unshelve _ _ f => fieldsFit f
  | .silence _ _ f => fieldsFit f
  | .collectAlarms _ _ f => fieldsFit f
  | .setTripEntry _ _ f => fieldsFit f
  | .readTripMap _ _ f => fieldsFit f
  | .readAlarm _ _ f => fieldsFit f
  | .findAlarm _ _ f => fieldsFit f
  | .readAlarmTable _ _ f => fieldsFit f
  | .setClock _ _ f => fieldsFit f
  | .setShiftPlan _ _ f => fieldsFit f
  | .shiftClose _ _ f => fieldsFit f
  | .releaseShift _ _ f => fieldsFit f
  | .correctShift _ _ f => fieldsFit f
  | .readShift _ _ f => fieldsFit f
  | .readClock _ _ f => fieldsFit f
  | .accessOpen _ _ f => fieldsFit f
  | .accessClose _ _ f => fieldsFit f
  | .setAccessWord _ _ f => fieldsFit f
  | .readAccess _ _ f => fieldsFit f
  | .controlBadFrame bytes => bytes.head? == some Config.sync && readTransfer bytes == .failed
  | .ignoredTransfer bytes => bytes.head? != some Config.sync && bytes.head? != some Config.readCommand
  | .unknownRequest _ kind _ f => (Kind.ofCode kind).isNone && fieldsFit f
  | .panelFrameHold frame => frame.wellFormed
  | .powerOn => true
  | .pinReset => true
  | .resetAssert => true
  | .powerLoss => true
  | .startUpEnd => true
  | .controlReadTransfer _ => true
  | .panelBadFrame => true
  | .panelGapTimeout => true
  | .panelTransmitDone => true
  | .saveCompletion _ => true
  | .ageingExpiry => true
  | .startTimerExpiry _ => true
  | .tripLineAssert => true
  | .tripLineDeassert => true
  | .supervisionExpiry => true
  | .holdTimerExpiry => true
  | .firingPeriodExpiry => true
  | .outputWindowBoundary _ => true
  | .feederPulse _ => true
  | .stallWindowExpiry _ => true
  | .trimIntervalExpiry _ => true
  | .coolerPeriodExpiry => true
  | .flushTimerExpiry => true
  | .shelvingTimerExpiry => true
  | .shelfTimeExpiry _ => true
  | .shiftTimerExpiry => true
  | .openTimerExpiry => true
  | .panelReceiverByte _ => true

end Sys2Proof
end

