-- ==== Sys2Proof/Certificates/Slice0/Obligations.lean ====
section
/-! DEFINITION. The statements for the provers, numbered in OBLIGATIONS.json.  A statement about one
request takes it as `Ready`: the part runs, the port takes a frame at once, and the acceptance checks of
R185 pass; what those checks refuse is stated apart.  Every next state is written out whole, so each such
statement is the frame of its command too.
-/

open Sys2Proof Sys2Proof.Machine

/-! ### The machine -/

/-- A step takes the command at the front of the queue and runs it on the state with the queue's rest; on an
empty queue the part idles (the model's choice, log entry 1). -/
def Obligations.StepRunsTheFrontCommand : Prop :=
  (∀ (i : Instr) (rest : List Instr) (s : State),
    step { s with pending := i :: rest } = exec i { s with pending := rest })
  ∧ ∀ s : State, s.pending = [] → step s = .next s

/-- No command touches the queue, and each counts as one command taken (log entries 1 and 4). -/
def Obligations.CommandsKeepTheQueue : Prop :=
  ∀ (i : Instr) (s : State), ∃ t, exec i s = .next t ∧ t.pending = s.pending ∧ t.moment = s.moment + 1

/-- A request of any kind that passes the acceptance checks is answered by its owner on the port it came on,
within the same arrival (R185). -/
def Obligations.RequestsReachTheirOwner : Prop :=
  ∀ (k : Kind) (p : Port) (q : Byte) (f : List Byte) (s : State), Ready k p f s →
    exec (k.instr p q f) s = .next (delivered k p q f (ownerOf k p f (s.taking p)))

/-! ### Lookups -/

/-- Every lookup that its checks let through answers OK with the record asked for, and changes nothing but
the link; only READ_SHIFT of the held record on the control port changes more: it sets the part's read mark,
and the report collected by it drops its claim on the attention output (R146, R164).  The layout of the bytes
is the model's choice (log entries 6 and 39), and so are that a SUMMARY shows the read marks as they stood before
its own read (log entry 25), that an alarm-hold list is in order of arrival (log entry 38), and that the supervision
timer of a lost link reads as absent (log entry 37). -/
def Obligations.LookupsAnswer : Prop :=
  (∀ (p : Port) (q : Byte) (f : List Byte) (s : State),
     (Ready .readStatus p f s →
       exec (.readStatus p q f) s
         = .next (delivered .readStatus p q f ⟨.ok, (s.taking p).statusBytes, s.taking p⟩))
     ∧ (Ready .readLink p f s →
       exec (.readLink p q f) s = .next (delivered .readLink p q f ⟨.ok, (s.taking p).linkBytes, s.taking p⟩))
     ∧ (Ready .readFiring p f s →
       exec (.readFiring p q f) s = .next (delivered .readFiring p q f ⟨.ok, s.fsc.bytes, s.taking p⟩))
     ∧ (Ready .readCooler p f s →
       exec (.readCooler p q f) s = .next (delivered .readCooler p q f ⟨.ok, s.coolerBytes, s.taking p⟩))
     ∧ (Ready .readTripMap p f s →
       exec (.readTripMap p q f) s = .next (delivered .readTripMap p q f
         ⟨.ok, s.alt.tripMap.list.flatMap fun e => tripRuleBytes e.rule ++ flag e.inForce, s.taking p⟩))
     ∧ (Ready .readAlarmTable p f s →
       exec (.readAlarmTable p q f) s = .next (delivered .readAlarmTable p q f ⟨.ok, s.alt.bytes, s.taking p⟩))
     ∧ (Ready .readClock p f s →
       exec (.readClock p q f) s = .next (delivered .readClock p q f ⟨.ok, s.sht.clockBytes, s.taking p⟩))
     ∧ (Ready .readAccess p f s →
       exec (.readAccess p q f) s = .next (delivered .readAccess p q f ⟨.ok, s.accessBytes, s.taking p⟩)))
  ∧ (∀ (p : Port) (q : Byte) (f : List Byte) (s : State),
       (∀ n, Ready .readPoint p f s → point? (field f 0 1) = some n →
         exec (.readPoint p q f) s
           = .next (delivered .readPoint p q f ⟨.ok, s.ptb.pointBytes n, s.taking p⟩))
       ∧ (∀ c, Ready .readChannel p f s → chan? (field f 0 1) = some c →
         exec (.readChannel p q f) s
           = .next (delivered .readChannel p q f ⟨.ok, s.channelBytes c, s.taking p⟩))
       ∧ (∀ c, Ready .readFeeder p f s → chan? (field f 0 1) = some c →
         exec (.readFeeder p q f) s
           = .next (delivered .readFeeder p q f ⟨.ok, s.feederBytes c, s.taking p⟩))
       ∧ (∀ c, Ready .readQueue p f s → chan? (field f 0 1) = some c →
         exec (.readQueue p q f) s
           = .next (delivered .readQueue p q f ⟨.ok, s.lrg.queueBytes c, s.taking p⟩))
       ∧ (∀ i r, Ready .readLot p f s → s.lrg.byReference f = .ok i → s.lrg.lot i = some r →
         exec (.readLot p q f) s
           = .next (delivered .readLot p q f ⟨.ok, s.lrg.lotBytes i r, s.taking p⟩))
       ∧ (∀ i r, Ready .findLot p f s → s.lrg.byTag (field f 0 4) = .ok i → s.lrg.lot i = some r →
         exec (.findLot p q f) s
           = .next (delivered .findLot p q f ⟨.ok, s.lrg.lotBytes i r, s.taking p⟩))
       ∧ (∀ (i : SlotNo) r, Ready .readAlarm p f s → field f 0 1 = i.val → s.alt.record i = some r →
         field f 1 1 = (s.alt.slots.get i).generation → field f 1 1 ≠ 0 →
         exec (.readAlarm p q f) s
           = .next (delivered .readAlarm p q f ⟨.ok, recordBytes i (s.alt.slots.get i).generation r, s.taking p⟩))
       ∧ (∀ id, Ready .findAlarm p f s → identityAt f 0 = some id →
         exec (.findAlarm p q f) s
           = .next (delivered .findAlarm p q f
               ⟨.ok, conditionBytes (s.alt.condition id) ++ s.alt.recordOf id, s.taking p⟩)))
  ∧ (∀ (p : Port) (q : Byte) (f : List Byte) (s : State) (part : ShiftPart),
       Ready .readShift p f s → shiftPart? (field f 1 1) = some part →
       (field f 0 1 = 0 →
         exec (.readShift p q f) s
           = .next (delivered .readShift p q f ⟨.ok, s.sht.current.partBytes part, s.taking p⟩))
       ∧ (∀ t, field f 0 1 = 1 → s.sht.held = some t →
         (p = .panel →
           exec (.readShift p q f) s = .next (delivered .readShift p q f ⟨.ok, t.partBytes part, s.taking p⟩))
         ∧ (p = .control → (t.read part).collected = t.collected →
           exec (.readShift p q f) s = .next (delivered .readShift p q f ⟨.ok, t.partBytes part,
             { s.taking p with sht := { s.sht with held := some (t.read part) } }⟩))
         ∧ (p = .control → t.collected = false → (t.read part).collected = true →
           exec (.readShift p q f) s = .next (delivered .readShift p q f ⟨.ok, t.partBytes part,
             { s.taking p with
               sht := { s.sht with held := some (t.read part) }
               alt := AlarmTable.settled { s.alt with reportWaiting := false } }⟩))))

/-! ### Points -/

/-- POINT_UPDATE takes the entries that R3 admits, in order, and is refused whole for one that R3 does not
admit; SET_LIMITS, SET_POINT_CONFIG and SET_PROTECT_MARK write where their checks pass, and a change of a
protected limit set or the removal of a mark restarts the open timer (R3, R4, R6, R12, R13).  The order of two
reports of one kind within a reconciliation is the model's choice (log entry 30). -/
def Obligations.PointRequestsAct : Prop :=
  (∀ (p : Port) (q : Byte) (f : List Byte) (s : State), Ready .pointUpdate p f s →
     (∀ es, updateEntries f = some es →
       exec (.pointUpdate p q f) s = .next (delivered .pointUpdate p q f
         ⟨if es.any (·.clamped) then .okClamped else .ok, [],
          es.foldl (fun t e => t.takeEntry e) (s.taking p)⟩))
     ∧ (updateEntries f = none →
       exec (.pointUpdate p q f) s = .next (delivered .pointUpdate p q f ⟨.outOfRange, [], s.taking p⟩)))
  ∧ (∀ (p : Port) (q : Byte) (f : List Byte) (s : State) (n : PointNo), point? (field f 0 1) = some n →
       (Ready .setLimits p f s → ((s.point n).config.protect = true → s.acu.isOpen = true) →
         (limitSetOf f).inRange n = true → rising (limitSetOf f).present = true →
         exec (.setLimits p q f) s = .next (delivered .setLimits p q f
           ⟨.ok, u8 ((s.point n).withLimits (limitSetOf f)).band.code,
            let t := ((s.taking p).setPoint n ((s.point n).withLimits (limitSetOf f))).reconcile n
            if (s.point n).config.protect then t.startOpenTimer else t⟩))
       ∧ (∀ c, Ready .setPointConfig p f s → pointConfigOf f (s.point n).config = some c →
         exec (.setPointConfig p q f) s = .next (delivered .setPointConfig p q f
           ⟨.ok, [], ((s.taking p).setPoint n { s.point n with config := c }).reconcile n⟩))
       ∧ (Ready .setProtectMark p f s → field f 1 1 = 1 → (s.point n).config.protect = false →
         exec (.setProtectMark p q f) s = .next (delivered .setProtectMark p q f
           ⟨.ok, [], (s.taking p).setPoint n
             { s.point n with config := { (s.point n).config with protect := true } }⟩))
       ∧ (Ready .setProtectMark p f s → field f 1 1 = 0 → (s.point n).config.protect = true →
         s.acu.isOpen = true →
         exec (.setProtectMark p q f) s = .next (delivered .setProtectMark p q f
           ⟨.ok, [], ((s.taking p).setPoint n
             { s.point n with config := { (s.point n).config with protect := false } }).startOpenTimer⟩)))

/-- An entry taken stores the value within the point's range, makes a clamped good value uncertain, sets the
age to 0, and holds the band where the quality is PQ_BAD (R4, R8); the configuration stays. -/
def Obligations.EntryStoresClampedValue : Prop :=
  ∀ (e : PointEntry) (s : State),
    ((s.takeEntry e).point e.point).value = max (pointRange e.point).1 (min e.value (pointRange e.point).2)
    ∧ ((s.takeEntry e).point e.point).quality
        = (if ((s.takeEntry e).point e.point).value ≠ e.value ∧ e.quality = .good then .uncertain
           else e.quality)
    ∧ ((s.takeEntry e).point e.point).age = 0
    ∧ (e.quality = .bad → ((s.takeEntry e).point e.point).band = (s.point e.point).band)
    ∧ ((s.takeEntry e).point e.point).config = (s.point e.point).config
    ∧ ∀ n, n ≠ e.point → (s.takeEntry e).point n = s.point n

/-- The side bands of Table 1.6 (R7): each is entered only by a value strictly beyond its limit; a value
strictly beyond it enters it, or keeps the critical band within the deadband of the critical limit; a band
held is kept up to the deadband of its limit and left beyond it; a crossing on the other side wins; and a
point without limits is normal. -/
def Obligations.BandsCrossStrictly : Prop :=
  (∀ (l : LimitSet) (b : Band) (v : Int),
     (∀ x, l.critHigh = some x → b ≠ .critHigh → v ≤ x → evaluateBand l b v ≠ .critHigh)
     ∧ (∀ x, l.critLow = some x → b ≠ .critLow → x ≤ v → evaluateBand l b v ≠ .critLow)
     ∧ (∀ x, l.high = some x → b ≠ .high → b ≠ .critHigh → v ≤ x → evaluateBand l b v ≠ .high)
     ∧ (∀ x, l.low = some x → b ≠ .low → b ≠ .critLow → x ≤ v → evaluateBand l b v ≠ .low))
  ∧ (∀ (l : LimitSet) (b : Band) (v : Int),
       (∀ x, l.critHigh = some x → x < v → evaluateBand l b v = .critHigh)
       ∧ (∀ x, l.critLow = some x → v < x → above v l.critHigh = false → evaluateBand l b v = .critLow)
       ∧ (∀ x, l.high = some x → x < v → above v l.critHigh = false → below v l.critLow = false →
           evaluateBand l b v = if b = .critHigh ∧ notUnder v l.deadband l.critHigh then .critHigh else .high)
       ∧ (∀ x, l.low = some x → v < x → above v l.critHigh = false → below v l.critLow = false →
           above v l.high = false →
           evaluateBand l b v = if b = .critLow ∧ notOver v l.deadband l.critLow then .critLow else .low))
  ∧ (∀ (l : LimitSet) (v x : Int), below v l.critLow = false → below v l.low = false →
       (l.critHigh = some x → x - l.deadband ≤ v → evaluateBand l .critHigh v = .critHigh)
       ∧ (l.critHigh = some x → v < x - l.deadband → evaluateBand l .critHigh v = evaluateBand l .high v)
       ∧ (l.high = some x → above v l.critHigh = false →
           (x - l.deadband ≤ v → evaluateBand l .high v = .high)
           ∧ (v < x - l.deadband → evaluateBand l .high v = .normal)))
  ∧ (∀ (l : LimitSet) (v x : Int), above v l.critHigh = false → above v l.high = false →
       (l.critLow = some x → v ≤ x + l.deadband → evaluateBand l .critLow v = .critLow)
       ∧ (l.critLow = some x → x + l.deadband < v → evaluateBand l .critLow v = evaluateBand l .low v)
       ∧ (l.low = some x → below v l.critLow = false →
           (v ≤ x + l.deadband → evaluateBand l .low v = .low)
           ∧ (x + l.deadband < v → evaluateBand l .low v = .normal)))
  ∧ ∀ (d : Nat) (b : Band) (v : Int), evaluateBand ⟨none, none, none, none, d⟩ b v = .normal

/-- A point is usable when its quality is PQ_GOOD or PQ_UNCERTAIN, and unusable when it is PQ_BAD or
PQ_STALE (R104). -/
def Obligations.UsableQualities : Prop :=
  ∀ r : PointRecord,
    (r.quality.usable = true ↔ r.quality = .good ∨ r.quality = .uncertain)
    ∧ (r.quality.usable = false ↔ r.quality = .bad ∨ r.quality = .stale)

/-! ### Lots -/

/-- The requests that make, analyse, correct, queue and end a lot: REGISTER_LOT, SET_ANALYSIS, AMEND_MASS,
QUARANTINE_LOT, RETIRE_LOT, ENQUEUE_LOT and DEQUEUE_LOT, where their checks pass (R22 to R32).  `put` writes a
lot's record, `requeue` a queue, `cleared` clears the overdrawn mark of a queue whose head has mass (R36),
`leave` takes the head out of its queue with its record and makes the next lot the head (R30), and `rejected`
trips a channel that is not off by its lot (R27, R56).  The queues are as R29 says (`Ordered`, an invariant). -/
def Obligations.LotRequestsAct : Prop :=
  let put : LotNo → LotRecord → State → State := fun i r u =>
    { u with lrg := { u.lrg with lots := u.lrg.lots.put i { u.lrg.lots.get i with record := some r } } }
  let requeue : Chan → List LotNo → State → State := fun c q u =>
    { u with lrg := { u.lrg with queues := u.lrg.queues.put c q } }
  let cleared : Chan → State → State := fun c u =>
    if (u.lrg.headLot c).any (fun r => decide (0 < r.remaining)) && u.lrg.overdrawn.get c then
      State.goes (.channel c .overdrawn) { u with lrg := { u.lrg with overdrawn := u.lrg.overdrawn.put c false } }
    else u
  let leave : Chan → LotNo → LotRecord → List LotNo → State → State := fun c i r rest u =>
    match rest with
    | [] => requeue c [] (put i r u)
    | n :: _ =>
      match u.lrg.lot n with
      | some x => cleared c (requeue c rest (put n { x with state := .drawing } (put i r u)))
      | none => u
  let rejected : Chan → State → State := fun c u =>
    if (u.chan c).state = .off then u
    else State.goes (.channel c .lotRejected)
      (State.comesFixed (.channel c .lotRejected) (u.trip c .lotRejected))
  (∀ (p : Port) (q : Byte) (f : List Byte) (s : State) (k : FuelKind) (i : LotNo),
     Ready .registerLot p f s → kind? (field f 4 1) = some k → field f 0 4 ≠ 0 →
       1 ≤ field f 5 4 → field f 5 4 ≤ Config.lotMassMax → s.lrg.findTag (field f 0 4) = none →
       s.lrg.freeSlot = some i →
       exec (.registerLot p q f) s = .next (delivered .registerLot p q f
         ⟨.ok, u8 i.val ++ u8 (nextGeneration (s.lrg.lots.get i).generation),
          { s.taking p with
            lrg := { s.lrg with
              lots := s.lrg.lots.put i
                { generation := nextGeneration (s.lrg.lots.get i).generation
                  record := some
                    { tag := field f 0 4, kind := k, registered := field f 5 4, remaining := field f 5 4
                      analysis := none, state := .registered, debited := 0 } } } }⟩))
  ∧ (∀ (p : Port) (q : Byte) (f : List Byte) (s : State) (i : LotNo) (r : LotRecord), s.lrg.Ordered →
       s.lrg.byReference f = .ok i → s.lrg.lot i = some r →
       let answer : LotState → List Byte := fun st => s.lrg.handle i ++ u8 st.code
       (∀ a, Ready .setAnalysis p f s →
         analysisOf (field f 5 2) (field f 7 2) (field f 9 2) (field f 11 2) = some a →
         let reply : LotState → State → Prop := fun st t =>
           exec (.setAnalysis p q f) s = .next (delivered .setAnalysis p q f
             ⟨.ok, s.lrg.handle i ++ u16 a.ncvAr ++ u8 st.code, t⟩)
         (r.state = .registered ∨ r.state = .analysed →
           reply .analysed (put i { r with analysis := some a, state := .analysed } (s.taking p)))
         ∧ (∀ c, i ∈ s.lrg.queues.get c → a.chlorine ≤ (s.chan c).config.clLimit →
           reply r.state (put i { r with analysis := some a } (s.taking p)))
         ∧ (∀ c, i ∈ s.lrg.queues.get c → r.state = .queued → (s.chan c).config.clLimit < a.chlorine →
           reply .quarantined (requeue c ((s.lrg.queues.get c).erase i)
             (put i { r with analysis := some a, state := .quarantined } (s.taking p))))
         ∧ (∀ c rest, s.lrg.queues.get c = i :: rest → (s.chan c).config.clLimit < a.chlorine →
           reply .quarantined (rejected c
             (leave c i { r with analysis := some a, state := .quarantined } rest (s.taking p)))))
       ∧ (Ready .amendMass p f s → field f 5 4 ≤ Config.lotMassMax →
         let reply : LotState → State → Prop := fun st t =>
           exec (.amendMass p q f) s = .next (delivered .amendMass p q f ⟨.ok, answer st, t⟩)
         (r.state ≠ .exhausted → r.state ≠ .drawing →
           reply r.state (put i { r with remaining := field f 5 4 } (s.taking p)))
         ∧ (∀ c rest, s.lrg.queues.get c = i :: rest →
           (field f 5 4 ≠ 0 ∨ rest = [] →
             reply .drawing (cleared c (put i { r with remaining := field f 5 4 } (s.taking p))))
           ∧ (field f 5 4 = 0 → rest ≠ [] →
             reply .exhausted (leave c i { r with remaining := 0, state := .exhausted } rest (s.taking p)))))
       ∧ (Ready .quarantineLot p f s →
         let reply : State → Prop := fun t =>
           exec (.quarantineLot p q f) s = .next (delivered .quarantineLot p q f ⟨.ok, answer .quarantined, t⟩)
         (r.state = .analysed → reply (put i { r with state := .quarantined } (s.taking p)))
         ∧ (∀ c, i ∈ s.lrg.queues.get c → r.state = .queued →
           reply (requeue c ((s.lrg.queues.get c).erase i) (put i { r with state := .quarantined } (s.taking p))))
         ∧ (∀ c rest, s.lrg.queues.get c = i :: rest →
           reply (rejected c (leave c i { r with state := .quarantined } rest (s.taking p)))))
       ∧ (Ready .retireLot p f s → r.state ≠ .queued → r.state ≠ .drawing →
         exec (.retireLot p q f) s = .next (delivered .retireLot p q f
           ⟨.ok, [], { s.taking p with
             lrg := { s.lrg with
               lots := s.lrg.lots.put i { s.lrg.lots.get i with record := none } } }⟩))
       ∧ (∀ c a, Ready .enqueueLot p f s → chan? (field f 5 1) = some c → r.state = .analysed →
         r.analysis = some a → hasKind (s.chan c).config.kinds r.kind = true →
         a.chlorine ≤ (s.chan c).config.clLimit → (s.lrg.queues.get c).length < 6 →
         let reply : LotState → Nat → State → Prop := fun st n t =>
           exec (.enqueueLot p q f) s = .next (delivered .enqueueLot p q f ⟨.ok, answer st ++ u16 n, t⟩)
         (s.lrg.queues.get c = [] →
           reply .drawing 1 (cleared c (requeue c [i] (put i { r with state := .drawing } (s.taking p)))))
         ∧ (∀ h x, s.lrg.queues.get c = [h] → s.lrg.lot h = some x → x.remaining = 0 →
           reply .drawing 1 (cleared c (requeue c [i]
             (put i { r with state := .drawing } (put h { x with state := .exhausted } (s.taking p))))))
         ∧ (∀ h x rest, s.lrg.queues.get c = h :: rest → s.lrg.lot h = some x → x.remaining ≠ 0 ∨ rest ≠ [] →
           reply .queued (rest.length + 2) (requeue c (h :: rest ++ [i])
             (put i { r with state := .queued } (s.taking p)))))
       ∧ (Ready .dequeueLot p f s →
         let reply : State → Prop := fun t =>
           exec (.dequeueLot p q f) s = .next (delivered .dequeueLot p q f ⟨.ok, answer .analysed, t⟩)
         (∀ c, i ∈ s.lrg.queues.get c → r.state = .queued →
           reply (requeue c ((s.lrg.queues.get c).erase i) (put i { r with state := .analysed } (s.taking p))))
         ∧ (∀ c rest, s.lrg.queues.get c = i :: rest → (s.chan c).state = .off ∨ (s.chan c).state = .tripped →
           reply (leave c i { r with state := .analysed } rest (s.taking p)))))

/-- An analysis that the registry accepts gives an as-received NCV of 5,000 to 45,000 kJ/kg, by the formula
of R21. -/
def Obligations.AsReceivedNcvBounded : Prop :=
  ∀ (d w x y : Nat) (a : Analysis), analysisOf d w x y = some a →
    5000 ≤ a.ncvAr ∧ a.ncvAr ≤ 45000 ∧ a.ncvAr = d * (1000 - w) / 1000 - 2443 * w / 1000
    ∧ a = ⟨d, w, x, y, a.ncvAr⟩

/-- A retired lot's handle is stale: RETIRE_LOT leaves no reference to the lot that resolves, by handle or
by tag, where no other lot held the tag (R19, R28). -/
def Obligations.RetiredLotIsGone : Prop :=
  ∀ (i : LotNo) (r : LotRecord) (s : State), s.lrg.lot i = some r → s.lrg.TagsApart →
    (∀ g, (s.freeLot i).lrg.byHandle i.val g = .error .staleHandle)
    ∧ (r.tag ≠ 0 → (s.freeLot i).lrg.byTag r.tag = .error .notFound)
    ∧ ∀ j, j ≠ i → (s.freeLot i).lrg.lots.get j = s.lrg.lots.get j

/-- The parts of a debit of `k` kilograms add up to it, none carries 0 kg, and an unassigned part stands last
(R33).  Each lot of the queue, behind `a`, gives what the lots before it have not, its remaining mass falls and
its debited total rises by that, and it is exhausted where the debit takes more than it has and a lot stands
behind it; the queue then holds the others, the first of them drawing (R34).  The overdrawn mark is set where
the queue has less than the debit, and cleared where a next head with mass took over; CHANNEL c/OVERDRAWN
follows a change of it (R36).  The queues are as R29 says (`Ordered`, an invariant). -/
def Obligations.DebitPartsAddUp : Prop :=
  (∀ (c : Chan) (k : Nat) (s : State), 1 ≤ k →
    ((s.debit c k).1.map (·.kg)).sum = k
    ∧ (∀ x ∈ (s.debit c k).1, 1 ≤ x.kg)
    ∧ ∀ x ∈ (s.debit c k).1.dropLast, x.lot.isSome = true)
  ∧ ∀ (c : Chan) (k : Nat) (s : State), 1 ≤ k → s.lrg.Ordered →
    let t := (s.debit c k).2
    let q := s.lrg.queues.get c
    let mass : List LotNo → Nat := fun l => (l.map fun h => ((s.lrg.lot h).map (·.remaining)).getD 0).sum
    (∀ a h b r, q = a ++ h :: b → s.lrg.lot h = some r →
      (mass a < k → t.lrg.lots.get h = { s.lrg.lots.get h with record := some { r with
        remaining := r.remaining - (k - mass a)
        debited := min 4294967295 (r.debited + min r.remaining (k - mass a))
        state := if b ≠ [] ∧ mass a + r.remaining < k then .exhausted else .drawing } })
      ∧ (k ≤ mass a → t.lrg.lots.get h = s.lrg.lots.get h))
    ∧ (∀ i, i ∉ q → t.lrg.lots.get i = s.lrg.lots.get i)
    ∧ t.lrg.queues.get c = q.filter (fun h => (t.lrg.lot h).any fun r => r.state != .exhausted)
    ∧ (∀ d, d ≠ c → t.lrg.queues.get d = s.lrg.queues.get d ∧ t.lrg.overdrawn.get d = s.lrg.overdrawn.get d)
    ∧ t.lrg.overdrawn.get c = (if mass q < k then true
        else if mass (q.take 1) < k then false else s.lrg.overdrawn.get c)
    ∧ (t.lrg.overdrawn.get c ≠ s.lrg.overdrawn.get c →
        t.alt.isPresent (.channel c .overdrawn) = t.lrg.overdrawn.get c)
    ∧ (∀ x ∈ (s.debit c k).1, x.lot = none → x.kg = k - mass q)
    ∧ (∀ x ∈ (s.debit c k).1, ∀ g, x.lot = some g → ∃ h ∈ q, ∃ r r' a, s.lrg.lot h = some r ∧ t.lrg.lot h = some r'
        ∧ r.analysis = some a ∧ g = ⟨r.tag, r.kind, a.ncvAr, a.chlorine, a.sulfur⟩
        ∧ r'.remaining + x.kg = r.remaining)

/-! ### Channels -/

/-- START_CHANNEL that no reason of Table 3.8 refuses takes the channel to CH_STARTING at its min flow, and
one that a reason refuses changes nothing (R47); STOP_CHANNEL takes an alternative channel to CH_OFF with
its setpoint 0, and a conventional one to CH_STOPPING, or to CH_OFF from a setpoint of 0 (R49). -/
def Obligations.StartAndStopAct : Prop :=
  (∀ (p : Port) (q : Byte) (f : List Byte) (s : State) (c : Chan),
     Ready .startChannel p f s → chan? (field f 0 1) = some c →
     (s.tripLine = false → s.chc.supervision.link = .live → (s.chan c).state = .off →
       (s.chan c).holds.isEmpty = true → (s.chan c).config.halves.isSome = true →
       (s.lrg.head c).isSome = true →
       exec (.startChannel p q f) s = .next (delivered .startChannel p q f ⟨.ok, [],
         (((s.taking p).setChan c { s.chan c with
             state := .starting, startTimer := some ⟨10, s.moment⟩ }).drive c (s.chan c).minFlow).offNotice
           c false⟩))
     ∧ (∀ n, s.startRefusal c = some n →
       exec (.startChannel p q f) s
         = .next (delivered .startChannel p q f ⟨.wrongState, u8 n, s.taking p⟩)))
  ∧ (∀ (p : Port) (q : Byte) (f : List Byte) (s : State) (c : Chan),
       Ready .stopChannel p f s → chan? (field f 0 1) = some c →
       (s.chan c).state = .starting ∨ (s.chan c).state = .running ∨ (s.chan c).state = .holding →
       ((s.chan c).fuelClass = .alt →
         exec (.stopChannel p q f) s = .next (delivered .stopChannel p q f ⟨.ok, u8 0,
           ((s.taking p).drive c 0).enterOff c⟩))
       ∧ ((s.chan c).fuelClass = .conv → s.setpoint c = 0 →
         exec (.stopChannel p q f) s = .next (delivered .stopChannel p q f ⟨.ok, u8 0,
           (s.taking p).enterOff c⟩))
       ∧ ((s.chan c).fuelClass = .conv → s.setpoint c ≠ 0 →
         exec (.stopChannel p q f) s = .next (delivered .stopChannel p q f ⟨.ok, u8 4,
           (s.taking p).setChan c { s.chan c with state := .stopping, startTimer := none }⟩)))

/-- HOLD_CHANNEL adds HC_OPERATOR and freezes a starting or running channel, RELEASE_HOLD removes it and a
holding channel whose set is then empty goes to CH_RUNNING (R51); EMERGENCY_STOP trips every channel, and
CLEAR_TRIP that no reason of Table 3.9 refuses leads to CH_OFF (R55, R57).  A channel released with its
setpoint below the min flow in force is raised to it and handed (R48).  The order of the trips and the
channel-off notices of EMERGENCY_STOP is the model's choice (log entry 9). -/
def Obligations.HoldAndTripRequestsAct : Prop :=
  (∀ (p : Port) (q : Byte) (f : List Byte) (s : State) (c : Chan), chan? (field f 0 1) = some c →
     (Ready .holdChannel p f s → (s.chan c).holds.operator = false →
       (s.chan c).state = .starting ∨ (s.chan c).state = .running →
       exec (.holdChannel p q f) s = .next (delivered .holdChannel p q f ⟨.ok, u8 3,
         (s.taking p).setChan c { s.chan c with
           state := .holding, startTimer := none
           holds := { (s.chan c).holds with operator := true } }⟩))
     ∧ (Ready .holdChannel p f s → (s.chan c).holds.operator = false →
       (s.chan c).state ≠ .starting → (s.chan c).state ≠ .running →
       exec (.holdChannel p q f) s = .next (delivered .holdChannel p q f ⟨.ok, u8 (s.chan c).state.code,
         (s.taking p).setChan c { s.chan c with holds := { (s.chan c).holds with operator := true } }⟩))
     ∧ (Ready .releaseHold p f s → (s.chan c).holds.operator = true → (s.chan c).state = .holding →
       (s.chan c).holds.controlLost = false → (s.chan c).holds.alarm = false →
       (s.chan c).minFlow ≤ s.setpoint c →
       exec (.releaseHold p q f) s = .next (delivered .releaseHold p q f ⟨.ok, [],
         (s.taking p).setChan c { s.chan c with
           state := .running, startTimer := none
           holds := { (s.chan c).holds with operator := false } }⟩))
     ∧ (Ready .releaseHold p f s → (s.chan c).holds.operator = true → (s.chan c).state = .holding →
       (s.chan c).holds.controlLost = false → (s.chan c).holds.alarm = false →
       s.setpoint c < (s.chan c).minFlow →
       exec (.releaseHold p q f) s = .next (delivered .releaseHold p q f ⟨.ok, [],
         ((s.taking p).setChan c { s.chan c with
           state := .running, startTimer := none
           holds := { (s.chan c).holds with operator := false } }).drive c (s.chan c).minFlow⟩))
     ∧ (Ready .releaseHold p f s → (s.chan c).holds.operator = true →
       (s.chan c).state ≠ .holding ∨ (s.chan c).holds.controlLost = true ∨ (s.chan c).holds.alarm = true →
       exec (.releaseHold p q f) s = .next (delivered .releaseHold p q f ⟨.ok, [],
         (s.taking p).setChan c { s.chan c with holds := { (s.chan c).holds with operator := false } }⟩)))
  ∧ (∀ (p : Port) (q : Byte) (f : List Byte) (s : State),
       (Ready .emergencyStop p f s →
         exec (.emergencyStop p q f) s
           = .next (delivered .emergencyStop p q f ⟨.ok, [], (s.taking p).tripEvery .emergencyStop⟩))
       ∧ (∀ c, Ready .clearTrip p f s → chan? (field f 0 1) = some c → s.clearRefusal c = none →
         exec (.clearTrip p q f) s
           = .next (delivered .clearTrip p q f ⟨.ok, [], (s.taking p).enterOff c⟩))
       ∧ (∀ c n, Ready .clearTrip p f s → chan? (field f 0 1) = some c → s.clearRefusal c = some n →
         exec (.clearTrip p q f) s
           = .next (delivered .clearTrip p q f ⟨.wrongState, u8 n, s.taking p⟩)))

/-- After the trip of every channel each is tripped with no drive, and each that was not tripped already
records the cause (the model's choice where a channel-off notice starts a trip-map action: log entry 9); its
configuration, staged halves, fed count and the holds of operator and link stand (R53 to R55). -/
def Obligations.EveryTripStopsEveryChannel : Prop :=
  ∀ (cause : TripCause) (s : State) (c : Chan),
    ((s.tripEvery cause).chan c).state = .tripped
    ∧ ((s.chan c).state ≠ .tripped →
        ((s.tripEvery cause).chan c).tripCause = some cause
        ∧ (s.tripEvery cause).setpoint c = 0 ∧ (s.tripEvery cause).fsc.target.get c = 0
        ∧ ((s.tripEvery cause).feeder c).pendingRate = 0 ∧ ((s.tripEvery cause).feeder c).appliedRate = 0)
    ∧ ((s.chan c).state = .tripped → ((s.tripEvery cause).chan c).tripCause = (s.chan c).tripCause)
    ∧ ((s.tripEvery cause).chan c).config = (s.chan c).config
    ∧ ((s.tripEvery cause).chan c).stagedLimits = (s.chan c).stagedLimits
    ∧ ((s.tripEvery cause).chan c).stagedCalibration = (s.chan c).stagedCalibration
    ∧ ((s.tripEvery cause).chan c).fed = (s.chan c).fed
    ∧ ((s.tripEvery cause).chan c).holds.operator = (s.chan c).holds.operator
    ∧ ((s.tripEvery cause).chan c).holds.controlLost = (s.chan c).holds.controlLost

/-- The two questions of CLEAR_TRIP, asked for the identity of a trip's cause: a condition is present where
the condition list holds it, pending or not, and a record is a live one; a stub is none (R143).  The reasons
are 3 and 4 of Table 3.9, in that order, and no refusal where neither holds (R57). -/
def Obligations.ClearTripAsksTheAlarmTable : Prop :=
  ∀ (s : State) (c : Chan) (cause : TripCause) (id : Identity),
    (s.chan c).state = .tripped → (s.chan c).tripCause = some cause → cause.identity c = some id →
    s.tripLine = false →
    (s.clearRefusal c = some 3 ↔ ∃ k, s.alt.conditions.get id.rank = some k)
    ∧ (s.clearRefusal c = some 4 ↔ s.alt.conditions.get id.rank = none
        ∧ ∃ i r, (s.alt.slots.get i).content = .live r ∧ r.identity = id)
    ∧ (s.clearRefusal c = none ↔ s.alt.conditions.get id.rank = none
        ∧ ∀ i r, (s.alt.slots.get i).content = .live r → r.identity ≠ id)

/-- The fuel, chlorine limit and share of a channel and the link times are written where the checks pass
(R43, R44, R58); a half in its ranges is staged, or completes a pair where the other half waits (R45, Table
3.6); the protected ones restart the open timer. -/
def Obligations.ChannelSettingsWrite : Prop :=
  (∀ (p : Port) (q : Byte) (f : List Byte) (s : State),
     (∀ c l kinds, Ready .setChannelFuel p f s → chan? (field f 0 1) = some c → s.acu.isOpen = true →
       location? (field f 1 1) = some l → kindSet? (field f 2 1) = some kinds → oneClass kinds = true →
       s.mayTakeFuel c l kinds = true →
       exec (.setChannelFuel p q f) s = .next (delivered .setChannelFuel p q f
         ⟨.ok, u8 (classOf kinds).code,
          ((s.taking p).setChan c { s.chan c with
             config := { (s.chan c).config with location := l, kinds := kinds } }).startOpenTimer⟩))
     ∧ (∀ c, Ready .setLotClLimit p f s → chan? (field f 0 1) = some c → s.acu.isOpen = true →
       field f 1 2 ≤ Config.clLimitMax →
       exec (.setLotClLimit p q f) s = .next (delivered .setLotClLimit p q f
         ⟨.ok, [], ((s.taking p).setChan c { s.chan c with
             config := { (s.chan c).config with clLimit := field f 1 2 } }).startOpenTimer⟩))
     ∧ (∀ c, Ready .setShare p f s → chan? (field f 0 1) = some c →
       exec (.setShare p q f) s = .next (delivered .setShare p q f
         ⟨if 1000 < field f 1 2 then .okClamped else .ok, [],
          (s.taking p).setChan c { s.chan c with
             config := { (s.chan c).config with share := min 1000 (field f 1 2) } }⟩))
     ∧ (Ready .setLinkTimes p f s → 1 ≤ field f 0 2 → field f 0 2 ≤ 10 → field f 2 2 ≤ 600 →
       exec (.setLinkTimes p q f) s = .next (delivered .setLinkTimes p q f
         ⟨.ok, [], { s.taking p with chc := { s.chc with supervision := { s.chc.supervision with
             supervisionTime := field f 0 2, holdTime := field f 2 2 } } }⟩)))
  ∧ (∀ (p : Port) (q : Byte) (f : List Byte) (s : State) (c : Chan),
       chan? (field f 0 1) = some c → s.acu.isOpen = true →
       (∀ l : FlowLimits, l = ⟨field f 1 2, field f 3 2, field f 5 2⟩ → Ready .setFlowLimits p f s →
         l.minFlow ≤ l.maxFlow → l.maxFlow ≤ 60000 → 1 ≤ l.ramp → l.ramp ≤ 20000 →
         ((s.chan c).stagedCalibration = none →
           exec (.setFlowLimits p q f) s = .next (delivered .setFlowLimits p q f ⟨.ok, u8 2,
             ((s.taking p).setChan c { s.chan c with stagedLimits := some l }).startOpenTimer⟩))
         ∧ (∀ k, (s.chan c).stagedCalibration = some k →
           exec (.setFlowLimits p q f) s = .next (delivered .setFlowLimits p q f ⟨.ok, u8 1,
             ((s.taking p).pair c l k).startOpenTimer⟩)))
       ∧ (∀ k : Calibration, k = ⟨field f 1 4, field f 5 2⟩ → Ready .setCalibration p f s →
         100 ≤ k.capacity → k.capacity ≤ 80000 → 1 ≤ k.pulseMass → k.pulseMass ≤ 50000 →
         ((s.chan c).stagedLimits = none →
           exec (.setCalibration p q f) s = .next (delivered .setCalibration p q f ⟨.ok, u8 3,
             ((s.taking p).setChan c { s.chan c with stagedCalibration := some k }).startOpenTimer⟩))
         ∧ (∀ l, (s.chan c).stagedLimits = some l →
           exec (.setCalibration p q f) s = .next (delivered .setCalibration p q f ⟨.ok, u8 1,
             ((s.taking p).pair c l k).startOpenTimer⟩))))

/-- At a pairing both halves enter force, none stays staged, the feeder takes the calibration with trim
1000, and target and setpoint come within the new max flow; no other channel changes (R46, R90).  That a stopping
channel brought to a setpoint of 0 stays in CH_STOPPING is the model's choice (log entry 32). -/
def Obligations.PairingEntersForce : Prop :=
  ∀ (s : State) (c : Chan) (l : FlowLimits) (k : Calibration), l.minFlow ≤ l.maxFlow →
    ((s.pair c l k).chan c).config.halves = some ⟨l, k⟩
    ∧ ((s.pair c l k).chan c).stagedLimits = none ∧ ((s.pair c l k).chan c).stagedCalibration = none
    ∧ ((s.pair c l k).chan c).pairState = .complete
    ∧ ((s.pair c l k).chan c).state = (s.chan c).state
    ∧ ((s.pair c l k).feeder c).calibration = some k ∧ ((s.pair c l k).feeder c).trim = 1000
    ∧ ((s.pair c l k).feeder c).expectedSum = 0 ∧ ((s.pair c l k).feeder c).countedMass = 0
    ∧ ((s.pair c l k).feeder c).residue = (s.feeder c).residue
    ∧ ((s.pair c l k).feeder c).appliedRate = (s.feeder c).appliedRate
    ∧ ((s.pair c l k).feeder c).pendingRate
        = min 10000 ((s.pair c l k).setpoint c * 10000 * 1000 / (k.capacity * 1000))
    ∧ (s.pair c l k).fsc.target.get c = min (s.fsc.target.get c) l.maxFlow
    ∧ (s.pair c l k).setpoint c ≤ l.maxFlow
    ∧ ((s.chan c).state = .starting → (s.pair c l k).setpoint c = l.minFlow)
    ∧ ∀ d, d ≠ c → (s.pair c l k).chan d = s.chan d ∧ (s.pair c l k).feeder d = s.feeder d
        ∧ (s.pair c l k).setpoint d = s.setpoint d

/-! ### Firing -/

/-- The demands and firing settings are written where the checks pass (R67 to R69). -/
def Obligations.FiringSettingsWrite : Prop :=
  ∀ (p : Port) (q : Byte) (f : List Byte) (s : State),
    (Ready .setDemand p f s → field f 0 1 = 0 →
      exec (.setDemand p q f) s = .next (delivered .setDemand p q f
        ⟨if 2500 < field f 1 2 then .okClamped else .ok, u32 (100 * min 2500 (field f 1 2)),
         { s.taking p with fsc := { s.fsc with demandMain := 100 * min 2500 (field f 1 2) } }⟩))
    ∧ (Ready .setDemand p f s → field f 0 1 = 1 →
      exec (.setDemand p q f) s = .next (delivered .setDemand p q f
        ⟨if 2500 < field f 1 2 then .okClamped else .ok, u32 (100 * min 2500 (field f 1 2)),
         { s.taking p with fsc := { s.fsc with demandCalc := 100 * min 2500 (field f 1 2) } }⟩))
    ∧ (Ready .setDemand p f s → 2 ≤ field f 0 1 →
      exec (.setDemand p q f) s = .next (delivered .setDemand p q f ⟨.outOfRange, [], s.taking p⟩))
    ∧ (Ready .setClCeiling p f s → s.acu.isOpen = true → (∀ v, (takeOpt 4 f).1 = some v → v ≤ 400000) →
      exec (.setClCeiling p q f) s = .next (delivered .setClCeiling p q f ⟨.ok, [],
        State.startOpenTimer { s.taking p with
          fsc := { s.fsc with config := { s.fsc.config with ceiling := (takeOpt 4 f).1 } } }⟩))
    ∧ (Ready .setCreditParams p f s → s.acu.isOpen = true → 600 ≤ field f 0 2 → field f 0 2 ≤ 1300 →
      field f 2 2 ≤ 500 →
      exec (.setCreditParams p q f) s = .next (delivered .setCreditParams p q f ⟨.ok, [],
        State.startOpenTimer { s.taking p with
          fsc := { s.fsc with config := { s.fsc.config with tRef := field f 0 2, kSa := field f 2 2 } } }⟩))
    ∧ (Ready .setDeficitAlarm p f s → 10 ≤ field f 0 2 → field f 0 2 ≤ 200 → 10 ≤ field f 2 2 →
      field f 2 2 ≤ 600 →
      exec (.setDeficitAlarm p q f) s = .next (delivered .setDeficitAlarm p q f ⟨.ok, [],
        { s.taking p with
          fsc := { s.fsc with config := { s.fsc.config with band := field f 0 2, delay := field f 2 2 } } }⟩))

/-- The credit used is k_sa × (P4 − T_ref) where it is live and the last credit where it is frozen, clamped to
plus and minus a tenth of the MAIN demand; the corrected MAIN demand stays within a present flush cap, a live
credit becomes the last credit and a frozen one leaves it as it was (R72, R73). -/
def Obligations.CreditIsBounded : Prop :=
  ∀ s : State,
    -((s.fsc.demandMain / 10 : Nat) : Int) ≤ s.takeStages.fsc.published.credit
    ∧ s.takeStages.fsc.published.credit ≤ ((s.fsc.demandMain / 10 : Nat) : Int)
    ∧ (∀ k, s.fsc.flushCap = some k → s.takeStages.fsc.published.correctedMain ≤ k)
    ∧ (s.fsc.flushCap = none → (s.takeStages.fsc.published.correctedMain : Int)
        = max 0 ((s.fsc.demandMain : Int) - s.takeStages.fsc.published.credit))
    ∧ s.takeStages.fsc.published.correctedCalc = s.fsc.demandCalc
    ∧ (s.takeStages.fsc.published.basis = .valid ↔ s.clc.mode = .normal ∧ (s.point 4).quality = .good)
    ∧ (let within : Int → Int := fun z =>
         max (-((s.fsc.demandMain / 10 : Nat) : Int)) (min ((s.fsc.demandMain / 10 : Nat) : Int) z)
       (s.takeStages.fsc.published.basis = .valid → s.takeStages.fsc.published.credit
         = within (s.fsc.config.kSa * ((s.point 4).value - s.fsc.config.tRef)))
       ∧ (s.takeStages.fsc.published.basis = .frozen →
         s.takeStages.fsc.published.credit = within s.fsc.lastCredit))
    ∧ (s.takeStages.fsc.published.basis = .frozen → s.takeStages.fsc.lastCredit = s.fsc.lastCredit)
    ∧ (s.takeStages.fsc.published.basis = .valid →
        s.takeStages.fsc.lastCredit = s.takeStages.fsc.published.credit)

/-- Where the ALT chlorine ceiling is present at a firing period, the ALT chlorine published at it does not
exceed the ceiling, unless the chlorine of the ALT channels that are holding, starting or stopping alone
exceeds it (R80). -/
def Obligations.ChlorineCeilingHolds : Prop :=
  ∀ (s t : State) (g : Nat), s.phase = .running → s.fsc.config.ceiling = some g →
    exec .firingPeriodExpiry s = .next t →
    t.fsc.published.altChlorine ≤ g ∨ g * 1000 < fixedChlorine s.views

/-- A firing period takes the stages, hands every channel's setpoint to its feeder, whose pending rate and
expected sum follow it, ends the stops that have reached 0, and hands the reports of MAIN, CALC and CL_LIMITED in
that order (R70, R87, R99).  A deficit above the band counts up to the delay; its condition comes with the period
at which the count stands at the delay, and goes with the first at or below the band (R81); CL_LIMITED comes with
the chlorine stage and goes after 60 periods without it (R82).  From every state the figures published are those
of the active channels at their new setpoints (R80), and the stages find the available heat `a` of each location,
the targets of stages 4 to 7 of each channel, and from the last its target and setpoint (R74 to R79): the shares
split the available heat and no more, stage 5 leaves each running target from the min flow to the max flow in
force, stage 6 scales the alternative targets to the allowed chlorine, and stage 7 hands the heat it removed to the
conventional channels of the same location.  The order of the whole (log entry 11), that a stop which a pairing
brought to 0 ends here (log entry 32), and the order C1 to C6 of stops that end together (log entry 40) are the
model's choices. -/
def Obligations.FiringPeriodCompletes : Prop :=
  (∀ s t : State, s.phase = .running → exec .firingPeriodExpiry s = .next t →
    let r := s.fsc
    let x := t.fsc.published
    let above : Nat → Nat → Bool := fun corrected deficit => decide (corrected * r.config.band < deficit * 1000)
    let count : Bool → Nat → Nat := fun above n => if above then min r.config.delay (n + 1) else 0
    let told : Bool → Nat → Bool → Bool := fun above n before =>
      above && (before || decide (r.config.delay ≤ count above n))
    let follows : FiringCond → Bool → Bool → Prop := fun id before after =>
      t.alt.isPresent (.firing id) = if before = after then s.alt.isPresent (.firing id) else after
    x = s.takeStages.fsc.published
    ∧ t.fsc.countMain = count (above x.correctedMain x.deficitMain) r.countMain
    ∧ t.fsc.reportedMain = told (above x.correctedMain x.deficitMain) r.countMain r.reportedMain
    ∧ follows .heatDeficitMain r.reportedMain t.fsc.reportedMain
    ∧ t.fsc.countCalc = count (above x.correctedCalc x.deficitCalc) r.countCalc
    ∧ t.fsc.reportedCalc = told (above x.correctedCalc x.deficitCalc) r.countCalc r.reportedCalc
    ∧ follows .heatDeficitCalc r.reportedCalc t.fsc.reportedCalc
    ∧ t.fsc.inactive = (if x.clActive = true ∨ r.reportedCl = false ∨ 60 ≤ r.inactive + 1 then 0
        else r.inactive + 1)
    ∧ t.fsc.reportedCl = (x.clActive || (r.reportedCl && decide (r.inactive + 1 < 60)))
    ∧ follows .clLimited r.reportedCl t.fsc.reportedCl)
  ∧ (∀ s : State, s.phase = .running → ∃ u : State,
    exec .firingPeriodExpiry s
      = .next (((allChans.foldl (fun x c => x.stopEnds c) u).deficitMain.deficitCalc.clLimited).after)
    ∧ u.fsc = s.takeStages.fsc
    ∧ (∀ c, u.feeder c = { s.feeder c with
        pendingRate := rateOf (s.feeder c) (u.setpoint c)
        expectedSum := (s.feeder c).expectedSum + u.setpoint c })
    ∧ u = { s with fsc := u.fsc, fdi := u.fdi })
  ∧ ∀ s : State,
    let v : Chan → ChanView := s.view
    let x : Published := s.takeStages.fsc.published
    let setpoint : Chan → Nat := s.takeStages.fsc.setpoint.get
    let total : (Chan → Bool) → (Chan → Nat) → Nat := fun p f => ((allChans.filter p).map f).sum
    let heat : Chan → Nat → Nat := fun c m => m * (v c).ncv / 3600
    let mass : Chan → Nat → Nat := fun c h => h * 3600 / (v c).ncv
    let part : Nat → Chan → Nat → Nat := fun h c sum => if sum = 0 then 0 else h * (v c).share / sum
    let run : Location → Chan → Bool := fun l c => (v c).state == .running && (v c).location == l
    let stand : Chan → Bool := fun c =>
      (v c).state == .starting || (v c).state == .holding || (v c).state == .stopping
    let active : Chan → Bool := fun c => (v c).state == .running || stand c
    let delivered : (Chan → Bool) → Nat := fun p => total (fun c => active c && p c) fun c => heat c (setpoint c)
    let demand : Location → Nat := fun l => match l with
      | .main => x.correctedMain
      | .calc => x.correctedCalc
    let n : (Chan → Nat) → Nat := fun x =>
      total (fun c => (v c).state == .running && (v c).cls == .alt) fun c => x c * (v c).chlorine
    let f : Nat := total (fun c => stand c && (v c).cls == .alt) fun c => (v c).setpoint * (v c).chlorine
    (x.deliveredMain = delivered (fun c => (v c).location == .main)
      ∧ x.deliveredCalc = delivered (fun c => (v c).location == .calc)
      ∧ (x.deficitMain : Int) = max 0 ((x.correctedMain : Int) - x.deliveredMain)
      ∧ (x.surplusMain : Int) = max 0 ((x.deliveredMain : Int) - x.correctedMain)
      ∧ (x.deficitCalc : Int) = max 0 ((x.correctedCalc : Int) - x.deliveredCalc)
      ∧ (x.surplusCalc : Int) = max 0 ((x.deliveredCalc : Int) - x.correctedCalc)
      ∧ x.altChlorine = (total (fun c => active c && (v c).cls == .alt)
          (fun c => setpoint c * (v c).chlorine) + 999) / 1000
      ∧ x.substitution = (if x.deliveredMain + x.deliveredCalc = 0 then 0
          else delivered (fun c => (v c).cls == .alt) * 1000 / (x.deliveredMain + x.deliveredCalc)))
    ∧ ∃ (a : Location → Nat) (t4 t5 t6 t7 : Chan → Nat),
      (∀ l, a l = demand l - total (fun c => stand c && (v c).location == l) (fun c => heat c (v c).setpoint)
        ∧ total (run l) (fun c => part (a l) c (total (run l) fun d => (v d).share)) ≤ a l)
      ∧ (∀ c, (v c).state = .running →
        let l := (v c).location
        let cut : Chan → Bool := fun d => (v d).maxFlow < t4 d
        let gain := part (total (fun d => run l d && cut d) fun d => heat d (t4 d - (v d).maxFlow)) c
          (total (fun d => run l d && !cut d) fun d => (v d).share)
        t4 c = mass c (part (a l) c (total (run l) fun d => (v d).share))
        ∧ t5 c = max (v c).minFlow (min (v c).maxFlow (if cut c then t4 c else t4 c + mass c gain))
        ∧ ((v c).minFlow ≤ (v c).maxFlow → (v c).minFlow ≤ t5 c ∧ t5 c ≤ (v c).maxFlow)
        ∧ ((v c).cls = .alt → t7 c = t6 c)
        ∧ ((v c).cls = .conv → t6 c = t5 c
          ∧ t7 c = min (v c).maxFlow (t6 c + mass c (part
              (total (fun d => run l d && (v d).cls == .alt) fun d => heat d (t5 d) - heat d (t6 d)) c
              (total (fun d => run l d && (v d).cls == .conv) fun d => (v d).share)))
          ∧ ((v c).minFlow ≤ (v c).maxFlow → (v c).minFlow ≤ t7 c ∧ t7 c ≤ (v c).maxFlow)))
      ∧ (x.clActive = false → ∀ c, t6 c = t5 c)
      ∧ (x.clActive = true ↔ ∃ g, s.fsc.config.ceiling = some g ∧ g * 1000 < f + n t5)
      ∧ (∀ g, s.fsc.config.ceiling = some g → g * 1000 < f + n t5 →
        n t6 ≤ g * 1000 - f
        ∧ ∀ c, (v c).state = .running → (v c).cls = .alt →
          let y := t5 c * (g * 1000 - f) / n t5
          t6 c = if g * 1000 ≤ f ∨ y < (v c).minFlow then 0 else y)
      ∧ ∀ c, s.takeStages.fsc.target.get c = (v c).newTarget (t7 c)
        ∧ s.takeStages.fsc.setpoint.get c = (v c).newSetpoint (t7 c)

/-- The setpoint a period leaves a channel moves by its state (R50, R60, R78, R79): a stopping one falls by
its stopping step, a starting one stands, a holding one stands or falls by its stopping step in the fallback of
a lost link, and one that is off or tripped is 0.  A running one, raised to the min flow where it lies below it
and the target is not 0, rises by its step to no more than the target, and falls to the target at once when it
is alternative, by its step to no less than the target when it is conventional. -/
def Obligations.SetpointsMoveByState : Prop :=
  ∀ (v : ChanView) (target : Nat),
    (v.state = .stopping → v.newSetpoint target = v.setpoint - v.stopStep ∧ v.newTarget target = 0)
    ∧ (v.state = .starting → v.newSetpoint target = v.setpoint ∧ v.newTarget target = v.setpoint)
    ∧ (v.state = .holding → v.newSetpoint target ≤ v.setpoint ∧ v.newTarget target = v.newSetpoint target)
    ∧ (v.state = .holding → v.fallback = false → v.newSetpoint target = v.setpoint)
    ∧ (v.state = .holding → v.fallback = true → v.newSetpoint target
        = if v.cls = .conv then min v.setpoint (max v.minFlow (v.setpoint - v.stopStep)) else v.setpoint)
    ∧ (v.state = .running →
        let p := if v.setpoint < v.minFlow ∧ target ≠ 0 then v.minFlow else v.setpoint
        v.newTarget target = target
        ∧ (p < target → v.newSetpoint target = min target (p + v.step))
        ∧ (target ≤ p → v.cls = .alt → v.newSetpoint target = target)
        ∧ (target ≤ p → v.cls = .conv → v.newSetpoint target = max target (p - v.step))
        ∧ (v.minFlow ≤ v.setpoint → v.newSetpoint target ≤ max target v.setpoint)
        ∧ v.newSetpoint target ≤ max target (max v.setpoint v.minFlow + v.step)
        ∧ (v.cls = .alt → v.newSetpoint target ≤ target)
        ∧ (v.cls = .conv → v.setpoint - v.step ≤ v.newSetpoint target))
    ∧ (v.state = .off ∨ v.state = .tripped → v.newSetpoint target = 0 ∧ v.newTarget target = 0)

/-! ### Feeders -/

/-- The end of a trim interval (R100): the trim moves toward floor(trim × E / M) by at most 20, within 800
to 1250, where E = floor(expected sum / 3600) is at least 50 kg and M is above 0, and keeps its value
otherwise; both sums become 0, and the rates stay until the next hand-over. -/
def Obligations.TrimIntervalAdapts : Prop :=
  ∀ (c : Chan) (s : State), s.phase = .running →
    exec (.trimIntervalExpiry c) s = .next { s with
      moment := s.moment + 1
      fdi := s.fdi.put c { s.fdi.get c with
        expectedSum := 0
        countedMass := 0
        trim :=
          let e := (s.fdi.get c).expectedSum / 3600
          let m := (s.fdi.get c).countedMass
          let trim := (s.fdi.get c).trim
          let aim := trim * e / m
          if 50 ≤ e ∧ 0 < m then
            max 800 (min 1250 (if aim ≤ trim + 20 ∧ trim ≤ aim + 20 then aim
                               else if trim < aim then trim + 20 else trim - 20))
          else trim } }

/-- The feeder's own events while the part runs: a window boundary applies the pending rate (R88), a pulse
is counted and weighed (R91, R94), the expiry of a running stall window stops it and trips an active channel
(R97); SET_STALL_TIME writes a stall time of 2 to 30 s and leaves a running window (R98).  That a window which
expired untripped stays stopped while the rate stays at 500 Hz or above is the model's choice (log entry
33). -/
def Obligations.FeederCommandsAct : Prop :=
  (∀ (c : Chan) (s : State), s.phase = .running →
     (exec (.outputWindowBoundary c) s = .next { s with
       moment := s.moment + 1
       fdi := s.fdi.put c { s.fdi.get c with
         appliedRate := (s.fdi.get c).pendingRate
         stallWindow :=
           if (s.fdi.get c).pendingRate < 500 then none
           else if (s.fdi.get c).appliedRate < 500 then some ⟨(s.fdi.get c).stallTime, s.moment⟩
           else (s.fdi.get c).stallWindow } })
     ∧ ((s.fdi.get c).calibration = none →
       exec (.feederPulse c) s = .next { s with
         moment := s.moment + 1
         fdi := s.fdi.put c { s.fdi.get c with
           pulses := ((s.fdi.get c).pulses + 1) % 4294967296
           uncalibratedPulses := ((s.fdi.get c).uncalibratedPulses + 1) % 4294967296
           stallWindow := (s.fdi.get c).stallWindow.map fun _ => ⟨(s.fdi.get c).stallTime, s.moment⟩ } })
     ∧ (∀ k, (s.fdi.get c).calibration = some k → (s.fdi.get c).residue + k.pulseMass < 1000 →
       exec (.feederPulse c) s = .next { s with
         moment := s.moment + 1
         fdi := s.fdi.put c { s.fdi.get c with
           pulses := ((s.fdi.get c).pulses + 1) % 4294967296
           residue := (s.fdi.get c).residue + k.pulseMass
           stallWindow := (s.fdi.get c).stallWindow.map fun _ => ⟨(s.fdi.get c).stallTime, s.moment⟩ } })
     ∧ (∀ k, (s.fdi.get c).calibration = some k → 1000 ≤ (s.fdi.get c).residue + k.pulseMass →
       exec (.feederPulse c) s = .next (State.after (State.feed c
         (((s.fdi.get c).residue + k.pulseMass) / 1000)
         { s with fdi := s.fdi.put c { s.fdi.get c with
           pulses := ((s.fdi.get c).pulses + 1) % 4294967296
           residue := ((s.fdi.get c).residue + k.pulseMass) % 1000
           stallWindow := (s.fdi.get c).stallWindow.map fun _ => ⟨(s.fdi.get c).stallTime, s.moment⟩ } })))
     ∧ ((s.fdi.get c).stallWindow.isSome = true → (s.chan c).state.active = true →
       exec (.stallWindowExpiry c) s = .next (State.after (State.goes (.channel c .stall)
         (State.comes (.channel c .stall) none .high (State.trip c .stall
           { s with fdi := s.fdi.put c { s.fdi.get c with stallWindow := none } })))))
     ∧ ((s.fdi.get c).stallWindow.isSome = true → (s.chan c).state.active = false →
       exec (.stallWindowExpiry c) s = .next { s with
         moment := s.moment + 1
         fdi := s.fdi.put c { s.fdi.get c with stallWindow := none } }))
  ∧ (∀ (p : Port) (q : Byte) (f : List Byte) (s : State) (c : Chan),
       Ready .setStallTime p f s → chan? (field f 0 1) = some c →
       (2 ≤ field f 1 2 → field f 1 2 ≤ 30 →
         exec (.setStallTime p q f) s = .next (delivered .setStallTime p q f ⟨.ok, [],
           { s.taking p with fdi := s.fdi.put c { s.fdi.get c with stallTime := field f 1 2 } }⟩))
       ∧ (field f 1 2 < 2 ∨ 30 < field f 1 2 →
         exec (.setStallTime p q f) s
           = .next (delivered .setStallTime p q f ⟨.outOfRange, [], s.taking p⟩)))

/-! ### Cooler -/

/-- The cooler's settings and manual values are written where the checks pass (R107 to R109, R119);
COOLER_MODE enters CM_MANUAL with the outputs standing and the air-short flags cleared, and leaves it for
CM_IDLE or CM_NORMAL by the clinker rate (R118).  The manual speed of a compartment changed to CMP_AUTO, and
AIR_SHORT going before HELD, are the model's choices (log entries 24 and 16). -/
def Obligations.CoolerRequestsAct : Prop :=
  (∀ (p : Port) (q : Byte) (f : List Byte) (s : State),
     (∀ n, Ready .setCompartment p f s → comp? (field f 0 1) = some n → field f 1 2 ≤ 1000 →
       20000 ≤ field f 3 4 → field f 3 4 ≤ 200000 → 100 ≤ field f 7 2 → field f 7 2 ≤ 500 →
       exec (.setCompartment p q f) s = .next (delivered .setCompartment p q f ⟨.ok, [],
         (s.taking p).setCompartment n ((s.clc.compartments.get n).configured s.clc.mode (field f 1 2)
           (field f 3 4) (field f 7 2))⟩))
     ∧ (∀ n k, Ready .setCompartmentControl p f s → comp? (field f 0 1) = some n →
       control? (field f 1 1) = some k →
       exec (.setCompartmentControl p q f) s = .next (delivered .setCompartmentControl p q f
         ⟨if 1000 < field f 2 2 then .okClamped else .ok, [],
          (s.taking p).setCompartment n ((s.clc.compartments.get n).controlled s.clc.mode k
           (min 1000 (field f 2 2)))⟩))
     ∧ (∀ c, c = coolerConfigOf f → Ready .setCoolerConfig p f s → c.inRange = true →
       c.grateMin ≤ c.grateMax →
       exec (.setCoolerConfig p q f) s = .next (delivered .setCoolerConfig p q f ⟨.ok, [],
         { s.taking p with clc := { s.clc with
           config := c
           grate := max c.grateMin (min c.grateMax s.clc.grate)
           manualGrate := max c.grateMin (min c.grateMax s.clc.manualGrate) } }⟩))
     ∧ (∀ n v, Ready .setManualSpeed p f s → comp? (field f 0 1) = some n → s.clc.mode = .manual →
       (s.clc.compartments.get n).config.control = .auto →
       v = min 1000 (max (s.clc.compartments.get n).config.minSpeed (field f 1 2)) →
       exec (.setManualSpeed p q f) s = .next (delivered .setManualSpeed p q f
         ⟨if v = field f 1 2 then .ok else .okClamped, [],
          { s.taking p with
            clc := { s.clc with
              compartments := s.clc.compartments.put n
                { s.clc.compartments.get n with speed := v, manualSpeed := v } } }⟩))
     ∧ (∀ v, Ready .setManualGrate p f s → s.clc.mode = .manual →
       v = max s.clc.config.grateMin (min s.clc.config.grateMax (field f 0 2)) →
       exec (.setManualGrate p q f) s = .next (delivered .setManualGrate p q f
         ⟨if v = field f 0 2 then .ok else .okClamped, [],
          { s.taking p with clc := { s.clc with grate := v, manualGrate := v } }⟩)))
  ∧ (∀ (p : Port) (q : Byte) (f : List Byte) (s : State), Ready .coolerMode p f s →
       (field f 0 1 = 1 → s.clc.mode ≠ .manual →
         exec (.coolerMode p q f) s = .next (delivered .coolerMode p q f ⟨.ok, u8 4,
           (State.airShortReport { s.taking p with clc := { s.clc with
             mode := .manual
             manualGrate := s.clc.grate
             compartments := s.clc.compartments.map fun x =>
               { x with manualSpeed := x.speed, airShort := false } } }).heldReport⟩))
       ∧ (field f 0 1 = 0 → s.clc.mode = .manual → (s.point 6).quality.usable = true →
         (s.point 6).value < 50 →
         exec (.coolerMode p q f) s = .next (delivered .coolerMode p q f ⟨.ok, u8 0,
           { s.taking p with clc := { s.clc with mode := .idle } }⟩))
       ∧ (field f 0 1 = 0 → s.clc.mode = .manual →
         (s.point 6).quality.usable = false ∨ 50 ≤ (s.point 6).value →
         exec (.coolerMode p q f) s = .next (delivered .coolerMode p q f ⟨.ok, u8 1,
           { s.taking p with clc := { s.clc with mode := .normal } }⟩)))

/-- The expiry of the running flush timer stops it, removes the flush cap, takes CM_FLUSH to CM_NORMAL and
keeps any other mode (R116).  A cooler period moves the mode as Table 6.5 says, by the trigger of R115 from
P16's band or P8's rise: a trigger starts or restarts the flush timer, and the entry from CM_NORMAL sets the
flush cap (R73); the grate stands at its max in CM_FLUSH, follows the bed loop in CM_NORMAL (R112) and stands
still in CM_HELD; the previous P8 is the usable one.  Every compartment reads its pressure point and keeps its
configuration and manual speed; a FIXED one takes its fixed speed in every mode, an AUTO one the speed its mode
gives after the transition, by the air distribution of R110 in CM_NORMAL and CM_FLUSH, with 1000 for the first
three compartments (ZONE_RECUP) in CM_FLUSH, and its air-short flag follows R111; the three conditions are
reported as they then stand (R121).  The mark of a firing period taken, which the cap reads, is the model's field
(log entry 17). -/
def Obligations.CoolerTimersAct : Prop :=
  (∀ s : State, s.phase = .running →
     (∀ x, s.clc.flushTimer = some x → s.clc.reportedFlush = true →
       exec .flushTimerExpiry s = .next (State.after (State.goes (.cooler .flush) { s with
         clc := { s.clc with
           flushTimer := none
           mode := if s.clc.mode = .flush then .normal else s.clc.mode
           reportedFlush := false }
         fsc := { s.fsc with flushCap := none } })))
     ∧ (∀ x, s.clc.flushTimer = some x → s.clc.reportedFlush = false →
       exec .flushTimerExpiry s = .next { s with
         moment := s.moment + 1
         clc := { s.clc with
           flushTimer := none
           mode := if s.clc.mode = .flush then .normal else s.clc.mode }
         fsc := { s.fsc with flushCap := none } })
     ∧ exec .coolerPeriodExpiry s = .next s.coolerPeriod.after)
  ∧ (∀ s t : State, s.phase = .running → exec .coolerPeriodExpiry s = .next t →
       let trigger : Prop := (s.point 16).band = .high ∨ (s.point 16).band = .critHigh
         ∨ ∃ v, s.clc.previousP8 = some v ∧ (s.clc.config.flushStep : Int) < (s.point 8).value - v
       (s.clc.mode = .manual → t.clc.mode = .manual ∧ t.clc.grate = s.clc.manualGrate
           ∧ t.clc.flushTimer = s.clc.flushTimer ∧ t.fsc.flushCap = s.fsc.flushCap)
       ∧ ((s.point 6).quality.usable = false ∨ (s.point 8).quality.usable = false →
           (s.clc.mode = .normal ∨ s.clc.mode = .flush ∨ s.clc.mode = .held →
             t.clc.mode = .held ∧ t.clc.grate = s.clc.grate)
           ∧ (s.clc.mode = .idle → t.clc.mode = .idle ∧ t.clc.grate = s.clc.config.grateMin)
           ∧ t.clc.flushTimer = s.clc.flushTimer ∧ t.fsc.flushCap = s.fsc.flushCap)
       ∧ ((s.point 6).quality.usable = true → (s.point 8).quality.usable = true →
           (s.clc.mode = .held → t.clc.mode = .normal)
           ∧ (s.clc.mode = .idle → (s.point 6).value < 50 → t.clc.mode = .idle)
           ∧ (s.clc.mode = .idle → 50 ≤ (s.point 6).value → t.clc.mode = .normal)
           ∧ (s.clc.mode = .normal → (s.point 6).value < 50 → t.clc.mode = .idle)
           ∧ (s.clc.mode = .normal → 50 ≤ (s.point 6).value → trigger →
               t.clc.mode = .flush ∧ t.clc.flushTimer = some ⟨s.clc.config.flushTime, s.moment⟩
               ∧ t.clc.grate = s.clc.config.grateMax
               ∧ t.fsc.flushCap
                 = some (if s.fsc.periodTaken then s.fsc.published.correctedMain else s.fsc.demandMain))
           ∧ (s.clc.mode = .normal → 50 ≤ (s.point 6).value → ¬ trigger → t.clc.mode = .normal)
           ∧ (s.clc.mode = .flush → trigger →
               t.clc.mode = .flush ∧ t.clc.flushTimer = some ⟨s.clc.config.flushTime, s.moment⟩
               ∧ t.clc.grate = s.clc.config.grateMax ∧ t.fsc.flushCap = s.fsc.flushCap)
           ∧ (s.clc.mode = .flush → ¬ trigger →
               t.clc.mode = .flush ∧ t.clc.flushTimer = s.clc.flushTimer
               ∧ t.clc.grate = s.clc.config.grateMax ∧ t.fsc.flushCap = s.fsc.flushCap)
           ∧ (t.clc.mode = .normal →
               t.clc.flushTimer = s.clc.flushTimer ∧ t.fsc.flushCap = s.fsc.flushCap
               ∧ (t.clc.grate : Int) = max (s.clc.config.grateMin : Int) (min (s.clc.config.grateMax : Int)
                   (s.clc.grate + max (-5) (min 5
                     ((s.clc.config.grateGain * ((s.point 8).value - s.clc.config.bedTarget) : Int).tdiv 1000)))))
           ∧ (t.clc.mode = .idle → t.clc.flushTimer = s.clc.flushTimer ∧ t.fsc.flushCap = s.fsc.flushCap
               ∧ t.clc.grate = s.clc.config.grateMin))
       ∧ t.clc.previousP8 = (if (s.point 8).quality.usable then some (s.point 8).value else none)
       ∧ (∀ n : Comp,
           let x := s.clc.compartments.get n
           let y := t.clc.compartments.get n
           let pick : CompControl → (CompartmentConfig → Nat) → Nat := fun k g =>
             ((s.clc.compartments.list.filter (·.config.control == k)).map (g ·.config)).sum
           let rest := (s.point 6).value.toNat * s.clc.config.specificAir / 10
             - pick .fixed fun c => c.fixedSpeed * c.capacity / 1000
           let weights := pick .auto (·.weight)
           let asked := (if weights = 0 then 0 else rest * x.config.weight / weights) * 1000 / x.config.capacity
           let shared := min 1000 (max x.config.minSpeed asked)
           y.config = x.config ∧ y.manualSpeed = x.manualSpeed
           ∧ (∀ p : PointNo, p.val = n.val + 8 → y.pressure = (s.point p).value
               ∧ y.pressureQuality = (s.point p).quality)
           ∧ (x.config.control = .fixed → y.speed = x.config.fixedSpeed
               ∧ (t.clc.mode = .normal ∨ t.clc.mode = .flush → y.airShort = x.airShort))
           ∧ (t.clc.mode = .idle ∨ t.clc.mode = .manual → y.airShort = false)
           ∧ (t.clc.mode = .held → y.airShort = x.airShort)
           ∧ (x.config.control = .auto →
               (t.clc.mode = .idle → y.speed = x.config.minSpeed)
               ∧ (t.clc.mode = .manual → y.speed = x.manualSpeed)
               ∧ (t.clc.mode = .held → y.speed = x.speed)
               ∧ (t.clc.mode = .normal → y.speed = shared ∧ y.airShort = decide (1000 < asked))
               ∧ (t.clc.mode = .flush → y.speed = (if n.val < 3 then 1000 else shared)
                   ∧ y.airShort = decide (1000 < asked))))
       ∧ t.clc.reportedHeld = (t.clc.mode == .held)
       ∧ t.clc.reportedFlush = t.clc.flushTimer.isSome
       ∧ (t.clc.reportedAirShort = true ↔ ∃ n, (t.clc.compartments.get n).airShort = true))

/-! ### Alarms -/

/-- ACK_ALARM on an unacknowledged active record marks it with the port and clears its flag, and on a
cleared one retires it (R133); ACK_ALL where some record waits for it answers with how many it acknowledged
and retired (R134; the order within it is log entry 12). -/
def Obligations.AcknowledgementsAct : Prop :=
  (∀ (p : Port) (q : Byte) (f : List Byte) (s : State) (i : SlotNo) (r : AlarmRecord),
     Ready .ackAlarm p f s → field f 0 1 = i.val → s.alt.record i = some r →
     field f 1 1 = (s.alt.slots.get i).generation → field f 1 1 ≠ 0 →
     (r.state = .activeUnack →
       exec (.ackAlarm p q f) s = .next (delivered .ackAlarm p q f ⟨.ok, u8 2,
         State.settle ((s.taking p).setAlt (s.alt.rewrite i { r with
           state := .activeAcked, ackedBy := some p, annunciate := false
           changeStamp := s.sht.stamp, markControl := true, markPanel := true }))⟩))
     ∧ (r.state = .clearedUnack →
       exec (.ackAlarm p q f) s
         = .next (delivered .ackAlarm p q f ⟨.ok, u8 0, ((s.taking p).retire i).settle⟩)))
  ∧ (∀ (p : Port) (q : Byte) (f : List Byte) (s : State), Ready .ackAll p f s →
       s.alt.slotsIn .activeUnack ≠ [] ∨ s.alt.slotsIn .clearedUnack ≠ [] →
       exec (.ackAll p q f) s = .next (delivered .ackAll p q f
         (let t := (s.taking p).ackAll
          let late := t.retiredAmong (s.alt.slotsIn .activeUnack)
          ⟨.ok, u16 ((s.alt.slotsIn .activeUnack).length - late)
             ++ u16 ((s.alt.slotsIn .clearedUnack).length + late), t⟩)))

/-- SHELVE, UNSHELVE, SILENCE, COLLECT_ALARMS and SET_TRIP_ENTRY where their checks pass (R135, R136, R140,
R144, R145), and what the trip map does.  A report that leaves an identity present at a level brings its entries
into force whose minimum the level meets, and each holds or trips the channels it names (`acted`); one that goes
takes its entries out of force, and their channels lose the identity from their alarm holds (`freed`), where the
last hold of a holding channel resumes it (R141, R52, R56).  SET_TRIP_ENTRY takes the old entry out of force, writes
the new one, brings it into force where it is due, and ends the shelving of its identity's record (R142).  That no
list of alarm holds holds an identity twice and that no two records hold one identity are invariants
(`TripMapAgrees`, `AlarmTable.Sound`).  That a new identity stands last in its list, the bytes of a collection, and
the bytes of a SET_TRIP_ENTRY that are not read are the model's choices (log entries 38, 6, 26 and 20). -/
def Obligations.AlarmRequestsAct : Prop :=
  (∀ (p : Port) (q : Byte) (f : List Byte) (s : State),
     (∀ (i : SlotNo) (r : AlarmRecord), field f 0 1 = i.val → s.alt.record i = some r →
       field f 1 1 = (s.alt.slots.get i).generation → field f 1 1 ≠ 0 →
       (Ready .shelve p f s → 1 ≤ field f 2 2 → r.state ≠ .clearedUnack → s.alt.mayShelve r = true →
         exec (.shelve p q f) s = .next (delivered .shelve p q f
           ⟨if 480 < field f 2 2 then .okClamped else .ok, [],
            State.settle ((s.taking p).setAlt (s.alt.rewrite i { r with
              shelvedUntil := some (60 * min 480 (field f 2 2))
              changeStamp := s.sht.stamp, markControl := true, markPanel := true }))⟩))
       ∧ (Ready .unshelve p f s → r.shelvedUntil.isSome = true →
         exec (.unshelve p q f) s = .next (delivered .unshelve p q f ⟨.ok, [],
           State.settle ((s.taking p).setAlt (s.alt.rewrite i { r with
             shelvedUntil := none, state := .activeUnack, ackedBy := none, annunciate := true
             changeStamp := s.sht.stamp, markControl := true, markPanel := true }))⟩)))
     ∧ (Ready .silence p f s → (∃ i r, s.alt.record i = some r ∧ r.annunciate = true) →
       exec (.silence p q f) s = .next (delivered .silence p q f ⟨.ok, [],
         State.settle ((s.taking p).setAlt { s.alt with
           slots := s.alt.slots.map (AlarmSlot.silenced s.sht.stamp) })⟩)))
  ∧ (∀ (p : Port) (q : Byte) (f : List Byte) (s : State),
       (Ready .collectAlarms p f s →
         exec (.collectAlarms p q f) s = .next (delivered .collectAlarms p q f
           ⟨.ok, listOf (fun i => collectionEntry i (s.alt.slots.get i)) ((s.alt.marked p).take 6)
               ++ u16 ((s.alt.marked p).length - 6),
            State.settle ((s.taking p).setAlt (s.alt.collect p))⟩))
       ∧ (∀ e x, Ready .setTripEntry p f s → s.acu.isOpen = true → entry? (field f 0 1) = some e →
         tripContents? (f.drop 1) = some x →
         exec (.setTripEntry p q f) s
           = .next (delivered .setTripEntry p q f ⟨.ok, [], ((s.taking p).replaceEntry e x).startOpenTimer⟩)))
  ∧ (let acted : Identity → Bool → Bool → ChannelRecord → ChannelRecord := fun id hold trip r =>
       let stops := hold && (r.state == .starting || r.state == .running)
       let trips := trip && r.state.active
       { r with
         alarmHolds := if hold && !r.alarmHolds.contains id then r.alarmHolds ++ [id] else r.alarmHolds
         holds := { r.holds with alarm := r.holds.alarm || hold }
         state := if trips then .tripped else if stops then .holding else r.state
         startTimer := if trips || stops then none else r.startTimer
         tripCause := if trips then some (.alarm id) else r.tripCause }
     let freed : Option Identity → ChannelRecord → ChannelRecord := fun x r =>
       match x with
       | none => r
       | some id =>
         let left := r.alarmHolds.erase id
         let resumes := r.state == .holding && !r.holds.operator && !r.holds.controlLost && left.isEmpty
         { r with
           alarmHolds := left
           holds := { r.holds with alarm := !left.isEmpty }
           state := if resumes then .running else r.state
           startTimer := if resumes then none else r.startTimer }
     let driven : Chan → ChannelRecord → ChannelRecord → State → State → Prop := fun c r x s t =>
       let trips := x.state == .tripped && (s.chan c).state != .tripped
       let raised := r.state == .running && (s.chan c).state == .holding && s.setpoint c < r.minFlow
       t.chan c = x
       ∧ t.setpoint c = (if trips then 0 else if raised then r.minFlow else s.setpoint c)
       ∧ t.fsc.target.get c = (if trips then 0 else s.fsc.target.get c)
       ∧ t.feeder c = (if trips then { s.feeder c with
             appliedRate := 0, pendingRate := 0, stallWindow := none, expectedSum := 0, countedMass := 0 }
           else if raised then { s.feeder c with pendingRate := rateOf (s.feeder c) r.minFlow }
           else s.feeder c)
     let names : TripAction → Chan → Location → Bool := fun a c l =>
       a == .tripChannel c || a == .tripLocation l || a == .tripAll
     (∀ (s t : State) (id : Identity) (l : Option Level) (prio : Priority), id ≠ .system .tableFull →
        t = s.levelChanges id l prio
          ∨ (t = s.comes id l prio ∧ ∀ k, s.alt.condition id = some k → k.level ≠ l) →
        let due : EntryNo → (TripAction → Bool) → Bool := fun e p =>
          let x := s.alt.tripMap.get e
          !x.inForce && x.rule.any fun r =>
            r.identity == id && (r.minLevel == .any || l == some .crit) && p r.action
        (∀ e, t.alt.tripMap.get e = { s.alt.tripMap.get e with
          inForce := (s.alt.tripMap.get e).inForce || due e fun _ => true })
        ∧ ∀ c, driven c (s.chan c) (acted id ((List.finRange 16).any fun e => due e (· == .holdChannel c))
            ((List.finRange 16).any fun e => due e fun a => names a c (s.chan c).config.location) (s.chan c)) s t)
     ∧ (∀ (s : State) (id : Identity), s.alt.isPresent id = true → (∀ c, (s.chan c).alarmHolds.Nodup) →
        let t := s.goes id
        let mine : EntryNo → (TripAction → Bool) → Bool := fun e p =>
          (s.alt.tripMap.get e).inForce
            && (s.alt.tripMap.get e).rule.any fun r => r.identity == id && p r.action
        (∀ e, t.alt.tripMap.get e = { s.alt.tripMap.get e with
          inForce := (s.alt.tripMap.get e).inForce && !mine e fun _ => true })
        ∧ ∀ c,
          let r := freed (if (s.chan c).alarmHolds.contains id
            && (List.finRange 16).any fun e => mine e (· == .holdChannel c) then some id else none) (s.chan c)
          driven c r r s t)
     ∧ ∀ (s : State) (e : EntryNo) (x : Option TripRule), (∀ c, (s.chan c).alarmHolds.Nodup) →
        (∀ i j r r', s.alt.record i = some r → s.alt.record j = some r' → r.identity = r'.identity → i = j) →
        let t := s.replaceEntry e x
        let due : (TripAction → Bool) → Bool := fun p => x.any fun r => p r.action
          && (s.alt.condition r.identity).any fun k => r.minLevel == .any || k.level == some .crit
        let holds : EntryNo → Identity → Chan → Bool := fun o id c =>
          (s.alt.tripMap.get o).inForce
            && (s.alt.tripMap.get o).rule.any fun r => r.identity == id && r.action == .holdChannel c
        t.alt.tripMap.get e = { rule := x, inForce := due fun _ => true }
        ∧ (∀ o, o ≠ e → t.alt.tripMap.get o = s.alt.tripMap.get o)
        ∧ (∀ i, t.alt.record i = (s.alt.record i).map fun r =>
            if x.any (·.identity == r.identity) && r.shelvedUntil.isSome then { r with
              shelvedUntil := none, state := .activeUnack, ackedBy := none, annunciate := true
              changeStamp := s.sht.stamp, markControl := true, markPanel := true } else r)
        ∧ ∀ c,
          let out := ((s.alt.tripMap.get e).rule.map (·.identity)).filter fun id =>
            holds e id c && (s.chan c).alarmHolds.contains id
              && (List.finRange 16).all fun o => o == e || !holds o id c
          let r := freed out (s.chan c)
          driven c r (match x with
            | none => r
            | some y => acted y.identity (due (· == .holdChannel c))
                (due fun a => names a c r.config.location) r) s t)

/-- After a SILENCE the horn is off and every record keeps what names and ranks it (R144); a collection
clears the marks of the slots it returns and of no other, and leaves the other port's marks and every live
record's other fields (R145). -/
def Obligations.AlarmRecordsAreKept : Prop :=
  (∀ (a : AlarmTable) (stamp : Option Stamp) (i : SlotNo),
     (AlarmTable.settled { a with slots := a.slots.map (AlarmSlot.silenced stamp) }).horn = false
     ∧ (AlarmTable.record { a with slots := a.slots.map (AlarmSlot.silenced stamp) } i).map
         (fun r => (r.identity, r.level, r.priority, r.state, r.shelvedUntil))
       = (a.record i).map fun r => (r.identity, r.level, r.priority, r.state, r.shelvedUntil))
  ∧ (∀ (a : AlarmTable) (p o : Port) (i : SlotNo), p ≠ o →
       (i ∈ (a.marked p).take 6 → ((a.collect p).slots.get i).mark p = false)
       ∧ (i ∉ (a.marked p).take 6 → (a.collect p).slots.get i = a.slots.get i)
       ∧ ((a.collect p).slots.get i).mark o = (a.slots.get i).mark o
       ∧ ((a.collect p).record i).map (fun r => { r with markControl := false, markPanel := false })
           = (a.record i).map fun r => { r with markControl := false, markPanel := false })

/-! ### Clock, shifts -/

/-- SET_CLOCK, SET_SHIFT_PLAN, SHIFT_CLOSE, RELEASE_SHIFT and CORRECT_SHIFT where their checks pass (R152,
R153, R161 to R163): a report released before it was collected drops its claim on the attention output, and
a release runs a deferred close.  That the specific heat is answered in six bytes is the model's choice (log
entry 6). -/
def Obligations.ShiftRequestsAct : Prop :=
  ∀ (p : Port) (q : Byte) (f : List Byte) (s : State),
    (Ready .setClock p f s → field f 0 2 ≤ 65535 → field f 2 4 ≤ 86399 →
      exec (.setClock p q f) s = .next (delivered .setClock p q f ⟨.ok, [],
        { s.taking p with sht := { s.sht with
          clock := some ⟨field f 0 2, field f 2 4⟩
          current := { s.sht.current with
            start := some (s.sht.current.start.getD ⟨field f 0 2, field f 2 4, s.sht.current.number⟩) } } }⟩))
    ∧ (Ready .setShiftPlan p f s → field f 0 2 = 360 ∨ field f 0 2 = 480 ∨ field f 0 2 = 720 →
      field f 2 2 ≤ 1439 →
      exec (.setShiftPlan p q f) s = .next (delivered .setShiftPlan p q f ⟨.ok, [],
        { s.taking p with sht := { s.sht with plan := ⟨field f 0 2, field f 2 2⟩ } }⟩))
    ∧ (Ready .shiftClose p f s → s.sht.held = none →
      exec (.shiftClose p q f) s = .next (delivered .shiftClose p q f
        ⟨.ok, u16 s.sht.current.number, (s.taking p).closeShift⟩))
    ∧ (∀ t, Ready .releaseShift p f s → s.sht.held = some t → t.number = field f 0 2 →
      s.sht.current.overrun = false → t.collected = true →
      exec (.releaseShift p q f) s = .next (delivered .releaseShift p q f
        ⟨.ok, [0#8], { s.taking p with sht := { s.sht with held := none } }⟩))
    ∧ (∀ t, Ready .releaseShift p f s → s.sht.held = some t → t.number = field f 0 2 →
      s.sht.current.overrun = false → t.collected = false →
      exec (.releaseShift p q f) s = .next (delivered .releaseShift p q f
        ⟨.ok, [0#8], { s.taking p with
          sht := { s.sht with held := none }
          alt := AlarmTable.settled { s.alt with reportWaiting := false } }⟩))
    ∧ (∀ t, Ready .releaseShift p f s → s.sht.held = some t → t.number = field f 0 2 →
      s.sht.current.overrun = true →
      exec (.releaseShift p q f) s = .next (delivered .releaseShift p q f
        ⟨.ok, 1#8 :: u16 s.sht.current.number, ((s.taking p).freeHeld t).closeShift⟩))
    ∧ (∀ t, Ready .correctShift p f s → s.sht.held = some t → t.number = field f 0 2 →
      field f 2 6 ≤ 281474976710655 →
      exec (.correctShift p q f) s = .next (delivered .correctShift p q f
        (let x := if field f 2 6 = 0 then none else some ((t.heatMain + t.heatCalc) / field f 2 6)
         ⟨.ok, opt u48 x, { s.taking p with sht := { s.sht with
            held := some { t with clinker := field f 2 6, corrected := true, specificHeat := x } } }⟩)))

/-- The close operation (R160): the open record is held with every tally as it stood, the end stamp, the two
computed figures, its overrun flag and neither read marks nor corrected flag; a record of the next number
opens at the stamp with every tally 0 (R154); a report waits; the residues run on. -/
def Obligations.CloseMovesTheOpenRecord : Prop :=
  ∀ (s : State) (r : Tally) (n : Nat), s.sht.current = r → n = (if r.number < 65535 then r.number + 1 else 1) →
    s.closeShift.sht.held = some
      { number := r.number, start := r.start, finish := s.sht.stamp, overrun := r.overrun
        channels := r.channels, unassigned := r.unassigned
        heatMain := r.heatMain, heatCalc := r.heatCalc, heatAlt := r.heatAlt
        lots := r.lots, otherLots := r.otherLots, otherKg := r.otherKg
        came := r.came, modes := r.modes, clinker := r.clinker, missing := r.missing
        substitution := some (if r.heatMain + r.heatCalc = 0 then 0
                              else r.heatAlt * 1000 / (r.heatMain + r.heatCalc))
        specificHeat := if r.clinker = 0 then none else some ((r.heatMain + r.heatCalc) / r.clinker)
        corrected := false, readSummary := false, readChannels := false, readLots := false }
    ∧ s.closeShift.sht.current
      = { number := n, start := s.sht.clock.map fun k => ⟨k.day, k.secs, n⟩, finish := none, overrun := false
          channels := Tbl.all 6 ⟨0, 0, 0, 0, 0, 0⟩, unassigned := 0, heatMain := 0, heatCalc := 0, heatAlt := 0
          lots := [], otherLots := 0, otherKg := 0, came := ⟨0, 0, 0, 0⟩, modes := ⟨0, 0, 0, 0, 0⟩
          clinker := 0, missing := 0, substitution := none, specificHeat := none, corrected := false
          readSummary := false, readChannels := false, readLots := false }
    ∧ s.closeShift.sht.clinkerResidue = s.sht.clinkerResidue
    ∧ s.closeShift.sht.chlorineResidue = s.sht.chlorineResidue
    ∧ s.closeShift.sht.sulfurResidue = s.sht.sulfurResidue
    ∧ (∀ c, s.closeShift.sht.lastTags.get c = none)
    ∧ s.closeShift.sht.clock = s.sht.clock ∧ s.closeShift.sht.plan = s.sht.plan
    ∧ s.closeShift.alt.reportWaiting = true ∧ s.closeShift.alt.attention = true

/-- At an expiry of the shift timer one cooler mode second and one clinker second, integrated or missing, join
the open record, the clinker residue keeps the grams, and a set clock moves one second on (R151, R158).  Where
the clock reaches a boundary, the open record so sampled closes into an empty held slot, and its close is
deferred by the overrun flag while a report is held (R159). -/
def Obligations.ShiftSecondIsCounted : Prop :=
  ∀ s : State, s.phase = .running →
    (∀ k, s.sht.clock = some k → s.sht.plan.isBoundary ((k.secs + 1) % 86400) = false → k.secs < 86400 →
      k.day < 65536 →
      ∃ t, exec .shiftTimerExpiry s = .next t
        ∧ t.sht.clock = some ⟨(k.day + (k.secs + 1) / 86400) % 65536, (k.secs + 1) % 86400⟩
        ∧ t = { s.after with sht := { s.sampled with clock := t.sht.clock } })
    ∧ (∀ k u, s.sht.clock = some k → s.sht.plan.isBoundary ((k.secs + 1) % 86400) = true → k.secs < 86400 →
      k.day < 65536 →
      u = { s.sampled with
        clock := some ⟨(k.day + (k.secs + 1) / 86400) % 65536, (k.secs + 1) % 86400⟩ } →
      (s.sht.held = none → exec .shiftTimerExpiry s = .next (State.closeShift { s with sht := u }).after)
      ∧ (s.sht.held.isSome = true → exec .shiftTimerExpiry s = .next { s.after with
          sht := { u with current := { u.current with overrun := true } } }))
    ∧ (s.sht.clock = none → exec .shiftTimerExpiry s = .next { s.after with sht := s.sampled })
    ∧ (let n := s.sampled.current.modes
       let m := s.sht.current.modes
       n.idle + n.normal + n.flush + n.held + n.manual = m.idle + m.normal + m.flush + m.held + m.manual + 1)
    ∧ ((s.point 6).quality = .good → s.sampled.current.missing = s.sht.current.missing
        ∧ s.sampled.current.clinker * 3600 + s.sampled.clinkerResidue
          = s.sht.current.clinker * 3600 + s.sht.clinkerResidue + (s.point 6).value.toNat * 100)
    ∧ ((s.point 6).quality ≠ .good → s.sampled.current.missing = s.sht.current.missing + 1
        ∧ s.sampled.current.clinker = s.sht.current.clinker)

/-! ### Access -/

/-- ACCESS_OPEN, ACCESS_CLOSE and SET_ACCESS_WORD where their checks pass (R169, R171, R173); a wrong word
below the limit steps the count, the third closes access, sets the lockout and raises SYSTEM/ACCESS_LOCKED,
and under the lockout no word is compared (R169, R170). -/
def Obligations.AccessRequestsAct : Prop :=
  (∀ (p : Port) (q : Byte) (f : List Byte) (s : State),
     (Ready .accessOpen p f s → s.acu.lockout = false →
       s.acu.word = BitVec.allOnes 64 ∨ wordOf f = s.acu.word →
       exec (.accessOpen p q f) s = .next (delivered .accessOpen p q f ⟨.ok, [],
         { s.taking p with acu := { s.acu with mismatches := 0, openTimer := some ⟨1800, s.moment⟩ } }⟩))
     ∧ (Ready .accessClose p f s → s.acu.isOpen = true →
       exec (.accessClose p q f) s = .next (delivered .accessClose p q f ⟨.ok, [],
         { s.taking p with acu := { s.acu with openTimer := none } }⟩))
     ∧ (Ready .setAccessWord p f s → s.acu.isOpen = true →
       exec (.setAccessWord p q f) s = .next (delivered .setAccessWord p q f ⟨.ok, [],
         { s.taking p with acu := { s.acu with word := wordOf f, openTimer := some ⟨1800, s.moment⟩ } }⟩)))
  ∧ (∀ (p : Port) (q : Byte) (f : List Byte) (s : State), Ready .accessOpen p f s →
       (s.acu.lockout = true →
         exec (.accessOpen p q f) s = .next (delivered .accessOpen p q f ⟨.accessLocked, [], s.taking p⟩))
       ∧ (s.acu.lockout = false → s.acu.word ≠ BitVec.allOnes 64 → wordOf f ≠ s.acu.word →
         (s.acu.mismatches < 2 →
           exec (.accessOpen p q f) s = .next (delivered .accessOpen p q f ⟨.accessDenied, [],
             { s.taking p with acu := { s.acu with mismatches := s.acu.mismatches + 1 } }⟩))
         ∧ (2 ≤ s.acu.mismatches →
           exec (.accessOpen p q f) s = .next (delivered .accessOpen p q f ⟨.accessLocked, [],
             State.comes (.system .accessLocked) none .low { s.taking p with acu := { s.acu with
               openTimer := none, mismatches := 3, lockout := true, reportedLocked := true } }⟩))))

/-- While engineering access is closed a protected request that passes the acceptance checks is refused with
ACCESS_REQUIRED and changes nothing but the link (R172). -/
def Obligations.ProtectedNeedsAccess : Prop :=
  ∀ (k : Kind) (p : Port) (q : Byte) (f : List Byte) (s : State), Ready k p f s → s.acu.isOpen = false →
    k ∈ [.setClCeiling, .setCreditParams, .setTripEntry, .setAccessWord]
      ∨ (k ∈ [.setChannelFuel, .setLotClLimit, .setFlowLimits, .setCalibration]
          ∧ (chan? (field f 0 1)).isSome = true)
      ∨ ((k = .setLimits ∨ (k = .setProtectMark ∧ field f 1 1 = 0))
          ∧ ∃ n, point? (field f 0 1) = some n ∧ (s.point n).config.protect = true) →
    exec (k.instr p q f) s = .next (delivered k p q f ⟨.accessRequired, [], s.taking p⟩)

/-! ### Store, start and restart -/

/-- SAVE_SETTINGS takes the settings in force and WARM_RESTART answers with the reset cause record (R194,
R198); power, the reset input, the end of the start-up phase, with the trip input asserted or not, and the
completion of a save (R64, R195 to R197).  POWER_ON and PIN_RESET in any phase, the restart's order, the
completion's operand and the spoiled image, and what a part without work keeps are the model's choices (log
entries 3, 14, 15 and 21). -/
def Obligations.StoreAndPowerAct : Prop :=
  (∀ (p : Port) (q : Byte) (f : List Byte) (s : State),
     (Ready .saveSettings p f s →
       exec (.saveSettings p q f) s = .next (delivered .saveSettings p q f ⟨.ok, [],
         { s.taking p with sst := { s.sst with inFlight := some s.settings } }⟩))
     ∧ (Ready .warmRestart p f s →
       exec (.warmRestart p q f) s = .next (delivered .warmRestart p q f
         ⟨.ok, [2#8, if ∃ c, (s.chan c).state ≠ .off then 1#8 else 0#8], (s.taking p).warmRestart⟩)))
  ∧ (∀ s : State,
       exec .powerOn s = .next ((s.halt .off).start .powerOn).after
       ∧ (s.phase ≠ .off → exec .pinReset s = .next ((s.halt .held).start .pin).after)
       ∧ (s.phase = .off → exec .pinReset s = .next ((s.halt .off).start .powerOn).after)
       ∧ (s.phase ≠ .off → exec .resetAssert s = .next (s.halt .held).after)
       ∧ exec .powerLoss s = .next (s.halt .off).after
       ∧ (s.phase = .startUp → s.tripLine = false →
         exec .startUpEnd s = .next { s with
           moment := s.moment + 1
           phase := .running
           chc := { s.chc with supervision := { s.chc.supervision with
             link := .live, holdTimer := none
             supervisionTimer := some ⟨s.chc.supervision.supervisionTime, s.moment⟩ } } })
       ∧ (s.phase = .startUp → s.tripLine = true →
         exec .startUpEnd s = .next (State.after (State.comes (.system .tripIn) none .critical
           (State.tripEvery .tripLine { s with
             phase := .running
             chc := { s.chc with supervision := { s.chc.supervision with
               link := .live, holdTimer := none
               supervisionTimer := some ⟨s.chc.supervision.supervisionTime, s.moment⟩ } } }))))
       ∧ (∀ st, s.sst.inFlight = some st →
         exec (.saveCompletion true) s = .next (State.after (State.reconcileStore { s with
           sst := { s.sst with image := .written st st.check, imageValid := true, inFlight := none
                               lastResult := .done } }))
         ∧ exec (.saveCompletion false) s = .next (State.after (State.reconcileStore { s with
           sst := { s.sst with image := .spoiled, imageValid := false, inFlight := none
                               lastResult := .failed } }))))

/-- What a warm restart leaves: every channel undriven without an operator hold, the cooler idle, access
closed; the settings in force, the lots, the image, the clock and the access lockout as they were (R17, R41,
R85, R103, R124, R167, R177, R198).  Every channel is off where the trip input is not asserted; where it is,
every channel is tripped with its cause and SYSTEM/TRIP_IN is present (R65). -/
def Obligations.WarmRestartIsSafe : Prop :=
  (∀ s : State,
     (∀ c, (s.warmRestart.chan c).holds.operator = false
       ∧ s.warmRestart.setpoint c = 0 ∧ s.warmRestart.fsc.target.get c = 0
       ∧ (s.warmRestart.feeder c).pendingRate = 0 ∧ (s.warmRestart.feeder c).appliedRate = 0
       ∧ (s.warmRestart.chan c).fed = (s.chan c).fed)
     ∧ s.warmRestart.clc.mode = .idle ∧ s.warmRestart.acu.isOpen = false
     ∧ s.warmRestart.settings = s.settings ∧ s.warmRestart.lrg = s.lrg
     ∧ s.warmRestart.sst.image = s.sst.image ∧ s.warmRestart.sht.clock = s.sht.clock
     ∧ s.warmRestart.acu.lockout = s.acu.lockout ∧ s.warmRestart.fsc.demandMain = s.fsc.demandMain)
  ∧ (∀ s : State, s.tripLine = false → ∀ c,
       (s.warmRestart.chan c).state = .off ∧ (s.warmRestart.chan c).tripCause = none)
  ∧ (∀ s : State, s.tripLine = true →
       (∀ c, (s.warmRestart.chan c).state = .tripped ∧ (s.warmRestart.chan c).tripCause = some .tripLine)
       ∧ s.warmRestart.alt.isPresent (.system .tripIn) = true ∧ s.warmRestart.tripLine = true)

/-- What POWER_ON leaves, from any state: every channel off and undriven with its counters at 0, every point
at 0 with PQ_BAD, no lot, demands at 0, the cooler idle, the clock unset in shift 1, access closed without
lockout, empty ports with counts of 0, and the reset cause (R16, R40, R64, R84, R102, R123, R166, R176, R191,
R197).  That POWER_ON may find the part powered, and that it keeps the queue and the trip line, is the model's
choice (log entry 3), and so is the live link before the end of the start-up phase (log entry 36). -/
def Obligations.PowerOnLeavesTheStartValues : Prop :=
  ∀ s t : State, exec .powerOn s = .next t →
    t.phase = .startUp ∧ t.pending = s.pending ∧ t.tripLine = s.tripLine
    ∧ (∀ c, (t.chan c).state = .off ∧ (t.chan c).tripCause = none ∧ (t.chan c).startTimer = none
        ∧ (t.chan c).stagedLimits = none ∧ (t.chan c).stagedCalibration = none
        ∧ (t.chan c).holds.operator = false ∧ (t.chan c).holds.controlLost = false
        ∧ (t.chan c).fed = 0 ∧ (t.chan c).debited = 0 ∧ (t.chan c).unassigned = 0)
    ∧ (∀ c, t.setpoint c = 0 ∧ t.fsc.target.get c = 0 ∧ (t.feeder c).pendingRate = 0
        ∧ (t.feeder c).appliedRate = 0 ∧ (t.feeder c).trim = 1000 ∧ (t.feeder c).residue = 0
        ∧ (t.feeder c).pulses = 0 ∧ (t.feeder c).stallTime = 10 ∧ (t.feeder c).stallWindow = none)
    ∧ (∀ p, (t.point p).value = 0 ∧ (t.point p).quality = .bad ∧ (t.point p).age = 255
        ∧ (t.point p).band = .normal)
    ∧ (∀ i, t.lrg.lots.get i = ⟨0, none⟩)
    ∧ (∀ c, t.lrg.queues.get c = [] ∧ t.lrg.overdrawn.get c = false)
    ∧ t.fsc.demandMain = 0 ∧ t.fsc.demandCalc = 0 ∧ t.fsc.lastCredit = 0 ∧ t.fsc.flushCap = none
    ∧ t.chc.supervision.link = .live ∧ t.chc.supervision.supervisionTimer = none
    ∧ t.clc.mode = .idle ∧ t.clc.grate = t.clc.config.grateMin ∧ t.clc.flushTimer = none
    ∧ t.clc.previousP8 = none
    ∧ t.sht.clock = none ∧ t.sht.current.number = 1 ∧ t.sht.held = none
    ∧ t.acu.isOpen = false ∧ t.acu.lockout = false ∧ t.acu.mismatches = 0
    ∧ t.control = ⟨none, 0, 0, 0, []⟩ ∧ t.panel = ⟨.hunt, none, none, 0, 0, 0⟩
    ∧ t.sst.cause = .powerOn ∧ t.sst.unclean = false ∧ t.sst.inFlight = none ∧ t.sst.lastResult = .none

/-- Settings saved and held by the store come back whole after an assertion of the reset input and its
release; a save cut off by loss of power leaves none: the next power-on takes every default and raises
SYSTEM/STORE_FAULT (R195, R196). -/
def Obligations.SettingsSurviveOrDefault : Prop :=
  (∀ (s t u v : State) (st : Settings), s.phase = .running → s.sst.inFlight = some st →
     exec (.saveCompletion true) s = .next t → exec .resetAssert t = .next u →
     exec .pinReset u = .next v →
     v.settings = st ∧ v.phase = .startUp ∧ v.sst.imageValid = true ∧ v.sst.cause = .pin
     ∧ v.sst.reportedFault = false)
  ∧ (∀ (s t u : State), s.sst.inFlight.isSome = true → exec .powerLoss s = .next t →
       exec .powerOn t = .next u →
       u.settings = Settings.default ∧ u.sst.imageValid = false ∧ u.sst.reportedFault = true
       ∧ u.alt.isPresent (.system .storeFault) = true ∧ u.alt.horn = true
       ∧ (∀ c, (u.chan c).pairState = .none) ∧ u.acu.word = BitVec.allOnes 64)

/-! ### Links -/

/-- What the acceptance checks refuse, on both ports, for every request of the catalogue: BUSY in the start-up
phase (R196); in a running part NOT_PERMITTED for a kind the panel may not send (R186), OUT_OF_RANGE for a wrong
payload length, and BUSY while a save is in flight for a kind that Table 10.4 marks, of which the panel may send
none; each hands its refresh (R185).  No refusal reaches a block.  A panel request that meets a sending transmitter
waits, or is dropped and counted (R184).  Keeping the bytes shifted out in a field is the model's choice (log entry
19). -/
def Obligations.PortsAnswerWhatTheyRefuse : Prop :=
  let written : Kind → Status → Byte → List Byte → State → State := fun k st q f s =>
    { s with control := { s.control with
      buffer := some ⟨k.code, st, q, []⟩
      taken := (s.control.taken + 1) % 4294967296
      discardedResponses := if s.control.buffer.isSome
        then min 65535 (s.control.discardedResponses + 1) else s.control.discardedResponses
      dataOut := List.replicate (f.length + 6) 0#8 } }
  let sent : Kind → Status → Byte → State → State := fun k st q s =>
    { s with panel := { s.panel with
      receiver := .hunt
      sending := some ⟨k.code, st, q, []⟩
      taken := (s.panel.taken + 1) % 4294967296 } }
  (∀ (k : Kind) (q : Byte) (f : List Byte) (s : State), s.phase = .startUp →
     exec (k.instr .control q f) s = .next (written k .busy q f s).after
     ∧ (s.panel.sending = none → s.panel.held = none →
       exec (k.instr .panel q f) s = .next (sent k .busy q s).after))
  ∧ (∀ (k : Kind) (q : Byte) (f : List Byte) (s : State), s.phase = .running →
       (lengthOk k f = false →
         exec (k.instr .control q f) s = .next (written k .outOfRange q f s).refresh.after)
       ∧ (lengthOk k f = true → busyDuringSave k = true → s.sst.inFlight.isSome = true →
         exec (k.instr .control q f) s = .next (written k .busy q f s).refresh.after)
       ∧ (s.panel.sending = none → s.panel.held = none →
         (panelMay k = false → exec (k.instr .panel q f) s = .next (sent k .notPermitted q s).after)
         ∧ (panelMay k = true → busyDuringSave k = false)
         ∧ (panelMay k = true → lengthOk k f = false →
           exec (k.instr .panel q f) s = .next (sent k .outOfRange q s).after)))
  ∧ (∀ (k : Kind) (q : Byte) (f : List Byte) (s : State), s.phase = .startUp ∨ s.phase = .running →
       (s.panel.sending.isSome = true → s.panel.held = none →
         exec (k.instr .panel q f) s = .next (State.after { s with panel := { s.panel with
           receiver := .hunt, held := some (.checked k.code q f) } }))
       ∧ (s.panel.held.isSome = true →
         exec (k.instr .panel q f) s = .next (State.after { s with panel := { s.panel with
           receiver := .hunt, discardedFrames := min 65535 (s.panel.discardedFrames + 1) } })))

/-- The transfers of the control port that carry no request of the catalogue: an ignored one changes
nothing, a frame that fails its check is answered BAD_FRAME, counted, and hands no refresh, a read transfer
empties the buffer where it has clocked the whole response, and an unknown kind is answered so (R178, R181,
R182, R185).  Keeping the bytes shifted out in a field is the model's choice, and the first byte of a read
transfer is a free value of it (log entry 19). -/
def Obligations.ControlTransfersAct : Prop :=
  ∀ s : State, s.phase = .running →
    (∀ bytes, Instr.wellFormed (.ignoredTransfer bytes) = true →
      exec (.ignoredTransfer bytes) s = .next s.after)
    ∧ (∀ bytes, Instr.wellFormed (.controlBadFrame bytes) = true →
      exec (.controlBadFrame bytes) s = .next (State.after { s with control := { s.control with
        buffer := some ⟨0#8, .badFrame, 0#8, []⟩
        badFrames := min 65535 (s.control.badFrames + 1)
        discardedResponses := if s.control.buffer.isSome
          then min 65535 (s.control.discardedResponses + 1) else s.control.discardedResponses
        dataOut := List.replicate bytes.length 0#8 } }))
    ∧ (∀ n, s.control.buffer = none →
      exec (.controlReadTransfer n) s
        = .next (State.after { s with control := { s.control with 
        dataOut := Config.readFirstByte s.moment :: List.replicate n 0#8 } }))
    ∧ (∀ n r, s.control.buffer = some r → r.frame.length ≤ n →
      exec (.controlReadTransfer n) s = .next (State.after { s with control := { s.control with
        buffer := none
        dataOut := Config.readFirstByte s.moment :: (r.frame ++ List.replicate (n - r.frame.length) 0#8) } }))
    ∧ (∀ n r, s.control.buffer = some r → n < r.frame.length →
      exec (.controlReadTransfer n) s
        = .next (State.after { s with control := { s.control with 
        dataOut := Config.readFirstByte s.moment :: r.frame.take n } }))
    ∧ (∀ kind q f, Kind.ofCode kind = none →
      exec (.unknownRequest .control kind q f) s = .next (State.after (State.refresh { s with
        control := { s.control with
          buffer := some ⟨kind, .unknownRequest, q, []⟩
          taken := (s.control.taken + 1) % 4294967296
          discardedResponses := if s.control.buffer.isSome
            then min 65535 (s.control.discardedResponses + 1) else s.control.discardedResponses
          dataOut := List.replicate (f.length + 6) 0#8 } })))

/-- The panel port's own events: a failed frame is counted and answered BAD_FRAME, held or dropped, a gap ends
a frame that is being received, a frame finished while the transmitter sends waits, the transmitter takes the
held frame when it finishes, an unknown kind is answered so, and each byte moves the receiver: HUNT to LENGTH
by 0x5A alone, LENGTH to BODY by 4 to 250, BODY to its end, where the frame is failed or the request it is
(R183 to R185).  That a gap in HUNT changes nothing, that a failed frame is counted when it is finished, and
that whole frames are rows beside the bytes are the model's choices (log entries 5, 10 and 18). -/
def Obligations.PanelEventsAct : Prop :=
  (∀ s : State, s.phase = .running →
     (s.panel.sending = none → s.panel.held = none →
       exec .panelBadFrame s = .next (State.after { s with panel := { s.panel with
         receiver := .hunt
         sending := some ⟨0#8, .badFrame, 0#8, []⟩
         badFrames := min 65535 (s.panel.badFrames + 1) } }))
     ∧ (s.panel.sending.isSome = true → s.panel.held = none →
       exec .panelBadFrame s = .next (State.after { s with panel := { s.panel with
         receiver := .hunt, held := some .failed
         badFrames := min 65535 (s.panel.badFrames + 1) } }))
     ∧ (s.panel.held.isSome = true →
       exec .panelBadFrame s = .next (State.after { s with panel := { s.panel with
         receiver := .hunt
         badFrames := min 65535 (s.panel.badFrames + 1)
         discardedFrames := min 65535 (s.panel.discardedFrames + 1) } }))
     ∧ (s.panel.sending = none → s.panel.held = none → s.panel.receiver ≠ .hunt →
       exec .panelGapTimeout s = .next (State.after { s with panel := { s.panel with
         receiver := .hunt
         sending := some ⟨0#8, .badFrame, 0#8, []⟩
         badFrames := min 65535 (s.panel.badFrames + 1) } }))
     ∧ (s.panel.receiver ≠ .hunt → exec .panelGapTimeout s = exec .panelBadFrame s)
     ∧ (s.panel.receiver = .hunt → exec .panelGapTimeout s = .next s.after)
     ∧ (∀ kind q f, s.panel.sending.isSome = true → s.panel.held = none →
       exec (.panelFrameHold (.checked kind q f)) s
         = .next (State.after { s with panel := { s.panel with
             receiver := .hunt, held := some (.checked kind q f) } }))
     ∧ (s.panel.sending.isSome = true → s.panel.held = none →
       exec .panelTransmitDone s = .next (State.after { s with panel := { s.panel with sending := none } }))
     ∧ (∀ k q f, s.panel.sending.isSome = true → s.panel.held = some (.checked (Kind.code k) q f) →
       s.panel.receiver = .hunt →
       exec .panelTransmitDone s
         = exec (k.instr .panel q f) { s with panel := { s.panel with sending := none, held := none } })
     ∧ (∀ kind q f, Kind.ofCode kind = none →
       (s.panel.sending = none → s.panel.held = none →
         exec (.unknownRequest .panel kind q f) s = .next (State.after { s with panel := { s.panel with
           receiver := .hunt
           sending := some ⟨kind, .unknownRequest, q, []⟩
           taken := (s.panel.taken + 1) % 4294967296 } }))
       ∧ (s.panel.sending.isSome = true → s.panel.held = none →
         exec (.unknownRequest .panel kind q f) s = .next (State.after { s with panel := { s.panel with
           receiver := .hunt, held := some (.checked kind q f) } }))
       ∧ (s.panel.held.isSome = true →
         exec (.unknownRequest .panel kind q f) s = .next (State.after { s with panel := { s.panel with
           receiver := .hunt, discardedFrames := min 65535 (s.panel.discardedFrames + 1) } }))))
  ∧ (∀ (s : State) (b : Byte), s.phase = .running →
       (s.panel.receiver = .hunt →
         (b ≠ 0x5A#8 → exec (.panelReceiverByte b) s = .next s.after)
         ∧ (b = 0x5A#8 → exec (.panelReceiverByte b) s
             = .next (State.after { s with panel := { s.panel with receiver := .length } })))
       ∧ (s.panel.receiver = .length →
         (4 ≤ b.toNat → b.toNat ≤ 250 → exec (.panelReceiverByte b) s
             = .next (State.after { s with panel := { s.panel with receiver := .body b.toNat [] } }))
         ∧ (b.toNat < 4 ∨ 250 < b.toNat → exec (.panelReceiverByte b) s = exec .panelBadFrame s))
       ∧ (∀ n got, s.panel.receiver = .body n got →
         (got.length + 1 < n → exec (.panelReceiverByte b) s
             = .next (State.after { s with panel := { s.panel with receiver := .body n (got ++ [b]) } }))
         ∧ (n ≤ got.length + 1 → readFrame (BitVec.ofNat 8 n) (got ++ [b]) = .failed →
             exec (.panelReceiverByte b) s = exec .panelBadFrame s)
         ∧ (∀ k q f, n ≤ got.length + 1 →
             readFrame (BitVec.ofNat 8 n) (got ++ [b]) = .checked (Kind.code k) q f →
             exec (.panelReceiverByte b) s = exec (k.instr .panel q f) s)
         ∧ (∀ kind q f, n ≤ got.length + 1 →
             readFrame (BitVec.ofNat 8 n) (got ++ [b]) = .checked kind q f → Kind.ofCode kind = none →
             exec (.panelReceiverByte b) s = exec (.unknownRequest .panel kind q f) s)))

/-- The bytes of a request frame, one after another, make the panel's receiver hand on exactly that frame,
and as one control-port transfer they are the command of that request: every kind and every field, up to 246
field bytes (R178 to R181, R183). -/
def Obligations.FramesAreTheirRequest : Prop :=
  (∀ (kind q : Byte) (f : List Byte) (s : State), s.linked = true → s.panel.receiver = .hunt →
     f.length ≤ 246 →
     (requestFrame kind q f).foldl (fun x b => x.receiveByte b) s = s.panelFinished (.checked kind q f))
  ∧ (∀ (k : Kind) (q : Byte) (f : List Byte), f.length ≤ 246 →
       decodeTransfer (requestFrame k.code q f) = k.instr .control q f)

/-- The frame check (R180): from 0xFFFF, each byte most significant bit first, a shift by one place, and
0x1021 by exclusive-or where the bit shifted out differs from the data bit; it closes every frame and
response most significant byte first, and over 0x31 to 0x39 it ends at 0x29B1. -/
def Obligations.FrameCheckIsComputed : Prop :=
  crc16 [] = 0xFFFF#16
  ∧ (∀ (l : List Byte) (b : Byte), crc16 (l ++ [b])
      = [7, 6, 5, 4, 3, 2, 1, 0].foldl (fun (r : BitVec 16) n =>
          if r.getLsbD 15 = b.getLsbD n then r <<< 1 else (r <<< 1) ^^^ 0x1021#16) (crc16 l))
  ∧ crc16 [0x31#8, 0x32#8, 0x33#8, 0x34#8, 0x35#8, 0x36#8, 0x37#8, 0x38#8, 0x39#8] = 0x29B1#16
  ∧ (∀ (len kind seq : Byte) (fields : List Byte) (a b : Byte), fields.length + 4 = len.toNat →
      4 ≤ len.toNat → len.toNat ≤ 250 →
      (readFrame len (kind :: seq :: fields ++ [a, b]) = .checked kind seq fields
        ↔ a ++ b = crc16 (len :: kind :: seq :: fields)))
  ∧ ∀ r : Response, ∃ body, r.frame = 0x5A#8 :: body
      ++ [(crc16 body).extractLsb' 8 8, (crc16 body).extractLsb' 0 8]

/-! ### Control link, trip line, timers -/

/-- The expiry of the supervision timer of a live link holds the part: SYSTEM/CONTROL_LOST comes, access
closes, and starting, running and holding channels take HC_CONTROL_LOST (R59); a refresh taken while the
link is lost ends the loss (R61).  That the supervision timer stands stopped while the link is lost is the model's
choice (log entry 37). -/
def Obligations.LinkLossHoldsAndEnds : Prop :=
  (∀ s t : State, s.phase = .running → s.chc.supervision.link = .live →
     s.chc.supervision.supervisionTimer.isSome = true → exec .supervisionExpiry s = .next t →
     t.alt.isPresent (.system .controlLost) = true ∧ t.acu.isOpen = false
     ∧ t.chc.supervision.supervisionTimer = none
     ∧ (s.chc.supervision.holdTime ≠ 0 → t.chc.supervision.link = .lostHold
         ∧ t.chc.supervision.holdTimer = some ⟨s.chc.supervision.holdTime, s.moment⟩)
     ∧ (s.chc.supervision.holdTime = 0 → t.chc.supervision.link = .lostFallback)
     ∧ ∀ c, (t.chan c).state ≠ .starting ∧ (t.chan c).state ≠ .running
         ∧ ((t.chan c).state = .holding → (t.chan c).holds.controlLost = true))
  ∧ (∀ s : State, s.chc.supervision.link ≠ .live →
       s.refresh.chc.supervision.link = .live ∧ s.refresh.chc.supervision.holdTimer = none
       ∧ s.refresh.chc.supervision.supervisionTimer = some ⟨s.chc.supervision.supervisionTime, s.moment⟩
       ∧ s.refresh.alt.isPresent (.system .controlLost) = false ∧ s.refresh.acu = s.acu
       ∧ ∀ c, (s.refresh.chan c).holds.controlLost = false
           ∧ ((s.refresh.chan c).state = .holding → (s.refresh.chan c).holds.isEmpty = false))

/-- The trip input, the start timer, the supervision and hold timers, and the timers of points, shelves,
access and the shift, while the part runs (R5, R48, R54, R59, R60, R136, R158, R171); what an expiry of the
shift timer does is stated by `ShiftSecondIsCounted`.  A good or uncertain point whose age reaches its stale
limit turns PQ_STALE (R5); at the fallback an alternative channel held for the loss falls to its min flow at
once, and a conventional one stands, to fall with the firing periods (R60, `SetpointsMoveByState`); each second on
the shelf takes one from a record's time, and the last one unshelves it (R136).  The order of the trips, SHELF_TIME_EXPIRY, expiries of
timers that do not run, and a line asserted or deasserted twice are the model's choices (log entries 9, 13, 5
and 29); so is the order of points that turn stale together (log entry 31). -/
def Obligations.TimersAct : Prop :=
  (∀ s : State, s.phase = .running →
     exec .tripLineAssert s = .next (State.after (State.comes (.system .tripIn) none .critical
       (State.tripEvery .tripLine { s with tripLine := true })))
     ∧ exec .tripLineDeassert s = .next (State.after (State.goes (.system .tripIn) { s with tripLine := false }))
     ∧ (∀ c, (s.chan c).state = .starting → (s.chan c).startTimer.isSome = true →
       (s.chan c).minFlow ≤ s.setpoint c →
       exec (.startTimerExpiry c) s = .next (State.after
         (s.setChan c { s.chan c with state := .running, startTimer := none })))
     ∧ (∀ c, (s.chan c).state = .starting → (s.chan c).startTimer.isSome = true →
       s.setpoint c < (s.chan c).minFlow →
       exec (.startTimerExpiry c) s = .next (State.after
         ((s.setChan c { s.chan c with state := .running, startTimer := none }).drive c (s.chan c).minFlow)))
     ∧ (∀ c, (s.chan c).state ≠ .starting → exec (.startTimerExpiry c) s = .next s.after)
     ∧ (s.chc.supervision.link = .live → s.chc.supervision.supervisionTimer.isSome = true →
       exec .supervisionExpiry s = .next s.linkLost.after)
     ∧ (s.chc.supervision.link = .lostHold → s.chc.supervision.holdTimer.isSome = true →
       exec .holdTimerExpiry s = .next (State.after (allChans.foldl (fun x c => x.fallBack c)
         (s.setSupervision { s.chc.supervision with link := .lostFallback, holdTimer := none })))))
  ∧ (∀ s : State, s.phase = .running →
       exec .ageingExpiry s = .next (State.after ((List.finRange 48).foldl (fun x p => x.staleCheck p)
         { s with ptb := { s.ptb with
           points := s.ptb.points.map fun r => { r with age := min 255 (r.age + 1) } } }))
       ∧ exec .shelvingTimerExpiry s = .next (State.after (State.settle { s with alt := { s.alt with
           slots := s.alt.slots.map (AlarmSlot.shelfTick s.sht.stamp) } }))
       ∧ (∀ i r n, s.alt.record i = some r → r.shelvedUntil = some n → n ≤ 1 →
         exec (.shelfTimeExpiry i) s = .next (State.after (State.settle { s with
           alt := s.alt.rewrite i { r with
             shelvedUntil := none, state := .activeUnack, ackedBy := none, annunciate := true
             changeStamp := s.sht.stamp, markControl := true, markPanel := true } })))
       ∧ (∀ t, exec .ageingExpiry s = .next t → ∀ p,
         let r := s.point p
         let age := min 255 (r.age + 1)
         t.point p = { r with
           age := age
           quality := if r.config.staleLimit ≠ 0 ∧ r.config.staleLimit ≤ age
             ∧ (r.quality = .good ∨ r.quality = .uncertain) then .stale else r.quality
           reportedLo := (t.point p).reportedLo, reportedHi := (t.point p).reportedHi
           reportedQuality := (t.point p).reportedQuality }
         ∧ (r.quality = (t.point p).quality → t.point p = { r with age := age })
         ∧ (r.quality ≠ (t.point p).quality → (t.point p).reportedQuality
             = (r.config.qualityAlarm && !s.ptb.suppressed p)))
       ∧ (s.chc.supervision.link = .lostHold → s.chc.supervision.holdTimer.isSome = true →
         ∃ t, exec .holdTimerExpiry s = .next t
         ∧ t = { s with
             moment := s.moment + 1
             chc := { s.chc with supervision := { s.chc.supervision with link := .lostFallback, holdTimer := none } }
             fsc := { s.fsc with setpoint := t.fsc.setpoint }
             fdi := t.fdi }
         ∧ ∀ c, let r := s.chan c
           if r.state = .holding ∧ r.holds.controlLost = true ∧ r.fuelClass = .alt ∧ r.minFlow < s.setpoint c then
             t.setpoint c = r.minFlow
             ∧ t.feeder c = { s.feeder c with pendingRate := rateOf (s.feeder c) r.minFlow }
           else t.setpoint c = s.setpoint c ∧ t.feeder c = s.feeder c ∧ (t.view c).fallback = r.holds.controlLost)
       ∧ (∀ t, exec .shelvingTimerExpiry s = .next t → ∀ i,
         (t.alt.slots.get i).generation = (s.alt.slots.get i).generation
         ∧ match (s.alt.slots.get i).content with
           | .live r => (t.alt.slots.get i).content = .live (match r.shelvedUntil with
             | none => r
             | some n => if 1 < n then { r with shelvedUntil := some (n - 1) } else { r with
                 shelvedUntil := none, state := .activeUnack, ackedBy := none, annunciate := true
                 changeStamp := s.sht.stamp, markControl := true, markPanel := true })
           | x => (t.alt.slots.get i).content = x)
       ∧ exec .openTimerExpiry s = .next (State.after { s with acu := { s.acu with openTimer := none } })
       ∧ exec .shiftTimerExpiry s = .next s.shiftSecond.after)

/-! ### What every command keeps -/

/-- The state after reset meets every condition that the statements below claim of every step.  Which start
State.reset stands for, a first POWER_ON on a store never written with the trip input deasserted, is the
model's choice (log entry 3), and so is its live link, before the end of the start-up phase (log entry 36). -/
def Obligations.ResetIsSound : Prop :=
  State.reset.MassBalanced ∧ State.reset.lrg.Ordered ∧ State.reset.lrg.TagsApart ∧ State.reset.TripsHold
  ∧ State.reset.LinkAgrees ∧ State.reset.FlowsBounded ∧ State.reset.FeedersBounded
  ∧ State.reset.CoolerBounded ∧ State.reset.PointsAgree ∧ State.reset.alt.Sound
  ∧ State.reset.TripMapAgrees ∧ State.reset.OutputsAgree ∧ State.reset.sht.Sound ∧ State.reset.acu.Sound ∧ State.reset.SaveHolds

/-- After every step each channel's fed kilograms equal the debited plus the unassigned kilograms (R62),
every tally record balances, and a close is deferred only while a report is held (R156, R162). -/
def Obligations.BalancesStay : Prop :=
  (∀ s t : State, s.MassBalanced → step s = .next t → t.MassBalanced)
  ∧ (∀ s t : State, s.sht.Sound → step s = .next t → t.sht.Sound)

/-- The bin queues and the tags of the registry stay as R22 and R29 say, after every step. -/
def Obligations.QueuesStayOrdered : Prop :=
  ∀ s t : State, s.lrg.Ordered → s.lrg.TagsApart → step s = .next t → t.lrg.Ordered ∧ t.lrg.TagsApart

/-- A running part whose trip line is asserted has every channel tripped and undriven, after every step; a
cause stands exactly in CH_TRIPPED (R54). -/
def Obligations.TripsStayInForce : Prop :=
  ∀ s t : State, s.TripsHold → step s = .next t → t.TripsHold

/-- The supervision timer runs exactly while the link is live, the hold timer exactly while it is lost and
held, and no channel is held for a loss on a live link, after every step (R58 to R61).  That the link is live
in the start-up phase (log entry 36) and the supervision timer stopped while the link is lost (log entry 37) are
the model's choices. -/
def Obligations.LinkStateStaysRight : Prop :=
  ∀ s t : State, s.LinkAgrees → step s = .next t → t.LinkAgrees

/-- No channel's target or setpoint exceeds its max flow in force, after every step (R79). -/
def Obligations.FlowsStayBounded : Prop :=
  ∀ s t : State, s.FlowsBounded → step s = .next t → t.FlowsBounded

/-- Rates, trims, residues and counts stay in their ranges, and a stall window runs only at 500 Hz or above,
after every step (Table 5.2, R96). -/
def Obligations.FeedersStayBounded : Prop :=
  ∀ s t : State, s.FeedersBounded → step s = .next t → t.FeedersBounded

/-- Every AUTO compartment's fan speed lies between its min speed and 1000, and the grate speed between its
bounds, after every step (section 6.2). -/
def Obligations.CoolerStaysBounded : Prop :=
  ∀ s t : State, s.CoolerBounded → step s = .next t → t.CoolerBounded

/-- After every step each point has reported what is due, the condition list holds it, and the channel-off
view is that of the channels (R9 to R11). -/
def Obligations.PointsStayReported : Prop :=
  ∀ s t : State, s.PointsAgree → step s = .next t → t.PointsAgree

/-- Records and condition list stay in agreement, after every step (R128, R131, R137, R139), and so do the trip
map and the channels' alarm holds: an entry in force has its identity present, a channel's list holds exactly the
identities of the hold entries in force that name it, and HC_ALARM is in its set exactly where the list is not
empty (R52, R140 to R142, R150). -/
def Obligations.AlarmTableStaysSound : Prop :=
  (∀ s t : State, s.alt.Sound → step s = .next t → t.alt.Sound)
  ∧ ∀ s t : State, s.TripMapAgrees → step s = .next t → t.TripMapAgrees

/-- The horn and the attention output are those that the records and the held report call for after every
step, and they and the pulse-rate outputs are off while the part is held (R144, R146, R196). -/
def Obligations.OutputsStayRight : Prop :=
  ∀ s t : State, s.OutputsAgree → step s = .next t → t.OutputsAgree

/-- Access stays closed under the lockout, and the lockout stands at the third mismatch, after every step
(R170). -/
def Obligations.LockoutStaysShut : Prop :=
  ∀ s t : State, s.acu.Sound → step s = .next t → t.acu.Sound

/-- No setting of the image changes while a save is in flight: what is written is what is in force, at the
taking, at the completion and at every step between (R194). -/
def Obligations.SaveWritesTheSettingsInForce : Prop :=
  ∀ s t : State, s.SaveHolds → step s = .next t → t.SaveHolds

/-- No frame on the panel port, of any kind and with any fields, changes a setting of the image, the access
record, a lot, a demand or the clock (R186). -/
def Obligations.PanelChangesNoSetting : Prop :=
  ∀ (k : Kind) (q : Byte) (f : List Byte) (s t : State), exec (k.instr .panel q f) s = .next t →
    t.settings = s.settings ∧ t.acu = s.acu ∧ t.lrg = s.lrg ∧ t.sst = s.sst
    ∧ t.fsc.demandMain = s.fsc.demandMain ∧ t.fsc.demandCalc = s.fsc.demandCalc
    ∧ t.sht.clock = s.sht.clock ∧ t.chc.supervision = s.chc.supervision
end

