-- ==== Sys2Proof/Laws/Tables.lean ====
section
/-! SUPPORT. What a table holds after each of its operations. -/

namespace Sys2Proof

variable {α β : Type} {n : Nat}

@[simp] theorem Tbl.get_put_self (t : Tbl α n) (i : Fin n) (a : α) : (t.put i a).get i = a := by
  simp only [Tbl.get, Tbl.put, Vector.get, Vector.set]
  exact Array.getElem_set_self _

theorem Tbl.get_put_ne {i j : Fin n} (h : j ≠ i) (t : Tbl α n) (a : α) : (t.put i a).get j = t.get j := by
  have : i.val ≠ j.val := fun e => h (Fin.ext e.symm)
  simp only [Tbl.get, Tbl.put, Vector.get, Vector.set]
  exact Array.getElem_set_ne _ _ this

theorem Tbl.get_put (t : Tbl α n) (i j : Fin n) (a : α) :
    (t.put i a).get j = if j = i then a else t.get j := by
  by_cases h : j = i
  · subst h; simp
  · simp [h, Tbl.get_put_ne h]

@[simp] theorem Tbl.get_modify_self (t : Tbl α n) (i : Fin n) (f : α → α) :
    (t.modify i f).get i = f (t.get i) := by simp [Tbl.modify]

theorem Tbl.get_modify_ne {i j : Fin n} (h : j ≠ i) (t : Tbl α n) (f : α → α) :
    (t.modify i f).get j = t.get j := Tbl.get_put_ne h ..

theorem Tbl.get_modify (t : Tbl α n) (i j : Fin n) (f : α → α) :
    (t.modify i f).get j = if j = i then f (t.get i) else t.get j := Tbl.get_put ..

@[simp] theorem Tbl.get_all (a : α) (i : Fin n) : (Tbl.all n a).get i = a := by
  simp only [Tbl.get, Tbl.all, Vector.get, Vector.replicate]
  exact Array.getElem_replicate _

@[simp] theorem Tbl.get_map (f : α → β) (t : Tbl α n) (i : Fin n) :
    Tbl.get (Vector.map f t) i = f (t.get i) := by
  simp [Tbl.get, Vector.get, Vector.map]

/-- Two tables with the same records are the same table. -/
theorem Tbl.ext_get {t u : Tbl α n} (h : ∀ i, t.get i = u.get i) : t = u := by
  apply Vector.ext
  intro i hi
  simpa [Tbl.get, Vector.get] using h ⟨i, hi⟩

@[simp] theorem Tbl.put_get (t : Tbl α n) (i : Fin n) : t.put i (t.get i) = t :=
  Tbl.ext_get fun j => by rw [Tbl.get_put]; split <;> simp_all

@[simp] theorem Tbl.put_put (t : Tbl α n) (i : Fin n) (a b : α) : (t.put i a).put i b = t.put i b :=
  Tbl.ext_get fun j => by simp only [Tbl.get_put]; split <;> rfl

/-- Writing one place for each of a list, in order, leaves at each place written the value given there. -/
theorem Tbl.get_foldl_put (l : List (Fin n)) (t : Tbl α n) (f : Fin n → α) (j : Fin n) :
    (l.foldl (fun t i => t.put i (f i)) t).get j = if j ∈ l then f j else t.get j := by
  induction l generalizing t with
  | nil => simp
  | cons a l ih =>
    simp only [List.foldl_cons, ih, Tbl.get_put, List.mem_cons]
    by_cases h1 : j ∈ l <;> by_cases h2 : j = a <;> simp_all

@[simp] theorem Tbl.get_make (a : α) (f : Fin n → α) (j : Fin n) : (Tbl.make a f).get j = f j := by
  rw [Tbl.make, Tbl.get_foldl_put]; simp

/-- A table made of its own records is the table. -/
@[simp] theorem Tbl.make_get (a : α) (t : Tbl α n) : (Tbl.make a fun i => t.get i) = t :=
  Tbl.ext_get fun j => by simp

theorem Tbl.mem_list {t : Tbl α n} {a : α} : a ∈ t.list ↔ ∃ i, t.get i = a := by simp [Tbl.list]

/-- The sum of a figure over a table's records changes by the change of the one record written. -/
theorem Tbl.sum_put (t : Tbl α n) (i : Fin n) (a : α) (f : α → Nat) :
    ((t.put i a).list.map f).sum + f (t.get i) = (t.list.map f).sum + f a := by
  have key : ∀ l : List (Fin n), l.Nodup → i ∈ l →
      (l.map fun j => f ((t.put i a).get j)).sum + f (t.get i) = (l.map fun j => f (t.get j)).sum + f a := by
    intro l
    induction l with
    | nil => simp
    | cons b l ih =>
      intro hn hm
      obtain ⟨hb, hl⟩ := List.nodup_cons.mp hn
      by_cases h : i = b
      · subst h
        have : (l.map fun j => f ((t.put i a).get j)) = l.map fun j => f (t.get j) :=
          List.map_congr_left fun j hj => by
            rw [Tbl.get_put_ne (fun e : j = i => hb (by rw [← e]; exact hj))]
        simp [this]; omega
      · have hm' : i ∈ l := by simpa [h] using hm
        have := ih hl hm'
        simp only [List.map_cons, List.sum_cons]
        rw [Tbl.get_put_ne (Ne.symm h)]; omega
  simpa [Tbl.list, Function.comp_def] using key (List.finRange n) (List.nodup_finRange n) (by simp)

end Sys2Proof
end

