-- ==== Sys2Proof/Laws/State.lean ====
section
/-! SUPPORT. What each update of the state leaves as it was, one lemma per field, and what it writes; later
proofs rewrite with these and unfold no update.
-/

namespace Sys2Proof.Machine

/-! ### `State.setChan` -/

@[simp] theorem State.setChan_pending (c : Chan) (r : ChannelRecord) (s : State) : (s.setChan c r).pending = s.pending := rfl
@[simp] theorem State.setChan_phase (c : Chan) (r : ChannelRecord) (s : State) : (s.setChan c r).phase = s.phase := rfl
@[simp] theorem State.setChan_tripLine (c : Chan) (r : ChannelRecord) (s : State) : (s.setChan c r).tripLine = s.tripLine := rfl
@[simp] theorem State.setChan_ptb (c : Chan) (r : ChannelRecord) (s : State) : (s.setChan c r).ptb = s.ptb := rfl
@[simp] theorem State.setChan_lrg (c : Chan) (r : ChannelRecord) (s : State) : (s.setChan c r).lrg = s.lrg := rfl
@[simp] theorem State.setChan_fsc (c : Chan) (r : ChannelRecord) (s : State) : (s.setChan c r).fsc = s.fsc := rfl
@[simp] theorem State.setChan_fdi (c : Chan) (r : ChannelRecord) (s : State) : (s.setChan c r).fdi = s.fdi := rfl
@[simp] theorem State.setChan_clc (c : Chan) (r : ChannelRecord) (s : State) : (s.setChan c r).clc = s.clc := rfl
@[simp] theorem State.setChan_alt (c : Chan) (r : ChannelRecord) (s : State) : (s.setChan c r).alt = s.alt := rfl
@[simp] theorem State.setChan_sht (c : Chan) (r : ChannelRecord) (s : State) : (s.setChan c r).sht = s.sht := rfl
@[simp] theorem State.setChan_acu (c : Chan) (r : ChannelRecord) (s : State) : (s.setChan c r).acu = s.acu := rfl
@[simp] theorem State.setChan_control (c : Chan) (r : ChannelRecord) (s : State) : (s.setChan c r).control = s.control := rfl
@[simp] theorem State.setChan_panel (c : Chan) (r : ChannelRecord) (s : State) : (s.setChan c r).panel = s.panel := rfl
@[simp] theorem State.setChan_sst (c : Chan) (r : ChannelRecord) (s : State) : (s.setChan c r).sst = s.sst := rfl
@[simp] theorem State.setChan_moment (c : Chan) (r : ChannelRecord) (s : State) : (s.setChan c r).moment = s.moment := rfl
@[simp] theorem State.setChan_feeder (c : Chan) (r : ChannelRecord) (d : Chan) (s : State) : (s.setChan c r).feeder d = s.feeder d := rfl
@[simp] theorem State.setChan_setpoint (c : Chan) (r : ChannelRecord) (d : Chan) (s : State) : (s.setChan c r).setpoint d = s.setpoint d := rfl
@[simp] theorem State.setChan_point (c : Chan) (r : ChannelRecord) (m : PointNo) (s : State) : (s.setChan c r).point m = s.point m := rfl

/-! ### `State.setFeeder` -/

@[simp] theorem State.setFeeder_pending (c : Chan) (b : FeederBlock) (s : State) : (s.setFeeder c b).pending = s.pending := rfl
@[simp] theorem State.setFeeder_phase (c : Chan) (b : FeederBlock) (s : State) : (s.setFeeder c b).phase = s.phase := rfl
@[simp] theorem State.setFeeder_tripLine (c : Chan) (b : FeederBlock) (s : State) : (s.setFeeder c b).tripLine = s.tripLine := rfl
@[simp] theorem State.setFeeder_ptb (c : Chan) (b : FeederBlock) (s : State) : (s.setFeeder c b).ptb = s.ptb := rfl
@[simp] theorem State.setFeeder_lrg (c : Chan) (b : FeederBlock) (s : State) : (s.setFeeder c b).lrg = s.lrg := rfl
@[simp] theorem State.setFeeder_chc (c : Chan) (b : FeederBlock) (s : State) : (s.setFeeder c b).chc = s.chc := rfl
@[simp] theorem State.setFeeder_fsc (c : Chan) (b : FeederBlock) (s : State) : (s.setFeeder c b).fsc = s.fsc := rfl
@[simp] theorem State.setFeeder_clc (c : Chan) (b : FeederBlock) (s : State) : (s.setFeeder c b).clc = s.clc := rfl
@[simp] theorem State.setFeeder_alt (c : Chan) (b : FeederBlock) (s : State) : (s.setFeeder c b).alt = s.alt := rfl
@[simp] theorem State.setFeeder_sht (c : Chan) (b : FeederBlock) (s : State) : (s.setFeeder c b).sht = s.sht := rfl
@[simp] theorem State.setFeeder_acu (c : Chan) (b : FeederBlock) (s : State) : (s.setFeeder c b).acu = s.acu := rfl
@[simp] theorem State.setFeeder_control (c : Chan) (b : FeederBlock) (s : State) : (s.setFeeder c b).control = s.control := rfl
@[simp] theorem State.setFeeder_panel (c : Chan) (b : FeederBlock) (s : State) : (s.setFeeder c b).panel = s.panel := rfl
@[simp] theorem State.setFeeder_sst (c : Chan) (b : FeederBlock) (s : State) : (s.setFeeder c b).sst = s.sst := rfl
@[simp] theorem State.setFeeder_moment (c : Chan) (b : FeederBlock) (s : State) : (s.setFeeder c b).moment = s.moment := rfl
@[simp] theorem State.setFeeder_chan (c : Chan) (b : FeederBlock) (d : Chan) (s : State) : (s.setFeeder c b).chan d = s.chan d := rfl
@[simp] theorem State.setFeeder_setpoint (c : Chan) (b : FeederBlock) (d : Chan) (s : State) : (s.setFeeder c b).setpoint d = s.setpoint d := rfl
@[simp] theorem State.setFeeder_point (c : Chan) (b : FeederBlock) (m : PointNo) (s : State) : (s.setFeeder c b).point m = s.point m := rfl

/-! ### `State.setSetpoint` -/

@[simp] theorem State.setSetpoint_pending (c : Chan) (v : Nat) (s : State) : (s.setSetpoint c v).pending = s.pending := rfl
@[simp] theorem State.setSetpoint_phase (c : Chan) (v : Nat) (s : State) : (s.setSetpoint c v).phase = s.phase := rfl
@[simp] theorem State.setSetpoint_tripLine (c : Chan) (v : Nat) (s : State) : (s.setSetpoint c v).tripLine = s.tripLine := rfl
@[simp] theorem State.setSetpoint_ptb (c : Chan) (v : Nat) (s : State) : (s.setSetpoint c v).ptb = s.ptb := rfl
@[simp] theorem State.setSetpoint_lrg (c : Chan) (v : Nat) (s : State) : (s.setSetpoint c v).lrg = s.lrg := rfl
@[simp] theorem State.setSetpoint_chc (c : Chan) (v : Nat) (s : State) : (s.setSetpoint c v).chc = s.chc := rfl
@[simp] theorem State.setSetpoint_fdi (c : Chan) (v : Nat) (s : State) : (s.setSetpoint c v).fdi = s.fdi := rfl
@[simp] theorem State.setSetpoint_clc (c : Chan) (v : Nat) (s : State) : (s.setSetpoint c v).clc = s.clc := rfl
@[simp] theorem State.setSetpoint_alt (c : Chan) (v : Nat) (s : State) : (s.setSetpoint c v).alt = s.alt := rfl
@[simp] theorem State.setSetpoint_sht (c : Chan) (v : Nat) (s : State) : (s.setSetpoint c v).sht = s.sht := rfl
@[simp] theorem State.setSetpoint_acu (c : Chan) (v : Nat) (s : State) : (s.setSetpoint c v).acu = s.acu := rfl
@[simp] theorem State.setSetpoint_control (c : Chan) (v : Nat) (s : State) : (s.setSetpoint c v).control = s.control := rfl
@[simp] theorem State.setSetpoint_panel (c : Chan) (v : Nat) (s : State) : (s.setSetpoint c v).panel = s.panel := rfl
@[simp] theorem State.setSetpoint_sst (c : Chan) (v : Nat) (s : State) : (s.setSetpoint c v).sst = s.sst := rfl
@[simp] theorem State.setSetpoint_moment (c : Chan) (v : Nat) (s : State) : (s.setSetpoint c v).moment = s.moment := rfl
@[simp] theorem State.setSetpoint_chan (c : Chan) (v : Nat) (d : Chan) (s : State) : (s.setSetpoint c v).chan d = s.chan d := rfl
@[simp] theorem State.setSetpoint_feeder (c : Chan) (v : Nat) (d : Chan) (s : State) : (s.setSetpoint c v).feeder d = s.feeder d := rfl
@[simp] theorem State.setSetpoint_point (c : Chan) (v : Nat) (m : PointNo) (s : State) : (s.setSetpoint c v).point m = s.point m := rfl

/-! ### `State.setPoint` -/

@[simp] theorem State.setPoint_pending (p : PointNo) (r : PointRecord) (s : State) : (s.setPoint p r).pending = s.pending := rfl
@[simp] theorem State.setPoint_phase (p : PointNo) (r : PointRecord) (s : State) : (s.setPoint p r).phase = s.phase := rfl
@[simp] theorem State.setPoint_tripLine (p : PointNo) (r : PointRecord) (s : State) : (s.setPoint p r).tripLine = s.tripLine := rfl
@[simp] theorem State.setPoint_lrg (p : PointNo) (r : PointRecord) (s : State) : (s.setPoint p r).lrg = s.lrg := rfl
@[simp] theorem State.setPoint_chc (p : PointNo) (r : PointRecord) (s : State) : (s.setPoint p r).chc = s.chc := rfl
@[simp] theorem State.setPoint_fsc (p : PointNo) (r : PointRecord) (s : State) : (s.setPoint p r).fsc = s.fsc := rfl
@[simp] theorem State.setPoint_fdi (p : PointNo) (r : PointRecord) (s : State) : (s.setPoint p r).fdi = s.fdi := rfl
@[simp] theorem State.setPoint_clc (p : PointNo) (r : PointRecord) (s : State) : (s.setPoint p r).clc = s.clc := rfl
@[simp] theorem State.setPoint_alt (p : PointNo) (r : PointRecord) (s : State) : (s.setPoint p r).alt = s.alt := rfl
@[simp] theorem State.setPoint_sht (p : PointNo) (r : PointRecord) (s : State) : (s.setPoint p r).sht = s.sht := rfl
@[simp] theorem State.setPoint_acu (p : PointNo) (r : PointRecord) (s : State) : (s.setPoint p r).acu = s.acu := rfl
@[simp] theorem State.setPoint_control (p : PointNo) (r : PointRecord) (s : State) : (s.setPoint p r).control = s.control := rfl
@[simp] theorem State.setPoint_panel (p : PointNo) (r : PointRecord) (s : State) : (s.setPoint p r).panel = s.panel := rfl
@[simp] theorem State.setPoint_sst (p : PointNo) (r : PointRecord) (s : State) : (s.setPoint p r).sst = s.sst := rfl
@[simp] theorem State.setPoint_moment (p : PointNo) (r : PointRecord) (s : State) : (s.setPoint p r).moment = s.moment := rfl
@[simp] theorem State.setPoint_chan (p : PointNo) (r : PointRecord) (d : Chan) (s : State) : (s.setPoint p r).chan d = s.chan d := rfl
@[simp] theorem State.setPoint_feeder (p : PointNo) (r : PointRecord) (d : Chan) (s : State) : (s.setPoint p r).feeder d = s.feeder d := rfl
@[simp] theorem State.setPoint_setpoint (p : PointNo) (r : PointRecord) (d : Chan) (s : State) : (s.setPoint p r).setpoint d = s.setpoint d := rfl

/-! ### `State.setLot` -/

@[simp] theorem State.setLot_pending (i : LotNo) (r : LotRecord) (s : State) : (s.setLot i r).pending = s.pending := rfl
@[simp] theorem State.setLot_phase (i : LotNo) (r : LotRecord) (s : State) : (s.setLot i r).phase = s.phase := rfl
@[simp] theorem State.setLot_tripLine (i : LotNo) (r : LotRecord) (s : State) : (s.setLot i r).tripLine = s.tripLine := rfl
@[simp] theorem State.setLot_ptb (i : LotNo) (r : LotRecord) (s : State) : (s.setLot i r).ptb = s.ptb := rfl
@[simp] theorem State.setLot_chc (i : LotNo) (r : LotRecord) (s : State) : (s.setLot i r).chc = s.chc := rfl
@[simp] theorem State.setLot_fsc (i : LotNo) (r : LotRecord) (s : State) : (s.setLot i r).fsc = s.fsc := rfl
@[simp] theorem State.setLot_fdi (i : LotNo) (r : LotRecord) (s : State) : (s.setLot i r).fdi = s.fdi := rfl
@[simp] theorem State.setLot_clc (i : LotNo) (r : LotRecord) (s : State) : (s.setLot i r).clc = s.clc := rfl
@[simp] theorem State.setLot_alt (i : LotNo) (r : LotRecord) (s : State) : (s.setLot i r).alt = s.alt := rfl
@[simp] theorem State.setLot_sht (i : LotNo) (r : LotRecord) (s : State) : (s.setLot i r).sht = s.sht := rfl
@[simp] theorem State.setLot_acu (i : LotNo) (r : LotRecord) (s : State) : (s.setLot i r).acu = s.acu := rfl
@[simp] theorem State.setLot_control (i : LotNo) (r : LotRecord) (s : State) : (s.setLot i r).control = s.control := rfl
@[simp] theorem State.setLot_panel (i : LotNo) (r : LotRecord) (s : State) : (s.setLot i r).panel = s.panel := rfl
@[simp] theorem State.setLot_sst (i : LotNo) (r : LotRecord) (s : State) : (s.setLot i r).sst = s.sst := rfl
@[simp] theorem State.setLot_moment (i : LotNo) (r : LotRecord) (s : State) : (s.setLot i r).moment = s.moment := rfl
@[simp] theorem State.setLot_chan (i : LotNo) (r : LotRecord) (d : Chan) (s : State) : (s.setLot i r).chan d = s.chan d := rfl
@[simp] theorem State.setLot_feeder (i : LotNo) (r : LotRecord) (d : Chan) (s : State) : (s.setLot i r).feeder d = s.feeder d := rfl
@[simp] theorem State.setLot_setpoint (i : LotNo) (r : LotRecord) (d : Chan) (s : State) : (s.setLot i r).setpoint d = s.setpoint d := rfl
@[simp] theorem State.setLot_point (i : LotNo) (r : LotRecord) (m : PointNo) (s : State) : (s.setLot i r).point m = s.point m := rfl

/-! ### `State.setQueue` -/

@[simp] theorem State.setQueue_pending (c : Chan) (q : List LotNo) (s : State) : (s.setQueue c q).pending = s.pending := rfl
@[simp] theorem State.setQueue_phase (c : Chan) (q : List LotNo) (s : State) : (s.setQueue c q).phase = s.phase := rfl
@[simp] theorem State.setQueue_tripLine (c : Chan) (q : List LotNo) (s : State) : (s.setQueue c q).tripLine = s.tripLine := rfl
@[simp] theorem State.setQueue_ptb (c : Chan) (q : List LotNo) (s : State) : (s.setQueue c q).ptb = s.ptb := rfl
@[simp] theorem State.setQueue_chc (c : Chan) (q : List LotNo) (s : State) : (s.setQueue c q).chc = s.chc := rfl
@[simp] theorem State.setQueue_fsc (c : Chan) (q : List LotNo) (s : State) : (s.setQueue c q).fsc = s.fsc := rfl
@[simp] theorem State.setQueue_fdi (c : Chan) (q : List LotNo) (s : State) : (s.setQueue c q).fdi = s.fdi := rfl
@[simp] theorem State.setQueue_clc (c : Chan) (q : List LotNo) (s : State) : (s.setQueue c q).clc = s.clc := rfl
@[simp] theorem State.setQueue_alt (c : Chan) (q : List LotNo) (s : State) : (s.setQueue c q).alt = s.alt := rfl
@[simp] theorem State.setQueue_sht (c : Chan) (q : List LotNo) (s : State) : (s.setQueue c q).sht = s.sht := rfl
@[simp] theorem State.setQueue_acu (c : Chan) (q : List LotNo) (s : State) : (s.setQueue c q).acu = s.acu := rfl
@[simp] theorem State.setQueue_control (c : Chan) (q : List LotNo) (s : State) : (s.setQueue c q).control = s.control := rfl
@[simp] theorem State.setQueue_panel (c : Chan) (q : List LotNo) (s : State) : (s.setQueue c q).panel = s.panel := rfl
@[simp] theorem State.setQueue_sst (c : Chan) (q : List LotNo) (s : State) : (s.setQueue c q).sst = s.sst := rfl
@[simp] theorem State.setQueue_moment (c : Chan) (q : List LotNo) (s : State) : (s.setQueue c q).moment = s.moment := rfl
@[simp] theorem State.setQueue_chan (c : Chan) (q : List LotNo) (d : Chan) (s : State) : (s.setQueue c q).chan d = s.chan d := rfl
@[simp] theorem State.setQueue_feeder (c : Chan) (q : List LotNo) (d : Chan) (s : State) : (s.setQueue c q).feeder d = s.feeder d := rfl
@[simp] theorem State.setQueue_setpoint (c : Chan) (q : List LotNo) (d : Chan) (s : State) : (s.setQueue c q).setpoint d = s.setpoint d := rfl
@[simp] theorem State.setQueue_point (c : Chan) (q : List LotNo) (m : PointNo) (s : State) : (s.setQueue c q).point m = s.point m := rfl

/-! ### `State.setAlt` -/

@[simp] theorem State.setAlt_pending (a : AlarmTable) (s : State) : (s.setAlt a).pending = s.pending := rfl
@[simp] theorem State.setAlt_phase (a : AlarmTable) (s : State) : (s.setAlt a).phase = s.phase := rfl
@[simp] theorem State.setAlt_tripLine (a : AlarmTable) (s : State) : (s.setAlt a).tripLine = s.tripLine := rfl
@[simp] theorem State.setAlt_ptb (a : AlarmTable) (s : State) : (s.setAlt a).ptb = s.ptb := rfl
@[simp] theorem State.setAlt_lrg (a : AlarmTable) (s : State) : (s.setAlt a).lrg = s.lrg := rfl
@[simp] theorem State.setAlt_chc (a : AlarmTable) (s : State) : (s.setAlt a).chc = s.chc := rfl
@[simp] theorem State.setAlt_fsc (a : AlarmTable) (s : State) : (s.setAlt a).fsc = s.fsc := rfl
@[simp] theorem State.setAlt_fdi (a : AlarmTable) (s : State) : (s.setAlt a).fdi = s.fdi := rfl
@[simp] theorem State.setAlt_clc (a : AlarmTable) (s : State) : (s.setAlt a).clc = s.clc := rfl
@[simp] theorem State.setAlt_sht (a : AlarmTable) (s : State) : (s.setAlt a).sht = s.sht := rfl
@[simp] theorem State.setAlt_acu (a : AlarmTable) (s : State) : (s.setAlt a).acu = s.acu := rfl
@[simp] theorem State.setAlt_control (a : AlarmTable) (s : State) : (s.setAlt a).control = s.control := rfl
@[simp] theorem State.setAlt_panel (a : AlarmTable) (s : State) : (s.setAlt a).panel = s.panel := rfl
@[simp] theorem State.setAlt_sst (a : AlarmTable) (s : State) : (s.setAlt a).sst = s.sst := rfl
@[simp] theorem State.setAlt_moment (a : AlarmTable) (s : State) : (s.setAlt a).moment = s.moment := rfl
@[simp] theorem State.setAlt_chan (a : AlarmTable) (d : Chan) (s : State) : (s.setAlt a).chan d = s.chan d := rfl
@[simp] theorem State.setAlt_feeder (a : AlarmTable) (d : Chan) (s : State) : (s.setAlt a).feeder d = s.feeder d := rfl
@[simp] theorem State.setAlt_setpoint (a : AlarmTable) (d : Chan) (s : State) : (s.setAlt a).setpoint d = s.setpoint d := rfl
@[simp] theorem State.setAlt_point (a : AlarmTable) (m : PointNo) (s : State) : (s.setAlt a).point m = s.point m := rfl

/-! ### `State.settle` -/

@[simp] theorem State.settle_pending (s : State) : (s.settle).pending = s.pending := rfl
@[simp] theorem State.settle_phase (s : State) : (s.settle).phase = s.phase := rfl
@[simp] theorem State.settle_tripLine (s : State) : (s.settle).tripLine = s.tripLine := rfl
@[simp] theorem State.settle_ptb (s : State) : (s.settle).ptb = s.ptb := rfl
@[simp] theorem State.settle_lrg (s : State) : (s.settle).lrg = s.lrg := rfl
@[simp] theorem State.settle_chc (s : State) : (s.settle).chc = s.chc := rfl
@[simp] theorem State.settle_fsc (s : State) : (s.settle).fsc = s.fsc := rfl
@[simp] theorem State.settle_fdi (s : State) : (s.settle).fdi = s.fdi := rfl
@[simp] theorem State.settle_clc (s : State) : (s.settle).clc = s.clc := rfl
@[simp] theorem State.settle_sht (s : State) : (s.settle).sht = s.sht := rfl
@[simp] theorem State.settle_acu (s : State) : (s.settle).acu = s.acu := rfl
@[simp] theorem State.settle_control (s : State) : (s.settle).control = s.control := rfl
@[simp] theorem State.settle_panel (s : State) : (s.settle).panel = s.panel := rfl
@[simp] theorem State.settle_sst (s : State) : (s.settle).sst = s.sst := rfl
@[simp] theorem State.settle_moment (s : State) : (s.settle).moment = s.moment := rfl
@[simp] theorem State.settle_chan (d : Chan) (s : State) : (s.settle).chan d = s.chan d := rfl
@[simp] theorem State.settle_feeder (d : Chan) (s : State) : (s.settle).feeder d = s.feeder d := rfl
@[simp] theorem State.settle_setpoint (d : Chan) (s : State) : (s.settle).setpoint d = s.setpoint d := rfl
@[simp] theorem State.settle_point (m : PointNo) (s : State) : (s.settle).point m = s.point m := rfl

/-! ### `State.setSupervision` -/

@[simp] theorem State.setSupervision_pending (v : Supervision) (s : State) : (s.setSupervision v).pending = s.pending := rfl
@[simp] theorem State.setSupervision_phase (v : Supervision) (s : State) : (s.setSupervision v).phase = s.phase := rfl
@[simp] theorem State.setSupervision_tripLine (v : Supervision) (s : State) : (s.setSupervision v).tripLine = s.tripLine := rfl
@[simp] theorem State.setSupervision_ptb (v : Supervision) (s : State) : (s.setSupervision v).ptb = s.ptb := rfl
@[simp] theorem State.setSupervision_lrg (v : Supervision) (s : State) : (s.setSupervision v).lrg = s.lrg := rfl
@[simp] theorem State.setSupervision_fsc (v : Supervision) (s : State) : (s.setSupervision v).fsc = s.fsc := rfl
@[simp] theorem State.setSupervision_fdi (v : Supervision) (s : State) : (s.setSupervision v).fdi = s.fdi := rfl
@[simp] theorem State.setSupervision_clc (v : Supervision) (s : State) : (s.setSupervision v).clc = s.clc := rfl
@[simp] theorem State.setSupervision_alt (v : Supervision) (s : State) : (s.setSupervision v).alt = s.alt := rfl
@[simp] theorem State.setSupervision_sht (v : Supervision) (s : State) : (s.setSupervision v).sht = s.sht := rfl
@[simp] theorem State.setSupervision_acu (v : Supervision) (s : State) : (s.setSupervision v).acu = s.acu := rfl
@[simp] theorem State.setSupervision_control (v : Supervision) (s : State) : (s.setSupervision v).control = s.control := rfl
@[simp] theorem State.setSupervision_panel (v : Supervision) (s : State) : (s.setSupervision v).panel = s.panel := rfl
@[simp] theorem State.setSupervision_sst (v : Supervision) (s : State) : (s.setSupervision v).sst = s.sst := rfl
@[simp] theorem State.setSupervision_moment (v : Supervision) (s : State) : (s.setSupervision v).moment = s.moment := rfl
@[simp] theorem State.setSupervision_feeder (v : Supervision) (d : Chan) (s : State) : (s.setSupervision v).feeder d = s.feeder d := rfl
@[simp] theorem State.setSupervision_setpoint (v : Supervision) (d : Chan) (s : State) : (s.setSupervision v).setpoint d = s.setpoint d := rfl
@[simp] theorem State.setSupervision_point (v : Supervision) (m : PointNo) (s : State) : (s.setSupervision v).point m = s.point m := rfl

/-! ### `State.handOver` -/

@[simp] theorem State.handOver_pending (c : Chan) (v : Nat) (s : State) : (s.handOver c v).pending = s.pending := rfl
@[simp] theorem State.handOver_phase (c : Chan) (v : Nat) (s : State) : (s.handOver c v).phase = s.phase := rfl
@[simp] theorem State.handOver_tripLine (c : Chan) (v : Nat) (s : State) : (s.handOver c v).tripLine = s.tripLine := rfl
@[simp] theorem State.handOver_ptb (c : Chan) (v : Nat) (s : State) : (s.handOver c v).ptb = s.ptb := rfl
@[simp] theorem State.handOver_lrg (c : Chan) (v : Nat) (s : State) : (s.handOver c v).lrg = s.lrg := rfl
@[simp] theorem State.handOver_chc (c : Chan) (v : Nat) (s : State) : (s.handOver c v).chc = s.chc := rfl
@[simp] theorem State.handOver_fsc (c : Chan) (v : Nat) (s : State) : (s.handOver c v).fsc = s.fsc := rfl
@[simp] theorem State.handOver_clc (c : Chan) (v : Nat) (s : State) : (s.handOver c v).clc = s.clc := rfl
@[simp] theorem State.handOver_alt (c : Chan) (v : Nat) (s : State) : (s.handOver c v).alt = s.alt := rfl
@[simp] theorem State.handOver_sht (c : Chan) (v : Nat) (s : State) : (s.handOver c v).sht = s.sht := rfl
@[simp] theorem State.handOver_acu (c : Chan) (v : Nat) (s : State) : (s.handOver c v).acu = s.acu := rfl
@[simp] theorem State.handOver_control (c : Chan) (v : Nat) (s : State) : (s.handOver c v).control = s.control := rfl
@[simp] theorem State.handOver_panel (c : Chan) (v : Nat) (s : State) : (s.handOver c v).panel = s.panel := rfl
@[simp] theorem State.handOver_sst (c : Chan) (v : Nat) (s : State) : (s.handOver c v).sst = s.sst := rfl
@[simp] theorem State.handOver_moment (c : Chan) (v : Nat) (s : State) : (s.handOver c v).moment = s.moment := rfl
@[simp] theorem State.handOver_chan (c : Chan) (v : Nat) (d : Chan) (s : State) : (s.handOver c v).chan d = s.chan d := rfl
@[simp] theorem State.handOver_setpoint (c : Chan) (v : Nat) (d : Chan) (s : State) : (s.handOver c v).setpoint d = s.setpoint d := rfl
@[simp] theorem State.handOver_point (c : Chan) (v : Nat) (m : PointNo) (s : State) : (s.handOver c v).point m = s.point m := rfl

/-! ### `State.drive` -/

@[simp] theorem State.drive_pending (c : Chan) (v : Nat) (s : State) : (s.drive c v).pending = s.pending := rfl
@[simp] theorem State.drive_phase (c : Chan) (v : Nat) (s : State) : (s.drive c v).phase = s.phase := rfl
@[simp] theorem State.drive_tripLine (c : Chan) (v : Nat) (s : State) : (s.drive c v).tripLine = s.tripLine := rfl
@[simp] theorem State.drive_ptb (c : Chan) (v : Nat) (s : State) : (s.drive c v).ptb = s.ptb := rfl
@[simp] theorem State.drive_lrg (c : Chan) (v : Nat) (s : State) : (s.drive c v).lrg = s.lrg := rfl
@[simp] theorem State.drive_chc (c : Chan) (v : Nat) (s : State) : (s.drive c v).chc = s.chc := rfl
@[simp] theorem State.drive_clc (c : Chan) (v : Nat) (s : State) : (s.drive c v).clc = s.clc := rfl
@[simp] theorem State.drive_alt (c : Chan) (v : Nat) (s : State) : (s.drive c v).alt = s.alt := rfl
@[simp] theorem State.drive_sht (c : Chan) (v : Nat) (s : State) : (s.drive c v).sht = s.sht := rfl
@[simp] theorem State.drive_acu (c : Chan) (v : Nat) (s : State) : (s.drive c v).acu = s.acu := rfl
@[simp] theorem State.drive_control (c : Chan) (v : Nat) (s : State) : (s.drive c v).control = s.control := rfl
@[simp] theorem State.drive_panel (c : Chan) (v : Nat) (s : State) : (s.drive c v).panel = s.panel := rfl
@[simp] theorem State.drive_sst (c : Chan) (v : Nat) (s : State) : (s.drive c v).sst = s.sst := rfl
@[simp] theorem State.drive_moment (c : Chan) (v : Nat) (s : State) : (s.drive c v).moment = s.moment := rfl
@[simp] theorem State.drive_chan (c : Chan) (v : Nat) (d : Chan) (s : State) : (s.drive c v).chan d = s.chan d := rfl
@[simp] theorem State.drive_point (c : Chan) (v : Nat) (m : PointNo) (s : State) : (s.drive c v).point m = s.point m := rfl

/-! ### `State.cameNotice` -/

@[simp] theorem State.cameNotice_pending (p : Priority) (s : State) : (s.cameNotice p).pending = s.pending := rfl
@[simp] theorem State.cameNotice_phase (p : Priority) (s : State) : (s.cameNotice p).phase = s.phase := rfl
@[simp] theorem State.cameNotice_tripLine (p : Priority) (s : State) : (s.cameNotice p).tripLine = s.tripLine := rfl
@[simp] theorem State.cameNotice_ptb (p : Priority) (s : State) : (s.cameNotice p).ptb = s.ptb := rfl
@[simp] theorem State.cameNotice_lrg (p : Priority) (s : State) : (s.cameNotice p).lrg = s.lrg := rfl
@[simp] theorem State.cameNotice_chc (p : Priority) (s : State) : (s.cameNotice p).chc = s.chc := rfl
@[simp] theorem State.cameNotice_fsc (p : Priority) (s : State) : (s.cameNotice p).fsc = s.fsc := rfl
@[simp] theorem State.cameNotice_fdi (p : Priority) (s : State) : (s.cameNotice p).fdi = s.fdi := rfl
@[simp] theorem State.cameNotice_clc (p : Priority) (s : State) : (s.cameNotice p).clc = s.clc := rfl
@[simp] theorem State.cameNotice_alt (p : Priority) (s : State) : (s.cameNotice p).alt = s.alt := rfl
@[simp] theorem State.cameNotice_acu (p : Priority) (s : State) : (s.cameNotice p).acu = s.acu := rfl
@[simp] theorem State.cameNotice_control (p : Priority) (s : State) : (s.cameNotice p).control = s.control := rfl
@[simp] theorem State.cameNotice_panel (p : Priority) (s : State) : (s.cameNotice p).panel = s.panel := rfl
@[simp] theorem State.cameNotice_sst (p : Priority) (s : State) : (s.cameNotice p).sst = s.sst := rfl
@[simp] theorem State.cameNotice_moment (p : Priority) (s : State) : (s.cameNotice p).moment = s.moment := rfl
@[simp] theorem State.cameNotice_chan (p : Priority) (d : Chan) (s : State) : (s.cameNotice p).chan d = s.chan d := rfl
@[simp] theorem State.cameNotice_feeder (p : Priority) (d : Chan) (s : State) : (s.cameNotice p).feeder d = s.feeder d := rfl
@[simp] theorem State.cameNotice_setpoint (p : Priority) (d : Chan) (s : State) : (s.cameNotice p).setpoint d = s.setpoint d := rfl
@[simp] theorem State.cameNotice_point (p : Priority) (m : PointNo) (s : State) : (s.cameNotice p).point m = s.point m := rfl

/-! ### `State.tripNotice` -/

@[simp] theorem State.tripNotice_pending (c : Chan) (s : State) : (s.tripNotice c).pending = s.pending := rfl
@[simp] theorem State.tripNotice_phase (c : Chan) (s : State) : (s.tripNotice c).phase = s.phase := rfl
@[simp] theorem State.tripNotice_tripLine (c : Chan) (s : State) : (s.tripNotice c).tripLine = s.tripLine := rfl
@[simp] theorem State.tripNotice_ptb (c : Chan) (s : State) : (s.tripNotice c).ptb = s.ptb := rfl
@[simp] theorem State.tripNotice_lrg (c : Chan) (s : State) : (s.tripNotice c).lrg = s.lrg := rfl
@[simp] theorem State.tripNotice_chc (c : Chan) (s : State) : (s.tripNotice c).chc = s.chc := rfl
@[simp] theorem State.tripNotice_fsc (c : Chan) (s : State) : (s.tripNotice c).fsc = s.fsc := rfl
@[simp] theorem State.tripNotice_fdi (c : Chan) (s : State) : (s.tripNotice c).fdi = s.fdi := rfl
@[simp] theorem State.tripNotice_clc (c : Chan) (s : State) : (s.tripNotice c).clc = s.clc := rfl
@[simp] theorem State.tripNotice_alt (c : Chan) (s : State) : (s.tripNotice c).alt = s.alt := rfl
@[simp] theorem State.tripNotice_acu (c : Chan) (s : State) : (s.tripNotice c).acu = s.acu := rfl
@[simp] theorem State.tripNotice_control (c : Chan) (s : State) : (s.tripNotice c).control = s.control := rfl
@[simp] theorem State.tripNotice_panel (c : Chan) (s : State) : (s.tripNotice c).panel = s.panel := rfl
@[simp] theorem State.tripNotice_sst (c : Chan) (s : State) : (s.tripNotice c).sst = s.sst := rfl
@[simp] theorem State.tripNotice_moment (c : Chan) (s : State) : (s.tripNotice c).moment = s.moment := rfl
@[simp] theorem State.tripNotice_chan (c : Chan) (d : Chan) (s : State) : (s.tripNotice c).chan d = s.chan d := rfl
@[simp] theorem State.tripNotice_feeder (c : Chan) (d : Chan) (s : State) : (s.tripNotice c).feeder d = s.feeder d := rfl
@[simp] theorem State.tripNotice_setpoint (c : Chan) (d : Chan) (s : State) : (s.tripNotice c).setpoint d = s.setpoint d := rfl
@[simp] theorem State.tripNotice_point (c : Chan) (m : PointNo) (s : State) : (s.tripNotice c).point m = s.point m := rfl

/-! ### `State.reportNotice` -/

@[simp] theorem State.reportNotice_pending (b : Bool) (s : State) : (s.reportNotice b).pending = s.pending := rfl
@[simp] theorem State.reportNotice_phase (b : Bool) (s : State) : (s.reportNotice b).phase = s.phase := rfl
@[simp] theorem State.reportNotice_tripLine (b : Bool) (s : State) : (s.reportNotice b).tripLine = s.tripLine := rfl
@[simp] theorem State.reportNotice_ptb (b : Bool) (s : State) : (s.reportNotice b).ptb = s.ptb := rfl
@[simp] theorem State.reportNotice_lrg (b : Bool) (s : State) : (s.reportNotice b).lrg = s.lrg := rfl
@[simp] theorem State.reportNotice_chc (b : Bool) (s : State) : (s.reportNotice b).chc = s.chc := rfl
@[simp] theorem State.reportNotice_fsc (b : Bool) (s : State) : (s.reportNotice b).fsc = s.fsc := rfl
@[simp] theorem State.reportNotice_fdi (b : Bool) (s : State) : (s.reportNotice b).fdi = s.fdi := rfl
@[simp] theorem State.reportNotice_clc (b : Bool) (s : State) : (s.reportNotice b).clc = s.clc := rfl
@[simp] theorem State.reportNotice_sht (b : Bool) (s : State) : (s.reportNotice b).sht = s.sht := rfl
@[simp] theorem State.reportNotice_acu (b : Bool) (s : State) : (s.reportNotice b).acu = s.acu := rfl
@[simp] theorem State.reportNotice_control (b : Bool) (s : State) : (s.reportNotice b).control = s.control := rfl
@[simp] theorem State.reportNotice_panel (b : Bool) (s : State) : (s.reportNotice b).panel = s.panel := rfl
@[simp] theorem State.reportNotice_sst (b : Bool) (s : State) : (s.reportNotice b).sst = s.sst := rfl
@[simp] theorem State.reportNotice_moment (b : Bool) (s : State) : (s.reportNotice b).moment = s.moment := rfl
@[simp] theorem State.reportNotice_chan (b : Bool) (d : Chan) (s : State) : (s.reportNotice b).chan d = s.chan d := rfl
@[simp] theorem State.reportNotice_feeder (b : Bool) (d : Chan) (s : State) : (s.reportNotice b).feeder d = s.feeder d := rfl
@[simp] theorem State.reportNotice_setpoint (b : Bool) (d : Chan) (s : State) : (s.reportNotice b).setpoint d = s.setpoint d := rfl
@[simp] theorem State.reportNotice_point (b : Bool) (m : PointNo) (s : State) : (s.reportNotice b).point m = s.point m := rfl

/-! ### `State.setInForce` -/

@[simp] theorem State.setInForce_pending (e : EntryNo) (b : Bool) (s : State) : (s.setInForce e b).pending = s.pending := rfl
@[simp] theorem State.setInForce_phase (e : EntryNo) (b : Bool) (s : State) : (s.setInForce e b).phase = s.phase := rfl
@[simp] theorem State.setInForce_tripLine (e : EntryNo) (b : Bool) (s : State) : (s.setInForce e b).tripLine = s.tripLine := rfl
@[simp] theorem State.setInForce_ptb (e : EntryNo) (b : Bool) (s : State) : (s.setInForce e b).ptb = s.ptb := rfl
@[simp] theorem State.setInForce_lrg (e : EntryNo) (b : Bool) (s : State) : (s.setInForce e b).lrg = s.lrg := rfl
@[simp] theorem State.setInForce_chc (e : EntryNo) (b : Bool) (s : State) : (s.setInForce e b).chc = s.chc := rfl
@[simp] theorem State.setInForce_fsc (e : EntryNo) (b : Bool) (s : State) : (s.setInForce e b).fsc = s.fsc := rfl
@[simp] theorem State.setInForce_fdi (e : EntryNo) (b : Bool) (s : State) : (s.setInForce e b).fdi = s.fdi := rfl
@[simp] theorem State.setInForce_clc (e : EntryNo) (b : Bool) (s : State) : (s.setInForce e b).clc = s.clc := rfl
@[simp] theorem State.setInForce_sht (e : EntryNo) (b : Bool) (s : State) : (s.setInForce e b).sht = s.sht := rfl
@[simp] theorem State.setInForce_acu (e : EntryNo) (b : Bool) (s : State) : (s.setInForce e b).acu = s.acu := rfl
@[simp] theorem State.setInForce_control (e : EntryNo) (b : Bool) (s : State) : (s.setInForce e b).control = s.control := rfl
@[simp] theorem State.setInForce_panel (e : EntryNo) (b : Bool) (s : State) : (s.setInForce e b).panel = s.panel := rfl
@[simp] theorem State.setInForce_sst (e : EntryNo) (b : Bool) (s : State) : (s.setInForce e b).sst = s.sst := rfl
@[simp] theorem State.setInForce_moment (e : EntryNo) (b : Bool) (s : State) : (s.setInForce e b).moment = s.moment := rfl
@[simp] theorem State.setInForce_chan (e : EntryNo) (b : Bool) (d : Chan) (s : State) : (s.setInForce e b).chan d = s.chan d := rfl
@[simp] theorem State.setInForce_feeder (e : EntryNo) (b : Bool) (d : Chan) (s : State) : (s.setInForce e b).feeder d = s.feeder d := rfl
@[simp] theorem State.setInForce_setpoint (e : EntryNo) (b : Bool) (d : Chan) (s : State) : (s.setInForce e b).setpoint d = s.setpoint d := rfl
@[simp] theorem State.setInForce_point (e : EntryNo) (b : Bool) (m : PointNo) (s : State) : (s.setInForce e b).point m = s.point m := rfl

/-! ### `State.closeAccess` -/

@[simp] theorem State.closeAccess_pending (s : State) : (s.closeAccess).pending = s.pending := rfl
@[simp] theorem State.closeAccess_phase (s : State) : (s.closeAccess).phase = s.phase := rfl
@[simp] theorem State.closeAccess_tripLine (s : State) : (s.closeAccess).tripLine = s.tripLine := rfl
@[simp] theorem State.closeAccess_ptb (s : State) : (s.closeAccess).ptb = s.ptb := rfl
@[simp] theorem State.closeAccess_lrg (s : State) : (s.closeAccess).lrg = s.lrg := rfl
@[simp] theorem State.closeAccess_chc (s : State) : (s.closeAccess).chc = s.chc := rfl
@[simp] theorem State.closeAccess_fsc (s : State) : (s.closeAccess).fsc = s.fsc := rfl
@[simp] theorem State.closeAccess_fdi (s : State) : (s.closeAccess).fdi = s.fdi := rfl
@[simp] theorem State.closeAccess_clc (s : State) : (s.closeAccess).clc = s.clc := rfl
@[simp] theorem State.closeAccess_alt (s : State) : (s.closeAccess).alt = s.alt := rfl
@[simp] theorem State.closeAccess_sht (s : State) : (s.closeAccess).sht = s.sht := rfl
@[simp] theorem State.closeAccess_control (s : State) : (s.closeAccess).control = s.control := rfl
@[simp] theorem State.closeAccess_panel (s : State) : (s.closeAccess).panel = s.panel := rfl
@[simp] theorem State.closeAccess_sst (s : State) : (s.closeAccess).sst = s.sst := rfl
@[simp] theorem State.closeAccess_moment (s : State) : (s.closeAccess).moment = s.moment := rfl
@[simp] theorem State.closeAccess_chan (d : Chan) (s : State) : (s.closeAccess).chan d = s.chan d := rfl
@[simp] theorem State.closeAccess_feeder (d : Chan) (s : State) : (s.closeAccess).feeder d = s.feeder d := rfl
@[simp] theorem State.closeAccess_setpoint (d : Chan) (s : State) : (s.closeAccess).setpoint d = s.setpoint d := rfl
@[simp] theorem State.closeAccess_point (m : PointNo) (s : State) : (s.closeAccess).point m = s.point m := rfl

/-! ### `State.startOpenTimer` -/

@[simp] theorem State.startOpenTimer_pending (s : State) : (s.startOpenTimer).pending = s.pending := rfl
@[simp] theorem State.startOpenTimer_phase (s : State) : (s.startOpenTimer).phase = s.phase := rfl
@[simp] theorem State.startOpenTimer_tripLine (s : State) : (s.startOpenTimer).tripLine = s.tripLine := rfl
@[simp] theorem State.startOpenTimer_ptb (s : State) : (s.startOpenTimer).ptb = s.ptb := rfl
@[simp] theorem State.startOpenTimer_lrg (s : State) : (s.startOpenTimer).lrg = s.lrg := rfl
@[simp] theorem State.startOpenTimer_chc (s : State) : (s.startOpenTimer).chc = s.chc := rfl
@[simp] theorem State.startOpenTimer_fsc (s : State) : (s.startOpenTimer).fsc = s.fsc := rfl
@[simp] theorem State.startOpenTimer_fdi (s : State) : (s.startOpenTimer).fdi = s.fdi := rfl
@[simp] theorem State.startOpenTimer_clc (s : State) : (s.startOpenTimer).clc = s.clc := rfl
@[simp] theorem State.startOpenTimer_alt (s : State) : (s.startOpenTimer).alt = s.alt := rfl
@[simp] theorem State.startOpenTimer_sht (s : State) : (s.startOpenTimer).sht = s.sht := rfl
@[simp] theorem State.startOpenTimer_control (s : State) : (s.startOpenTimer).control = s.control := rfl
@[simp] theorem State.startOpenTimer_panel (s : State) : (s.startOpenTimer).panel = s.panel := rfl
@[simp] theorem State.startOpenTimer_sst (s : State) : (s.startOpenTimer).sst = s.sst := rfl
@[simp] theorem State.startOpenTimer_moment (s : State) : (s.startOpenTimer).moment = s.moment := rfl
@[simp] theorem State.startOpenTimer_chan (d : Chan) (s : State) : (s.startOpenTimer).chan d = s.chan d := rfl
@[simp] theorem State.startOpenTimer_feeder (d : Chan) (s : State) : (s.startOpenTimer).feeder d = s.feeder d := rfl
@[simp] theorem State.startOpenTimer_setpoint (d : Chan) (s : State) : (s.startOpenTimer).setpoint d = s.setpoint d := rfl
@[simp] theorem State.startOpenTimer_point (m : PointNo) (s : State) : (s.startOpenTimer).point m = s.point m := rfl

/-! ### `State.setShift` -/

@[simp] theorem State.setShift_pending (u : ShiftUnit) (s : State) : (s.setShift u).pending = s.pending := rfl
@[simp] theorem State.setShift_phase (u : ShiftUnit) (s : State) : (s.setShift u).phase = s.phase := rfl
@[simp] theorem State.setShift_tripLine (u : ShiftUnit) (s : State) : (s.setShift u).tripLine = s.tripLine := rfl
@[simp] theorem State.setShift_ptb (u : ShiftUnit) (s : State) : (s.setShift u).ptb = s.ptb := rfl
@[simp] theorem State.setShift_lrg (u : ShiftUnit) (s : State) : (s.setShift u).lrg = s.lrg := rfl
@[simp] theorem State.setShift_chc (u : ShiftUnit) (s : State) : (s.setShift u).chc = s.chc := rfl
@[simp] theorem State.setShift_fsc (u : ShiftUnit) (s : State) : (s.setShift u).fsc = s.fsc := rfl
@[simp] theorem State.setShift_fdi (u : ShiftUnit) (s : State) : (s.setShift u).fdi = s.fdi := rfl
@[simp] theorem State.setShift_clc (u : ShiftUnit) (s : State) : (s.setShift u).clc = s.clc := rfl
@[simp] theorem State.setShift_alt (u : ShiftUnit) (s : State) : (s.setShift u).alt = s.alt := rfl
@[simp] theorem State.setShift_acu (u : ShiftUnit) (s : State) : (s.setShift u).acu = s.acu := rfl
@[simp] theorem State.setShift_control (u : ShiftUnit) (s : State) : (s.setShift u).control = s.control := rfl
@[simp] theorem State.setShift_panel (u : ShiftUnit) (s : State) : (s.setShift u).panel = s.panel := rfl
@[simp] theorem State.setShift_sst (u : ShiftUnit) (s : State) : (s.setShift u).sst = s.sst := rfl
@[simp] theorem State.setShift_moment (u : ShiftUnit) (s : State) : (s.setShift u).moment = s.moment := rfl
@[simp] theorem State.setShift_chan (u : ShiftUnit) (d : Chan) (s : State) : (s.setShift u).chan d = s.chan d := rfl
@[simp] theorem State.setShift_feeder (u : ShiftUnit) (d : Chan) (s : State) : (s.setShift u).feeder d = s.feeder d := rfl
@[simp] theorem State.setShift_setpoint (u : ShiftUnit) (d : Chan) (s : State) : (s.setShift u).setpoint d = s.setpoint d := rfl
@[simp] theorem State.setShift_point (u : ShiftUnit) (m : PointNo) (s : State) : (s.setShift u).point m = s.point m := rfl

/-! ### `State.setAccess` -/

@[simp] theorem State.setAccess_pending (x : Access) (s : State) : (s.setAccess x).pending = s.pending := rfl
@[simp] theorem State.setAccess_phase (x : Access) (s : State) : (s.setAccess x).phase = s.phase := rfl
@[simp] theorem State.setAccess_tripLine (x : Access) (s : State) : (s.setAccess x).tripLine = s.tripLine := rfl
@[simp] theorem State.setAccess_ptb (x : Access) (s : State) : (s.setAccess x).ptb = s.ptb := rfl
@[simp] theorem State.setAccess_lrg (x : Access) (s : State) : (s.setAccess x).lrg = s.lrg := rfl
@[simp] theorem State.setAccess_chc (x : Access) (s : State) : (s.setAccess x).chc = s.chc := rfl
@[simp] theorem State.setAccess_fsc (x : Access) (s : State) : (s.setAccess x).fsc = s.fsc := rfl
@[simp] theorem State.setAccess_fdi (x : Access) (s : State) : (s.setAccess x).fdi = s.fdi := rfl
@[simp] theorem State.setAccess_clc (x : Access) (s : State) : (s.setAccess x).clc = s.clc := rfl
@[simp] theorem State.setAccess_alt (x : Access) (s : State) : (s.setAccess x).alt = s.alt := rfl
@[simp] theorem State.setAccess_sht (x : Access) (s : State) : (s.setAccess x).sht = s.sht := rfl
@[simp] theorem State.setAccess_control (x : Access) (s : State) : (s.setAccess x).control = s.control := rfl
@[simp] theorem State.setAccess_panel (x : Access) (s : State) : (s.setAccess x).panel = s.panel := rfl
@[simp] theorem State.setAccess_sst (x : Access) (s : State) : (s.setAccess x).sst = s.sst := rfl
@[simp] theorem State.setAccess_moment (x : Access) (s : State) : (s.setAccess x).moment = s.moment := rfl
@[simp] theorem State.setAccess_chan (x : Access) (d : Chan) (s : State) : (s.setAccess x).chan d = s.chan d := rfl
@[simp] theorem State.setAccess_feeder (x : Access) (d : Chan) (s : State) : (s.setAccess x).feeder d = s.feeder d := rfl
@[simp] theorem State.setAccess_setpoint (x : Access) (d : Chan) (s : State) : (s.setAccess x).setpoint d = s.setpoint d := rfl
@[simp] theorem State.setAccess_point (x : Access) (m : PointNo) (s : State) : (s.setAccess x).point m = s.point m := rfl

/-! ### `State.setCooler` -/

@[simp] theorem State.setCooler_pending (k : Cooler) (s : State) : (s.setCooler k).pending = s.pending := rfl
@[simp] theorem State.setCooler_phase (k : Cooler) (s : State) : (s.setCooler k).phase = s.phase := rfl
@[simp] theorem State.setCooler_tripLine (k : Cooler) (s : State) : (s.setCooler k).tripLine = s.tripLine := rfl
@[simp] theorem State.setCooler_ptb (k : Cooler) (s : State) : (s.setCooler k).ptb = s.ptb := rfl
@[simp] theorem State.setCooler_lrg (k : Cooler) (s : State) : (s.setCooler k).lrg = s.lrg := rfl
@[simp] theorem State.setCooler_chc (k : Cooler) (s : State) : (s.setCooler k).chc = s.chc := rfl
@[simp] theorem State.setCooler_fsc (k : Cooler) (s : State) : (s.setCooler k).fsc = s.fsc := rfl
@[simp] theorem State.setCooler_fdi (k : Cooler) (s : State) : (s.setCooler k).fdi = s.fdi := rfl
@[simp] theorem State.setCooler_alt (k : Cooler) (s : State) : (s.setCooler k).alt = s.alt := rfl
@[simp] theorem State.setCooler_sht (k : Cooler) (s : State) : (s.setCooler k).sht = s.sht := rfl
@[simp] theorem State.setCooler_acu (k : Cooler) (s : State) : (s.setCooler k).acu = s.acu := rfl
@[simp] theorem State.setCooler_control (k : Cooler) (s : State) : (s.setCooler k).control = s.control := rfl
@[simp] theorem State.setCooler_panel (k : Cooler) (s : State) : (s.setCooler k).panel = s.panel := rfl
@[simp] theorem State.setCooler_sst (k : Cooler) (s : State) : (s.setCooler k).sst = s.sst := rfl
@[simp] theorem State.setCooler_moment (k : Cooler) (s : State) : (s.setCooler k).moment = s.moment := rfl
@[simp] theorem State.setCooler_chan (k : Cooler) (d : Chan) (s : State) : (s.setCooler k).chan d = s.chan d := rfl
@[simp] theorem State.setCooler_feeder (k : Cooler) (d : Chan) (s : State) : (s.setCooler k).feeder d = s.feeder d := rfl
@[simp] theorem State.setCooler_setpoint (k : Cooler) (d : Chan) (s : State) : (s.setCooler k).setpoint d = s.setpoint d := rfl
@[simp] theorem State.setCooler_point (k : Cooler) (m : PointNo) (s : State) : (s.setCooler k).point m = s.point m := rfl

/-! ### `State.setCompartment` -/

@[simp] theorem State.setCompartment_pending (n : Comp) (x : Compartment) (s : State) : (s.setCompartment n x).pending = s.pending := rfl
@[simp] theorem State.setCompartment_phase (n : Comp) (x : Compartment) (s : State) : (s.setCompartment n x).phase = s.phase := rfl
@[simp] theorem State.setCompartment_tripLine (n : Comp) (x : Compartment) (s : State) : (s.setCompartment n x).tripLine = s.tripLine := rfl
@[simp] theorem State.setCompartment_ptb (n : Comp) (x : Compartment) (s : State) : (s.setCompartment n x).ptb = s.ptb := rfl
@[simp] theorem State.setCompartment_lrg (n : Comp) (x : Compartment) (s : State) : (s.setCompartment n x).lrg = s.lrg := rfl
@[simp] theorem State.setCompartment_chc (n : Comp) (x : Compartment) (s : State) : (s.setCompartment n x).chc = s.chc := rfl
@[simp] theorem State.setCompartment_fsc (n : Comp) (x : Compartment) (s : State) : (s.setCompartment n x).fsc = s.fsc := rfl
@[simp] theorem State.setCompartment_fdi (n : Comp) (x : Compartment) (s : State) : (s.setCompartment n x).fdi = s.fdi := rfl
@[simp] theorem State.setCompartment_alt (n : Comp) (x : Compartment) (s : State) : (s.setCompartment n x).alt = s.alt := rfl
@[simp] theorem State.setCompartment_sht (n : Comp) (x : Compartment) (s : State) : (s.setCompartment n x).sht = s.sht := rfl
@[simp] theorem State.setCompartment_acu (n : Comp) (x : Compartment) (s : State) : (s.setCompartment n x).acu = s.acu := rfl
@[simp] theorem State.setCompartment_control (n : Comp) (x : Compartment) (s : State) : (s.setCompartment n x).control = s.control := rfl
@[simp] theorem State.setCompartment_panel (n : Comp) (x : Compartment) (s : State) : (s.setCompartment n x).panel = s.panel := rfl
@[simp] theorem State.setCompartment_sst (n : Comp) (x : Compartment) (s : State) : (s.setCompartment n x).sst = s.sst := rfl
@[simp] theorem State.setCompartment_moment (n : Comp) (x : Compartment) (s : State) : (s.setCompartment n x).moment = s.moment := rfl
@[simp] theorem State.setCompartment_chan (n : Comp) (x : Compartment) (d : Chan) (s : State) : (s.setCompartment n x).chan d = s.chan d := rfl
@[simp] theorem State.setCompartment_feeder (n : Comp) (x : Compartment) (d : Chan) (s : State) : (s.setCompartment n x).feeder d = s.feeder d := rfl
@[simp] theorem State.setCompartment_setpoint (n : Comp) (x : Compartment) (d : Chan) (s : State) : (s.setCompartment n x).setpoint d = s.setpoint d := rfl
@[simp] theorem State.setCompartment_point (n : Comp) (x : Compartment) (m : PointNo) (s : State) : (s.setCompartment n x).point m = s.point m := rfl

/-! ### `State.writeControl` -/

@[simp] theorem State.writeControl_pending (r : Response) (s : State) : (s.writeControl r).pending = s.pending := rfl
@[simp] theorem State.writeControl_phase (r : Response) (s : State) : (s.writeControl r).phase = s.phase := rfl
@[simp] theorem State.writeControl_tripLine (r : Response) (s : State) : (s.writeControl r).tripLine = s.tripLine := rfl
@[simp] theorem State.writeControl_ptb (r : Response) (s : State) : (s.writeControl r).ptb = s.ptb := rfl
@[simp] theorem State.writeControl_lrg (r : Response) (s : State) : (s.writeControl r).lrg = s.lrg := rfl
@[simp] theorem State.writeControl_chc (r : Response) (s : State) : (s.writeControl r).chc = s.chc := rfl
@[simp] theorem State.writeControl_fsc (r : Response) (s : State) : (s.writeControl r).fsc = s.fsc := rfl
@[simp] theorem State.writeControl_fdi (r : Response) (s : State) : (s.writeControl r).fdi = s.fdi := rfl
@[simp] theorem State.writeControl_clc (r : Response) (s : State) : (s.writeControl r).clc = s.clc := rfl
@[simp] theorem State.writeControl_alt (r : Response) (s : State) : (s.writeControl r).alt = s.alt := rfl
@[simp] theorem State.writeControl_sht (r : Response) (s : State) : (s.writeControl r).sht = s.sht := rfl
@[simp] theorem State.writeControl_acu (r : Response) (s : State) : (s.writeControl r).acu = s.acu := rfl
@[simp] theorem State.writeControl_panel (r : Response) (s : State) : (s.writeControl r).panel = s.panel := rfl
@[simp] theorem State.writeControl_sst (r : Response) (s : State) : (s.writeControl r).sst = s.sst := rfl
@[simp] theorem State.writeControl_moment (r : Response) (s : State) : (s.writeControl r).moment = s.moment := rfl
@[simp] theorem State.writeControl_chan (r : Response) (d : Chan) (s : State) : (s.writeControl r).chan d = s.chan d := rfl
@[simp] theorem State.writeControl_feeder (r : Response) (d : Chan) (s : State) : (s.writeControl r).feeder d = s.feeder d := rfl
@[simp] theorem State.writeControl_setpoint (r : Response) (d : Chan) (s : State) : (s.writeControl r).setpoint d = s.setpoint d := rfl
@[simp] theorem State.writeControl_point (r : Response) (m : PointNo) (s : State) : (s.writeControl r).point m = s.point m := rfl

/-! ### `State.shiftOut` -/

@[simp] theorem State.shiftOut_pending (l : List Byte) (s : State) : (s.shiftOut l).pending = s.pending := rfl
@[simp] theorem State.shiftOut_phase (l : List Byte) (s : State) : (s.shiftOut l).phase = s.phase := rfl
@[simp] theorem State.shiftOut_tripLine (l : List Byte) (s : State) : (s.shiftOut l).tripLine = s.tripLine := rfl
@[simp] theorem State.shiftOut_ptb (l : List Byte) (s : State) : (s.shiftOut l).ptb = s.ptb := rfl
@[simp] theorem State.shiftOut_lrg (l : List Byte) (s : State) : (s.shiftOut l).lrg = s.lrg := rfl
@[simp] theorem State.shiftOut_chc (l : List Byte) (s : State) : (s.shiftOut l).chc = s.chc := rfl
@[simp] theorem State.shiftOut_fsc (l : List Byte) (s : State) : (s.shiftOut l).fsc = s.fsc := rfl
@[simp] theorem State.shiftOut_fdi (l : List Byte) (s : State) : (s.shiftOut l).fdi = s.fdi := rfl
@[simp] theorem State.shiftOut_clc (l : List Byte) (s : State) : (s.shiftOut l).clc = s.clc := rfl
@[simp] theorem State.shiftOut_alt (l : List Byte) (s : State) : (s.shiftOut l).alt = s.alt := rfl
@[simp] theorem State.shiftOut_sht (l : List Byte) (s : State) : (s.shiftOut l).sht = s.sht := rfl
@[simp] theorem State.shiftOut_acu (l : List Byte) (s : State) : (s.shiftOut l).acu = s.acu := rfl
@[simp] theorem State.shiftOut_panel (l : List Byte) (s : State) : (s.shiftOut l).panel = s.panel := rfl
@[simp] theorem State.shiftOut_sst (l : List Byte) (s : State) : (s.shiftOut l).sst = s.sst := rfl
@[simp] theorem State.shiftOut_moment (l : List Byte) (s : State) : (s.shiftOut l).moment = s.moment := rfl
@[simp] theorem State.shiftOut_chan (l : List Byte) (d : Chan) (s : State) : (s.shiftOut l).chan d = s.chan d := rfl
@[simp] theorem State.shiftOut_feeder (l : List Byte) (d : Chan) (s : State) : (s.shiftOut l).feeder d = s.feeder d := rfl
@[simp] theorem State.shiftOut_setpoint (l : List Byte) (d : Chan) (s : State) : (s.shiftOut l).setpoint d = s.setpoint d := rfl
@[simp] theorem State.shiftOut_point (l : List Byte) (m : PointNo) (s : State) : (s.shiftOut l).point m = s.point m := rfl

/-! ### `State.setReceiver` -/

@[simp] theorem State.setReceiver_pending (r : Receiver) (s : State) : (s.setReceiver r).pending = s.pending := rfl
@[simp] theorem State.setReceiver_phase (r : Receiver) (s : State) : (s.setReceiver r).phase = s.phase := rfl
@[simp] theorem State.setReceiver_tripLine (r : Receiver) (s : State) : (s.setReceiver r).tripLine = s.tripLine := rfl
@[simp] theorem State.setReceiver_ptb (r : Receiver) (s : State) : (s.setReceiver r).ptb = s.ptb := rfl
@[simp] theorem State.setReceiver_lrg (r : Receiver) (s : State) : (s.setReceiver r).lrg = s.lrg := rfl
@[simp] theorem State.setReceiver_chc (r : Receiver) (s : State) : (s.setReceiver r).chc = s.chc := rfl
@[simp] theorem State.setReceiver_fsc (r : Receiver) (s : State) : (s.setReceiver r).fsc = s.fsc := rfl
@[simp] theorem State.setReceiver_fdi (r : Receiver) (s : State) : (s.setReceiver r).fdi = s.fdi := rfl
@[simp] theorem State.setReceiver_clc (r : Receiver) (s : State) : (s.setReceiver r).clc = s.clc := rfl
@[simp] theorem State.setReceiver_alt (r : Receiver) (s : State) : (s.setReceiver r).alt = s.alt := rfl
@[simp] theorem State.setReceiver_sht (r : Receiver) (s : State) : (s.setReceiver r).sht = s.sht := rfl
@[simp] theorem State.setReceiver_acu (r : Receiver) (s : State) : (s.setReceiver r).acu = s.acu := rfl
@[simp] theorem State.setReceiver_control (r : Receiver) (s : State) : (s.setReceiver r).control = s.control := rfl
@[simp] theorem State.setReceiver_sst (r : Receiver) (s : State) : (s.setReceiver r).sst = s.sst := rfl
@[simp] theorem State.setReceiver_moment (r : Receiver) (s : State) : (s.setReceiver r).moment = s.moment := rfl
@[simp] theorem State.setReceiver_chan (r : Receiver) (d : Chan) (s : State) : (s.setReceiver r).chan d = s.chan d := rfl
@[simp] theorem State.setReceiver_feeder (r : Receiver) (d : Chan) (s : State) : (s.setReceiver r).feeder d = s.feeder d := rfl
@[simp] theorem State.setReceiver_setpoint (r : Receiver) (d : Chan) (s : State) : (s.setReceiver r).setpoint d = s.setpoint d := rfl
@[simp] theorem State.setReceiver_point (r : Receiver) (m : PointNo) (s : State) : (s.setReceiver r).point m = s.point m := rfl

/-! ### `State.countTaken` -/

@[simp] theorem State.countTaken_pending (p : Port) (s : State) : (s.countTaken p).pending = s.pending := by cases p <;> rfl
@[simp] theorem State.countTaken_phase (p : Port) (s : State) : (s.countTaken p).phase = s.phase := by cases p <;> rfl
@[simp] theorem State.countTaken_tripLine (p : Port) (s : State) : (s.countTaken p).tripLine = s.tripLine := by cases p <;> rfl
@[simp] theorem State.countTaken_ptb (p : Port) (s : State) : (s.countTaken p).ptb = s.ptb := by cases p <;> rfl
@[simp] theorem State.countTaken_lrg (p : Port) (s : State) : (s.countTaken p).lrg = s.lrg := by cases p <;> rfl
@[simp] theorem State.countTaken_chc (p : Port) (s : State) : (s.countTaken p).chc = s.chc := by cases p <;> rfl
@[simp] theorem State.countTaken_fsc (p : Port) (s : State) : (s.countTaken p).fsc = s.fsc := by cases p <;> rfl
@[simp] theorem State.countTaken_fdi (p : Port) (s : State) : (s.countTaken p).fdi = s.fdi := by cases p <;> rfl
@[simp] theorem State.countTaken_clc (p : Port) (s : State) : (s.countTaken p).clc = s.clc := by cases p <;> rfl
@[simp] theorem State.countTaken_alt (p : Port) (s : State) : (s.countTaken p).alt = s.alt := by cases p <;> rfl
@[simp] theorem State.countTaken_sht (p : Port) (s : State) : (s.countTaken p).sht = s.sht := by cases p <;> rfl
@[simp] theorem State.countTaken_acu (p : Port) (s : State) : (s.countTaken p).acu = s.acu := by cases p <;> rfl
@[simp] theorem State.countTaken_sst (p : Port) (s : State) : (s.countTaken p).sst = s.sst := by cases p <;> rfl
@[simp] theorem State.countTaken_moment (p : Port) (s : State) : (s.countTaken p).moment = s.moment := by cases p <;> rfl
@[simp] theorem State.countTaken_chan (p : Port) (d : Chan) (s : State) : (s.countTaken p).chan d = s.chan d := by cases p <;> rfl
@[simp] theorem State.countTaken_feeder (p : Port) (d : Chan) (s : State) : (s.countTaken p).feeder d = s.feeder d := by cases p <;> rfl
@[simp] theorem State.countTaken_setpoint (p : Port) (d : Chan) (s : State) : (s.countTaken p).setpoint d = s.setpoint d := by cases p <;> rfl
@[simp] theorem State.countTaken_point (p : Port) (m : PointNo) (s : State) : (s.countTaken p).point m = s.point m := by cases p <;> rfl

/-! ### `State.countBad` -/

@[simp] theorem State.countBad_pending (p : Port) (s : State) : (s.countBad p).pending = s.pending := by cases p <;> rfl
@[simp] theorem State.countBad_phase (p : Port) (s : State) : (s.countBad p).phase = s.phase := by cases p <;> rfl
@[simp] theorem State.countBad_tripLine (p : Port) (s : State) : (s.countBad p).tripLine = s.tripLine := by cases p <;> rfl
@[simp] theorem State.countBad_ptb (p : Port) (s : State) : (s.countBad p).ptb = s.ptb := by cases p <;> rfl
@[simp] theorem State.countBad_lrg (p : Port) (s : State) : (s.countBad p).lrg = s.lrg := by cases p <;> rfl
@[simp] theorem State.countBad_chc (p : Port) (s : State) : (s.countBad p).chc = s.chc := by cases p <;> rfl
@[simp] theorem State.countBad_fsc (p : Port) (s : State) : (s.countBad p).fsc = s.fsc := by cases p <;> rfl
@[simp] theorem State.countBad_fdi (p : Port) (s : State) : (s.countBad p).fdi = s.fdi := by cases p <;> rfl
@[simp] theorem State.countBad_clc (p : Port) (s : State) : (s.countBad p).clc = s.clc := by cases p <;> rfl
@[simp] theorem State.countBad_alt (p : Port) (s : State) : (s.countBad p).alt = s.alt := by cases p <;> rfl
@[simp] theorem State.countBad_sht (p : Port) (s : State) : (s.countBad p).sht = s.sht := by cases p <;> rfl
@[simp] theorem State.countBad_acu (p : Port) (s : State) : (s.countBad p).acu = s.acu := by cases p <;> rfl
@[simp] theorem State.countBad_sst (p : Port) (s : State) : (s.countBad p).sst = s.sst := by cases p <;> rfl
@[simp] theorem State.countBad_moment (p : Port) (s : State) : (s.countBad p).moment = s.moment := by cases p <;> rfl
@[simp] theorem State.countBad_chan (p : Port) (d : Chan) (s : State) : (s.countBad p).chan d = s.chan d := by cases p <;> rfl
@[simp] theorem State.countBad_feeder (p : Port) (d : Chan) (s : State) : (s.countBad p).feeder d = s.feeder d := by cases p <;> rfl
@[simp] theorem State.countBad_setpoint (p : Port) (d : Chan) (s : State) : (s.countBad p).setpoint d = s.setpoint d := by cases p <;> rfl
@[simp] theorem State.countBad_point (p : Port) (m : PointNo) (s : State) : (s.countBad p).point m = s.point m := by cases p <;> rfl

/-! ### `State.taking` -/

@[simp] theorem State.taking_pending (p : Port) (s : State) : (s.taking p).pending = s.pending := by cases p <;> rfl
@[simp] theorem State.taking_phase (p : Port) (s : State) : (s.taking p).phase = s.phase := by cases p <;> rfl
@[simp] theorem State.taking_tripLine (p : Port) (s : State) : (s.taking p).tripLine = s.tripLine := by cases p <;> rfl
@[simp] theorem State.taking_ptb (p : Port) (s : State) : (s.taking p).ptb = s.ptb := by cases p <;> rfl
@[simp] theorem State.taking_lrg (p : Port) (s : State) : (s.taking p).lrg = s.lrg := by cases p <;> rfl
@[simp] theorem State.taking_chc (p : Port) (s : State) : (s.taking p).chc = s.chc := by cases p <;> rfl
@[simp] theorem State.taking_fsc (p : Port) (s : State) : (s.taking p).fsc = s.fsc := by cases p <;> rfl
@[simp] theorem State.taking_fdi (p : Port) (s : State) : (s.taking p).fdi = s.fdi := by cases p <;> rfl
@[simp] theorem State.taking_clc (p : Port) (s : State) : (s.taking p).clc = s.clc := by cases p <;> rfl
@[simp] theorem State.taking_alt (p : Port) (s : State) : (s.taking p).alt = s.alt := by cases p <;> rfl
@[simp] theorem State.taking_sht (p : Port) (s : State) : (s.taking p).sht = s.sht := by cases p <;> rfl
@[simp] theorem State.taking_acu (p : Port) (s : State) : (s.taking p).acu = s.acu := by cases p <;> rfl
@[simp] theorem State.taking_sst (p : Port) (s : State) : (s.taking p).sst = s.sst := by cases p <;> rfl
@[simp] theorem State.taking_moment (p : Port) (s : State) : (s.taking p).moment = s.moment := by cases p <;> rfl
@[simp] theorem State.taking_chan (p : Port) (d : Chan) (s : State) : (s.taking p).chan d = s.chan d := by cases p <;> rfl
@[simp] theorem State.taking_feeder (p : Port) (d : Chan) (s : State) : (s.taking p).feeder d = s.feeder d := by cases p <;> rfl
@[simp] theorem State.taking_setpoint (p : Port) (d : Chan) (s : State) : (s.taking p).setpoint d = s.setpoint d := by cases p <;> rfl
@[simp] theorem State.taking_point (p : Port) (m : PointNo) (s : State) : (s.taking p).point m = s.point m := by cases p <;> rfl

/-! ### `State.after` -/

@[simp] theorem State.after_pending (s : State) : (s.after).pending = s.pending := rfl
@[simp] theorem State.after_phase (s : State) : (s.after).phase = s.phase := rfl
@[simp] theorem State.after_tripLine (s : State) : (s.after).tripLine = s.tripLine := rfl
@[simp] theorem State.after_ptb (s : State) : (s.after).ptb = s.ptb := rfl
@[simp] theorem State.after_lrg (s : State) : (s.after).lrg = s.lrg := rfl
@[simp] theorem State.after_chc (s : State) : (s.after).chc = s.chc := rfl
@[simp] theorem State.after_fsc (s : State) : (s.after).fsc = s.fsc := rfl
@[simp] theorem State.after_fdi (s : State) : (s.after).fdi = s.fdi := rfl
@[simp] theorem State.after_clc (s : State) : (s.after).clc = s.clc := rfl
@[simp] theorem State.after_alt (s : State) : (s.after).alt = s.alt := rfl
@[simp] theorem State.after_sht (s : State) : (s.after).sht = s.sht := rfl
@[simp] theorem State.after_acu (s : State) : (s.after).acu = s.acu := rfl
@[simp] theorem State.after_control (s : State) : (s.after).control = s.control := rfl
@[simp] theorem State.after_panel (s : State) : (s.after).panel = s.panel := rfl
@[simp] theorem State.after_sst (s : State) : (s.after).sst = s.sst := rfl
@[simp] theorem State.after_chan (d : Chan) (s : State) : (s.after).chan d = s.chan d := rfl
@[simp] theorem State.after_feeder (d : Chan) (s : State) : (s.after).feeder d = s.feeder d := rfl
@[simp] theorem State.after_setpoint (d : Chan) (s : State) : (s.after).setpoint d = s.setpoint d := rfl
@[simp] theorem State.after_point (m : PointNo) (s : State) : (s.after).point m = s.point m := rfl

/-! ### What the updates write -/

@[simp] theorem State.setChan_chan_self (c : Chan) (r : ChannelRecord) (s : State) :
    (s.setChan c r).chan c = r := Tbl.get_put_self ..

theorem State.setChan_chan_ne {c d : Chan} (h : d ≠ c) (r : ChannelRecord) (s : State) :
    (s.setChan c r).chan d = s.chan d := Tbl.get_put_ne h ..

theorem State.setChan_chan (c d : Chan) (r : ChannelRecord) (s : State) :
    (s.setChan c r).chan d = if d = c then r else s.chan d := Tbl.get_put ..

@[simp] theorem State.setChan_setChan (c : Chan) (r q : ChannelRecord) (s : State) :
    (s.setChan c r).setChan c q = s.setChan c q := by simp [State.setChan]

@[simp] theorem State.setChan_supervision (c : Chan) (r : ChannelRecord) (s : State) :
    (s.setChan c r).chc.supervision = s.chc.supervision := rfl

@[simp] theorem State.setFeeder_feeder_self (c : Chan) (b : FeederBlock) (s : State) :
    (s.setFeeder c b).feeder c = b := Tbl.get_put_self ..

theorem State.setFeeder_feeder_ne {c d : Chan} (h : d ≠ c) (b : FeederBlock) (s : State) :
    (s.setFeeder c b).feeder d = s.feeder d := Tbl.get_put_ne h ..

theorem State.setFeeder_feeder (c d : Chan) (b : FeederBlock) (s : State) :
    (s.setFeeder c b).feeder d = if d = c then b else s.feeder d := Tbl.get_put ..

@[simp] theorem State.setFeeder_setFeeder (c : Chan) (b d : FeederBlock) (s : State) :
    (s.setFeeder c b).setFeeder c d = s.setFeeder c d := by simp [State.setFeeder]

@[simp] theorem State.setSetpoint_setpoint_self (c : Chan) (v : Nat) (s : State) :
    (s.setSetpoint c v).setpoint c = v := Tbl.get_put_self ..

theorem State.setSetpoint_setpoint_ne {c d : Chan} (h : d ≠ c) (v : Nat) (s : State) :
    (s.setSetpoint c v).setpoint d = s.setpoint d := Tbl.get_put_ne h ..

@[simp] theorem State.drive_setpoint_self (c : Chan) (v : Nat) (s : State) :
    (s.drive c v).setpoint c = v := Tbl.get_put_self ..

theorem State.drive_setpoint_ne {c d : Chan} (h : d ≠ c) (v : Nat) (s : State) :
    (s.drive c v).setpoint d = s.setpoint d := Tbl.get_put_ne h ..

@[simp] theorem State.drive_target (c : Chan) (v : Nat) (s : State) :
    (s.drive c v).fsc.target = s.fsc.target := rfl

@[simp] theorem State.drive_feeder_self (c : Chan) (v : Nat) (s : State) :
    (s.drive c v).feeder c = { s.feeder c with pendingRate := rateOf (s.feeder c) v } := Tbl.get_put_self ..

theorem State.drive_feeder_ne {c d : Chan} (h : d ≠ c) (v : Nat) (s : State) :
    (s.drive c v).feeder d = s.feeder d := Tbl.get_put_ne h ..

@[simp] theorem State.handOver_feeder_self (c : Chan) (v : Nat) (s : State) :
    (s.handOver c v).feeder c = { s.feeder c with pendingRate := rateOf (s.feeder c) v } := Tbl.get_put_self ..

theorem State.handOver_feeder_ne {c d : Chan} (h : d ≠ c) (v : Nat) (s : State) :
    (s.handOver c v).feeder d = s.feeder d := Tbl.get_put_ne h ..

@[simp] theorem State.setPoint_point_self (p : PointNo) (r : PointRecord) (s : State) :
    (s.setPoint p r).point p = r := Tbl.get_put_self ..

theorem State.setPoint_point_ne {p m : PointNo} (h : m ≠ p) (r : PointRecord) (s : State) :
    (s.setPoint p r).point m = s.point m := Tbl.get_put_ne h ..

@[simp] theorem State.setPoint_setPoint (p : PointNo) (r q : PointRecord) (s : State) :
    (s.setPoint p r).setPoint p q = s.setPoint p q := by simp [State.setPoint]

@[simp] theorem State.setPoint_offMarks (p : PointNo) (r : PointRecord) (s : State) :
    (s.setPoint p r).ptb.offMarks = s.ptb.offMarks := rfl

@[simp] theorem State.setAlt_alt (a : AlarmTable) (s : State) : (s.setAlt a).alt = a := rfl

@[simp] theorem State.setAlt_setAlt (a b : AlarmTable) (s : State) : (s.setAlt a).setAlt b = s.setAlt b := rfl

@[simp] theorem State.settle_alt (s : State) : s.settle.alt = s.alt.settled := rfl

@[simp] theorem State.setSupervision_supervision (v : Supervision) (s : State) :
    (s.setSupervision v).chc.supervision = v := rfl

@[simp] theorem State.setSupervision_chan (v : Supervision) (c : Chan) (s : State) :
    (s.setSupervision v).chan c = s.chan c := rfl

@[simp] theorem State.setShift_sht (u : ShiftUnit) (s : State) : (s.setShift u).sht = u := rfl

@[simp] theorem State.setAccess_acu (x : Access) (s : State) : (s.setAccess x).acu = x := rfl

@[simp] theorem State.setCooler_clc (k : Cooler) (s : State) : (s.setCooler k).clc = k := rfl

@[simp] theorem State.setCompartment_get_self (n : Comp) (x : Compartment) (s : State) :
    (s.setCompartment n x).clc.compartments.get n = x := Tbl.get_put_self ..

@[simp] theorem State.closeAccess_isOpen (s : State) : s.closeAccess.acu.isOpen = false := rfl

@[simp] theorem State.startOpenTimer_isOpen (s : State) : s.startOpenTimer.acu.isOpen = true := rfl

@[simp] theorem State.after_moment (s : State) : s.after.moment = s.moment + 1 := rfl

@[simp] theorem State.setLot_lot_self (i : LotNo) (r : LotRecord) (s : State) :
    (s.setLot i r).lrg.lot i = some r := by
  simp [State.setLot, LotRegistry.lot]

theorem State.setLot_lot_ne {i j : LotNo} (h : j ≠ i) (r : LotRecord) (s : State) :
    (s.setLot i r).lrg.lot j = s.lrg.lot j := by
  simp [State.setLot, LotRegistry.lot, Tbl.get_modify_ne h]

@[simp] theorem State.setLot_queues (i : LotNo) (r : LotRecord) (s : State) :
    (s.setLot i r).lrg.queues = s.lrg.queues := rfl

@[simp] theorem State.setQueue_queue_self (c : Chan) (q : List LotNo) (s : State) :
    (s.setQueue c q).lrg.queues.get c = q := Tbl.get_put_self ..

@[simp] theorem State.setQueue_lot (c : Chan) (q : List LotNo) (i : LotNo) (s : State) :
    (s.setQueue c q).lrg.lot i = s.lrg.lot i := rfl

end Sys2Proof.Machine
end

