-- ==== Sys2Proof/Laws/Links.lean ====
section
/-! SUPPORT. What the links do with a frame: a request taken at once is answered by the owner's rule and
its reply carried back; the operations over the two ports change nothing but the ports.
-/

namespace Sys2Proof.Machine

/-- A request that is `Ready` passes the acceptance checks: its owner answers. -/
theorem accept_of_ready {k : Kind} {p : Port} {f : List Byte} {s : State} (h : Ready k p f s) (o : Owner) :
    accept k o p f (s.taking p) = o p f (s.taking p) := by
  obtain ⟨h1, -, h3, h4, h5⟩ := h
  have hb : ¬ (s.sst.saving = true ∧ busyDuringSave k = true) := by
    rintro ⟨a, b⟩; simp [Store.saving, h5 b] at a
  have hp : ¬ (p = .panel ∧ panelMay k = false) := by
    rintro ⟨a, b⟩; simp [h3 a] at b
  simp [accept, h1, h4, hp, hb]

/-- A request that is taken at once and passes the checks leaves the owner's reply, delivered. -/
theorem finish_requestArrives {k : Kind} {p : Port} {f : List Byte} {s : State} (h : Ready k p f s) (o : Owner)
    (q : Byte) : finish (s.requestArrives k o p q f) = .next (delivered k p q f (o p f (s.taking p))) := by
  have ha := accept_of_ready h o
  obtain ⟨h1, h2, -, -, -⟩ := h
  cases p with
  | control =>
    simp only [State.requestArrives, State.controlArrives, State.linked, State.runs, h1, answerRequest]
    simp only [State.taking] at ha
    simp [ha, finish, delivered, State.taking]
  | panel =>
    obtain ⟨h2, h3⟩ := h2
    have e : finish (s.requestArrives k o .panel q f)
        = .next { (accept k o .panel f (s.taking .panel)).state with
            panel := { (accept k o .panel f (s.taking .panel)).state.panel with
              sending := some ⟨k.code, (accept k o .panel f (s.taking .panel)).status, q,
                (accept k o .panel f (s.taking .panel)).fields⟩ }
            moment := (accept k o .panel f (s.taking .panel)).state.moment + 1 } := by
      have hl : s.linked = true := by simp [State.linked, h1]
      have hf : (s.setReceiver .hunt).panel.sending.isNone = true
          ∧ (s.setReceiver .hunt).panel.held.isNone = true := by simp [State.setReceiver, h2, h3]
      simp only [State.requestArrives, State.panelArrives, hl, if_true, State.panelHandOn, if_pos hf]
      rfl
    rw [e, ha]; rfl

@[simp] theorem finish_eq (s : State) : finish s = .next s.after := rfl

theorem State.whileRunning_running {s : State} (h : s.phase = .running) (f : State → State) :
    s.whileRunning f = f s := by simp [State.whileRunning, State.runs, h]

/-- A `taken` state differs from the state by its ports alone. -/
theorem State.taking_eq (p : Port) (s : State) :
    s.taking p = { s with control := (s.taking p).control, panel := (s.taking p).panel } := by
  cases p <;> rfl

end Sys2Proof.Machine
end

