-- ==== Sys2Proof/Laws/Reports.lean ====
section
/-! SUPPORT. Everything that a report to the alarm table can change: the table itself, and through the trip
map the run states, drives and tallies of channels.  `ReportTouch s t` says it once; each shared operation of
a report has it, and a fold of such operations has it too.
-/

namespace Sys2Proof.Machine

/-- What a report, a hold or a trip may change from one state to the next. -/
structure ReportTouch (s t : State) : Prop where
  rest        : t = { s with alt := t.alt, chc := t.chc, fsc := t.fsc, fdi := t.fdi, sht := t.sht }
  rules       : ∀ e, (t.alt.tripMap.get e).rule = (s.alt.tripMap.get e).rule
  waiting     : t.alt.reportWaiting = s.alt.reportWaiting
  supervision : t.chc.supervision = s.chc.supervision
  chan        : ∀ c, t.chan c = { s.chan c with
                  state := (t.chan c).state, holds := (t.chan c).holds, alarmHolds := (t.chan c).alarmHolds
                  tripCause := (t.chan c).tripCause, startTimer := (t.chan c).startTimer }
  holds       : ∀ c, (t.chan c).holds.controlLost = (s.chan c).holds.controlLost
                  ∧ (t.chan c).holds.operator = (s.chan c).holds.operator
  off         : ∀ c, (t.chan c).state = .off ↔ (s.chan c).state = .off
  tripped     : ∀ c, (s.chan c).state = .tripped →
                  (t.chan c).state = .tripped ∧ (t.chan c).tripCause = (s.chan c).tripCause
  firing      : t.fsc = { s.fsc with
                  target := t.fsc.target, setpoint := t.fsc.setpoint, clZeroed := t.fsc.clZeroed }
  feeder      : ∀ c, t.feeder c = { s.feeder c with
                  pendingRate := (t.feeder c).pendingRate, appliedRate := (t.feeder c).appliedRate
                  stallWindow := (t.feeder c).stallWindow, expectedSum := (t.feeder c).expectedSum
                  countedMass := (t.feeder c).countedMass }
  shift       : t.sht = { s.sht with current := { s.sht.current with
                  channels := t.sht.current.channels, came := t.sht.current.came } }
  tallies     : ∀ c, t.sht.current.channels.get c = { s.sht.current.channels.get c with
                  trips := (t.sht.current.channels.get c).trips }

namespace ReportTouch

theorem refl (s : State) : ReportTouch s s :=
  ⟨rfl, fun _ => rfl, rfl, rfl, fun _ => rfl, fun _ => ⟨rfl, rfl⟩, fun _ => Iff.rfl, fun _ h => ⟨h, rfl⟩, rfl,
    fun _ => rfl, rfl, fun _ => rfl⟩

theorem trans {s t u : State} (a : ReportTouch s t) (b : ReportTouch t u) : ReportTouch s u where
  rest := by rw [b.rest, a.rest]
  rules e := (b.rules e).trans (a.rules e)
  waiting := b.waiting.trans a.waiting
  supervision := b.supervision.trans a.supervision
  chan c := by rw [b.chan c, a.chan c]
  holds c := ⟨(b.holds c).1.trans (a.holds c).1, (b.holds c).2.trans (a.holds c).2⟩
  off c := (b.off c).trans (a.off c)
  tripped c h := ⟨(b.tripped c (a.tripped c h).1).1, (b.tripped c (a.tripped c h).1).2.trans (a.tripped c h).2⟩
  firing := by rw [b.firing, a.firing]
  feeder c := by rw [b.feeder c, a.feeder c]
  shift := by rw [b.shift, a.shift]
  tallies c := by rw [b.tallies c, a.tallies c]

/-- Steps that each have it, folded over a list, have it together. -/
theorem foldl {α : Type} {f : State → α → State} (h : ∀ s a, ReportTouch s (f s a)) (l : List α) (s : State) :
    ReportTouch s (l.foldl f s) := by
  induction l generalizing s with
  | nil => exact refl s
  | cons a l ih => exact (h s a).trans (ih _)

/-- A write of the alarm table that keeps the rules of the trip map and the report notice. -/
theorem setAlt (s : State) (a : AlarmTable) (h : ∀ e, (a.tripMap.get e).rule = (s.alt.tripMap.get e).rule)
    (w : a.reportWaiting = s.alt.reportWaiting) : ReportTouch s (s.setAlt a) :=
  ⟨rfl, h, w, rfl, fun _ => rfl, fun _ => ⟨rfl, rfl⟩, fun _ => Iff.rfl, fun _ h => ⟨h, rfl⟩, rfl, fun _ => rfl,
    rfl, fun _ => rfl⟩

/-- A write of the alarm table that keeps the whole trip map and the report notice. -/
theorem setAlt_map (s : State) (a : AlarmTable) (h : a.tripMap = s.alt.tripMap)
    (w : a.reportWaiting = s.alt.reportWaiting) : ReportTouch s (s.setAlt a) :=
  setAlt s a (fun e => by rw [h]) w

/-- A write of the alarm table, and then what has it. -/
theorem altThen {s t : State} {a : AlarmTable} (k : ReportTouch (s.setAlt a) t)
    (h : a.tripMap = s.alt.tripMap) (w : a.reportWaiting = s.alt.reportWaiting) : ReportTouch s t :=
  (setAlt_map s a h w).trans k

theorem settle (s : State) : ReportTouch s s.settle := setAlt_map s _ rfl rfl

theorem cameNotice (p : Priority) (s : State) : ReportTouch s (s.cameNotice p) :=
  ⟨rfl, fun _ => rfl, rfl, rfl, fun _ => rfl, fun _ => ⟨rfl, rfl⟩, fun _ => Iff.rfl, fun _ h => ⟨h, rfl⟩, rfl,
    fun _ => rfl, rfl, fun _ => rfl⟩

/-- A record of one channel written, its configuration, halves and counters kept. -/
theorem setChan (c : Chan) (r : ChannelRecord) (s : State)
    (hr : r = { s.chan c with state := r.state, holds := r.holds, alarmHolds := r.alarmHolds,
                              tripCause := r.tripCause, startTimer := r.startTimer })
    (hh : r.holds.controlLost = (s.chan c).holds.controlLost ∧ r.holds.operator = (s.chan c).holds.operator)
    (ho : r.state = .off ↔ (s.chan c).state = .off)
    (ht : (s.chan c).state = .tripped → r.state = .tripped ∧ r.tripCause = (s.chan c).tripCause) :
    ReportTouch s (s.setChan c r) where
  rest := rfl
  rules _ := rfl
  waiting := rfl
  supervision := rfl
  chan d := by
    rw [State.setChan_chan]; split
    · subst d; exact hr
    · rfl
  holds d := by
    rw [State.setChan_chan]; split
    · subst d; exact hh
    · exact ⟨rfl, rfl⟩
  off d := by
    rw [State.setChan_chan]; split
    · subst d; exact ho
    · rfl
  tripped d h := by
    rw [State.setChan_chan]; split
    · subst d; exact ht h
    · exact ⟨h, rfl⟩
  firing := rfl
  feeder _ := rfl
  shift := rfl
  tallies _ := rfl

/-- A record of one channel written, and then what has it. -/
theorem chanThen {s t : State} {c : Chan} {r : ChannelRecord} (k : ReportTouch (s.setChan c r) t)
    (hr : r = { s.chan c with state := r.state, holds := r.holds, alarmHolds := r.alarmHolds,
                              tripCause := r.tripCause, startTimer := r.startTimer })
    (hh : r.holds.controlLost = (s.chan c).holds.controlLost ∧ r.holds.operator = (s.chan c).holds.operator)
    (ho : r.state = .off ↔ (s.chan c).state = .off)
    (ht : (s.chan c).state = .tripped → r.state = .tripped ∧ r.tripCause = (s.chan c).tripCause) :
    ReportTouch s t :=
  (setChan c r s hr hh ho ht).trans k

/-- A setpoint driven. -/
theorem drive (c : Chan) (v : Nat) (s : State) : ReportTouch s (s.drive c v) where
  rest := rfl
  rules _ := rfl
  waiting := rfl
  supervision := rfl
  chan _ := rfl
  holds _ := ⟨rfl, rfl⟩
  off _ := Iff.rfl
  tripped _ h := ⟨h, rfl⟩
  firing := rfl
  feeder d := by
    by_cases h : d = c
    · subst h; simp
    · rw [State.drive_feeder_ne h]
  shift := rfl
  tallies _ := rfl

theorem freeze (c : Chan) (s : State) : ReportTouch s (s.freeze c) := by
  unfold State.freeze
  cases h : (s.chan c).state <;> simp only <;>
    first
    | exact refl s
    | exact setChan c _ s rfl ⟨rfl, rfl⟩ (by simp [h]) (by simp [h])

theorem resume (c : Chan) (s : State) : ReportTouch s (s.resume c) := by
  unfold State.resume
  split
  · rename_i h
    unfold State.enterRunning
    have a : ReportTouch s (s.setChan c { s.chan c with state := .running, startTimer := none }) :=
      setChan c _ s rfl ⟨rfl, rfl⟩ (by simp [h.1]) (by simp [h.1])
    split
    · exact a.trans (drive ..)
    · exact a
  · exact refl s

theorem holdAction (c : Chan) (id : Identity) (s : State) : ReportTouch s (s.holdAction c id) :=
  chanThen (freeze c _) rfl ⟨rfl, rfl⟩ Iff.rfl fun h => ⟨h, rfl⟩

theorem holdRelease (c : Chan) (id : Identity) (s : State) : ReportTouch s (s.holdRelease c id) := by
  unfold State.holdRelease
  simp only
  split
  · exact chanThen (resume c _) rfl ⟨rfl, rfl⟩ Iff.rfl fun h => ⟨h, rfl⟩
  · exact refl s

theorem tripTaken (c : Chan) (cause : TripCause) (s : State) (h : (s.chan c).state ≠ .off)
    (h' : (s.chan c).state ≠ .tripped) : ReportTouch s (s.tripTaken c cause) := by
  have a : ReportTouch s (s.setChan c { s.chan c with
      state := .tripped, tripCause := some cause, startTimer := none }) :=
    setChan c _ s rfl ⟨rfl, rfl⟩ (by simp [h]) fun e => absurd e h'
  refine ⟨rfl, fun _ => rfl, rfl, rfl, a.chan, a.holds, a.off, a.tripped, rfl, fun d => ?_, rfl, fun d => ?_⟩
  · show (s.fdi.put c (s.feeder c).zeroed).get d = _
    by_cases e : d = c
    · subst e; rw [Tbl.get_put_self]; simp [State.tripTaken, State.feeder, FeederBlock.zeroed]
    · rw [Tbl.get_put_ne e]; simp [State.tripTaken, State.feeder, Tbl.get_put_ne e]
  · show (s.sht.current.channels.modify c _).get d = _
    by_cases e : d = c
    · subst e; simp [State.tripTaken, State.tripNotice, State.setChan]
    · simp [State.tripTaken, State.tripNotice, State.setChan, Tbl.get_modify_ne e]

theorem trip (c : Chan) (cause : TripCause) (s : State) : ReportTouch s (s.trip c cause) := by
  unfold State.trip
  cases h : (s.chan c).state <;> simp only <;>
    first
    | exact refl s
    | exact tripTaken c cause s (by simp [h]) (by simp [h])

theorem tripAction (r : TripRule) (s : State) : ReportTouch s (s.tripAction r) := by
  unfold State.tripAction
  split
  · exact holdAction ..
  · exact trip ..
  · refine foldl (fun s c => ?_) _ s
    split
    · exact trip ..
    · exact refl s
  · exact foldl (fun s c => trip ..) _ s

theorem setInForce (e : EntryNo) (b : Bool) (s : State) : ReportTouch s (s.setInForce e b) :=
  setAlt s _ (fun o => by
    show ((s.alt.tripMap.modify e _).get o).rule = _
    by_cases h : o = e
    · subst h; simp
    · rw [Tbl.get_modify_ne h]) rfl

theorem entryIntoForce (e : EntryNo) (s : State) : ReportTouch s (s.entryIntoForce e) := by
  unfold State.entryIntoForce
  split
  · exact refl s
  · split
    · exact (setInForce ..).trans (tripAction ..)
    · exact refl s

theorem intoForce (id : Identity) (s : State) : ReportTouch s (s.intoForce id) :=
  foldl (fun s e => by
    split
    · exact entryIntoForce ..
    · exact refl s) _ s

theorem entryOutOfForce (e : EntryNo) (s : State) : ReportTouch s (s.entryOutOfForce e) := by
  unfold State.entryOutOfForce
  split
  · exact (setInForce ..).trans (holdRelease ..)
  · exact setInForce ..
  · exact refl s

theorem outOfForce (id : Identity) (s : State) : ReportTouch s (s.outOfForce id) :=
  foldl (fun s e => by
    split
    · exact entryOutOfForce ..
    · exact refl s) _ s

theorem tableFullComes (s : State) : ReportTouch s s.tableFullComes := by
  unfold State.tableFullComes
  simp only
  split
  · exact altThen (cameNotice ..) rfl rfl
  · exact altThen (cameNotice ..) rfl rfl
  · exact setAlt_map s _ rfl rfl
  · exact refl s

theorem tableFullCheck (s : State) : ReportTouch s s.tableFullCheck := by
  unfold State.tableFullCheck State.tableFullGoes
  split
  · simp only
    split
    · exact setAlt_map s _ rfl rfl
    · split <;> exact setAlt_map s _ rfl rfl
  · exact refl s

theorem promote (i : SlotNo) (s : State) : ReportTouch s (s.promote i) := by
  unfold State.promote
  split
  · exact refl s
  · split
    · exact refl s
    · exact altThen (tableFullCheck _) rfl rfl

theorem retire (i : SlotNo) (s : State) : ReportTouch s (s.retire i) := by
  unfold State.retire
  split
  · exact setAlt_map s _ rfl rfl
  · exact altThen (promote i _) rfl rfl

theorem comesOnRecords (id : Identity) (k : Condition) (s : State) : ReportTouch s (s.comesOnRecords id k) := by
  unfold State.comesOnRecords
  split
  · split
    · exact setAlt_map s _ rfl rfl
    · exact refl s
  · split
    · exact setAlt_map s _ rfl rfl
    · exact altThen (tableFullComes _) rfl rfl

theorem comesAfresh (id : Identity) (l : Option Level) (p : Priority) (s : State) :
    ReportTouch s (s.comesAfresh id l p) :=
  (((comesOnRecords ..).trans (intoForce ..)).trans (cameNotice ..)).trans (settle _)

theorem levelOfPresent (id : Identity) (k : Condition) (l : Option Level) (p : Priority) (s : State) :
    ReportTouch s (s.levelOfPresent id k l p) := by
  unfold State.levelOfPresent
  simp only
  refine ReportTouch.trans ?_ ((intoForce id _).trans (settle _))
  split
  · exact setAlt_map s _ rfl rfl
  · split
    · exact setAlt_map s _ rfl rfl
    · exact altThen (setAlt_map _ _ rfl rfl) rfl rfl

/-- Everything a comes report can change. -/
theorem comes (id : Identity) (l : Option Level) (p : Priority) (s : State) : ReportTouch s (s.comes id l p) := by
  unfold State.comes
  split
  · exact comesAfresh ..
  · split
    · exact levelOfPresent ..
    · exact setAlt_map s _ rfl rfl

theorem comesFixed (id : Identity) (s : State) : ReportTouch s (s.comesFixed id) := comes ..

theorem levelChanges (id : Identity) (l : Option Level) (p : Priority) (s : State) :
    ReportTouch s (s.levelChanges id l p) := by
  unfold State.levelChanges
  split
  · exact comesAfresh ..
  · exact levelOfPresent ..

theorem goesOnRecords (id : Identity) (k : Condition) (s : State) : ReportTouch s (s.goesOnRecords id k) := by
  unfold State.goesOnRecords
  simp only
  have a := setAlt_map s (s.alt.setCondition id none) rfl rfl
  split
  · exact a.trans (tableFullCheck _)
  · split
    · exact a
    · split
      · exact a
      · split
        · exact a.trans (retire ..)
        · exact a.trans (setAlt_map _ _ rfl rfl)

/-- Everything a goes report can change. -/
theorem goes (id : Identity) (s : State) : ReportTouch s (s.goes id) := by
  unfold State.goes
  split
  · exact refl s
  · exact ((goesOnRecords ..).trans (outOfForce ..)).trans (settle _)

theorem report (r : Report) (s : State) : ReportTouch s (s.report r) := by
  cases r
  · exact comes ..
  · exact goes ..
  · exact levelChanges ..

/-- Everything a list of reports can change. -/
theorem reports (rs : List Report) (s : State) : ReportTouch s (s.reports rs) := foldl (fun s r => report r s) rs s

/-! ### What follows for single fields -/

variable {s t : State}

theorem pending (h : ReportTouch s t) : t.pending = s.pending := by rw [h.rest]
theorem phase (h : ReportTouch s t) : t.phase = s.phase := by rw [h.rest]
theorem tripLine (h : ReportTouch s t) : t.tripLine = s.tripLine := by rw [h.rest]
theorem ptb (h : ReportTouch s t) : t.ptb = s.ptb := by rw [h.rest]
theorem lrg (h : ReportTouch s t) : t.lrg = s.lrg := by rw [h.rest]
theorem clc (h : ReportTouch s t) : t.clc = s.clc := by rw [h.rest]
theorem acu (h : ReportTouch s t) : t.acu = s.acu := by rw [h.rest]
theorem control (h : ReportTouch s t) : t.control = s.control := by rw [h.rest]
theorem panel (h : ReportTouch s t) : t.panel = s.panel := by rw [h.rest]
theorem sst (h : ReportTouch s t) : t.sst = s.sst := by rw [h.rest]
theorem moment (h : ReportTouch s t) : t.moment = s.moment := by rw [h.rest]
theorem config (h : ReportTouch s t) (c : Chan) : (t.chan c).config = (s.chan c).config := by rw [h.chan c]
theorem fed (h : ReportTouch s t) (c : Chan) : (t.chan c).fed = (s.chan c).fed := by rw [h.chan c]
theorem debited (h : ReportTouch s t) (c : Chan) : (t.chan c).debited = (s.chan c).debited := by rw [h.chan c]
theorem unassigned (h : ReportTouch s t) (c : Chan) : (t.chan c).unassigned = (s.chan c).unassigned := by
  rw [h.chan c]
theorem held (h : ReportTouch s t) : t.sht.held = s.sht.held := by rw [h.shift]

/-- The settings in force are those before the report. -/
theorem settings (h : ReportTouch s t) : t.settings = s.settings := by
  simp only [State.settings, State.point, h.ptb, h.config, h.supervision, h.clc, h.acu, h.rules]
  rw [h.firing, h.shift]

end ReportTouch

end Sys2Proof.Machine
end

