-- ==== Sys2Proof/Tests/Slice0.lean ====
section
/-! SUPPORT. The model's own tests: ill-formed commands refused, single steps against the spec's worked
examples (each names its source), and for every obligation with hypotheses a state that meets them.
-/

namespace Sys2Proof.Tests

open Machine

set_option Elab.async false

/-! ### Helpers -/

/-- The state after a command, or the state itself where the outcome is none. -/
def go (i : Instr) (s : State) : State :=
  match exec i s with
  | .next t => t
  | .fault _ | .refused _ => s

/-- `Ready` as a check. -/
def ready (k : Kind) (p : Port) (f : List Byte) (s : State) : Bool :=
  s.phase == .running && (p == .control || (s.panel.sending.isNone && s.panel.held.isNone))
    && (p == .control || panelMay k) && lengthOk k f && (!busyDuringSave k || s.sst.inFlight.isNone)

theorem ready_iff (k : Kind) (p : Port) (f : List Byte) (s : State) : Ready k p f s ↔ ready k p f s = true := by
  constructor
  · rintro ⟨a, b, c, d, e⟩
    cases p <;> cases hb : busyDuringSave k <;> simp_all [ready, State.portFree]
  · intro h
    cases p <;> simp [ready] at h
    · exact ⟨h.1.1, trivial, by simp, h.1.2, fun x => by simpa [x] using h.2⟩
    · exact ⟨h.1.1.1.1, h.1.1.1.2, fun _ => h.1.1.2, h.1.2, fun x => by simpa [x] using h.2⟩

/-- The part right after its start-up phase. -/
def up : State :=
  { State.reset with
    phase := .running
    chc := { State.reset.chc with
      supervision := { State.reset.chc.supervision with supervisionTimer := some ⟨3, 0⟩ } } }

/-- The same with engineering access open. -/
def opened : State := { up with acu := { up.acu with openTimer := some ⟨1800, 0⟩ } }

/-- Table 2.5, second row: dry NCV 23,110 at moisture 200 gives 18,000. -/
def rdfAnalysis : Analysis := ⟨23110, 200, 8000, 10, 18000⟩

def lotOf (tag remaining : Nat) (k : FuelKind) (a : Option Analysis) (st : LotState) : LotRecord :=
  { tag := tag, kind := k, registered := 40, remaining := remaining, analysis := a, state := st, debited := 0 }

def halvesOf (minFlow maxFlow ramp capacity pulseMass : Nat) : Halves :=
  ⟨⟨minFlow, maxFlow, ramp⟩, ⟨capacity, pulseMass⟩⟩

def withHalves (c : Chan) (h : Halves) (s : State) : State :=
  (s.setChan c { s.chan c with config := { (s.chan c).config with halves := some h, clLimit := 10000 } }).setFeeder c
    { s.feeder c with calibration := some h.calibration }

def inState (c : Chan) (st : ChannelState) (s : State) : State :=
  s.setChan c { s.chan c with state := st }

def slot (generation : Nat) (r : LotRecord) : LotSlot := ⟨generation, some r⟩

/-- A plant: lots 71001 (drawing) and 71002 (queued) on C2, 71003 analysed, 71004 registered, 71005 drawing
on C3; C1 stopping, C2 running, C3 off, C4 tripped, C5 holding, C6 starting; access open. -/
def plant : State :=
  let lots := ((((opened.lrg.lots.put 0 (slot 1 (lotOf 71001 15 .rdf (some rdfAnalysis) .drawing))).put 1
    (slot 1 (lotOf 71002 30 .rdf (some rdfAnalysis) .queued))).put 2
    (slot 1 (lotOf 71003 8000 .rdf (some rdfAnalysis) .analysed))).put 3
    (slot 1 (lotOf 71004 100 .coal none .registered))).put 4
    (slot 1 (lotOf 71005 100 .rdf (some rdfAnalysis) .drawing))
  let s := { opened with
    lrg := { opened.lrg with lots := lots, queues := (opened.lrg.queues.put 1 [0, 1]).put 2 [4] }
    fsc := { opened.fsc with
      demandMain := 120000, demandCalc := 150000
      setpoint := (opened.fsc.setpoint.put 0 9770).put 1 9000 } }
  let t := withHalves 0 (halvesOf 3000 14000 3000 16000 1000) (withHalves 1 (halvesOf 1500 9000 1200 18000 25000)
    (withHalves 2 (halvesOf 500 4000 600 8000 700) s))
  let u := inState 0 .stopping (inState 1 .running (inState 3 .tripped (inState 4 .holding (inState 5 .starting t))))
  (u.setChan 3 { u.chan 3 with tripCause := some .emergencyStop }).setChan 5
    { u.chan 5 with startTimer := some ⟨10, 0⟩ }

/-- A save in flight. -/
def saving : State := { up with sst := { up.sst with inFlight := some up.settings } }

/-- A record of a condition without a level. -/
def recordOf (id : Identity) (p : Priority) (st : AlarmState) (shelf : Option Nat) : AlarmRecord :=
  { storeFaultRecord with identity := id, priority := p, state := st, shelvedUntil := shelf }

/-- The alarm table with one more live record. -/
def withRecord (i : SlotNo) (r : AlarmRecord) (s : State) : State := s.setAlt (s.alt.occupy i r)

/-- A cleared record in slot 1, a shelved one in slot 2, an acknowledged one in slot 3. -/
def alarmed : State :=
  withRecord 1 (recordOf (.channel 1 .stall) .high .clearedUnack none)
    (withRecord 2 (recordOf (.cooler .airShort) .low .activeUnack (some 1))
      (withRecord 3 (recordOf (.cooler .held) .low .activeAcked none) opened))

/-- The cooler in a mode, with P6 and P8 good. -/
def cooling (m : CoolerMode) (rate bed : Int) : State :=
  let s := (up.setPoint 6 { up.point 6 with value := rate, quality := .good }).setPoint 8
    { up.point 8 with value := bed, quality := .good }
  { s with clc := { s.clc with mode := m } }

/-- A held report of shift 1, collected or not, the open record being that of shift 2. -/
def reported (collected : Bool) : State :=
  { opened with
    sht := { opened.sht with
      held := some { opened.sht.current with
        readSummary := collected, readChannels := collected, readLots := collected
        heatMain := 1000, heatCalc := 500, heatAlt := 300 }
      current := Tally.opened 2 none } }

/-- The link lost, in its hold. -/
def lost : State :=
  { up with chc := { up.chc with
      supervision := { up.chc.supervision with
        link := .lostHold, supervisionTimer := none, holdTimer := some ⟨120, 0⟩ } } }

/-- The panel sending a response. -/
def panelSends (held : Option Frame) : State :=
  { up with panel := { up.panel with sending := some ⟨1#8, .ok, 0#8, []⟩, held := held } }

/-! ### Well-formedness: an ill-formed command for each check -/

theorem test_illFormed_longFields : Instr.wellFormed (.readStatus .control 0#8 (List.replicate 247 0#8)) = false := by
  decide +kernel

theorem test_wellFormed_longestFields :
    Instr.wellFormed (.readStatus .control 0#8 (List.replicate 246 0#8)) = true := by decide +kernel

theorem test_illFormed_badFrameThatPasses :
    Instr.wellFormed (.controlBadFrame (requestFrame 0x01#8 0#8 [])) = false := by decide +kernel

theorem test_illFormed_badFrameWithoutSync : Instr.wellFormed (.controlBadFrame [0x00#8]) = false := by decide +kernel

theorem test_illFormed_ignoredSync : Instr.wellFormed (.ignoredTransfer [0x5A#8, 0x04#8]) = false := by decide +kernel

theorem test_illFormed_ignoredRead : Instr.wellFormed (.ignoredTransfer [0xA5#8]) = false := by decide +kernel

theorem test_illFormed_unknownKnown : Instr.wellFormed (.unknownRequest .control 0x01#8 0#8 []) = false := by
  decide +kernel

theorem test_illFormed_heldTooLong :
    Instr.wellFormed (.panelFrameHold (.checked 1#8 0#8 (List.replicate 247 0#8))) = false := by decide +kernel

/-- The table gives no row any bits: no word spells a command. -/
theorem test_noWordSpellsACommand : decodeTableWord 8 0 = none ∧ decodeTableWord 32 0xFFFFFFFF = none := by decide

/-! ### Start and reset -/

/-- POWER_ON from a part that was never powered leads to the reset state (R196). -/
theorem test_powerOn_gives_reset : go .powerOn State.off = { State.reset with moment := 1 } := by decide +kernel

/-- R64, R196: the start-up phase ends and the supervision timer starts at its default of 3 s. -/
theorem test_startUpEnd : go .startUpEnd State.reset
    = { up with moment := 1, chc := { up.chc with supervision := { up.chc.supervision with
        supervisionTimer := some ⟨3, 0⟩ } } } := by decide +kernel

/-- R196: in the start-up phase a request is answered BUSY. -/
theorem test_busyInStartUp :
    ((go (.readStatus .control 7#8 []) State.reset).control.buffer) = some ⟨0x01#8, .busy, 7#8, []⟩ := by
  decide +kernel

/-- R198, R197: WARM_RESTART answers WARM and an unclean restart where a channel is on. -/
theorem test_warmRestart :
    (go (.warmRestart .control 7#8 []) plant).control.buffer = some ⟨0x03#8, .ok, 7#8, [2#8, 1#8]⟩
    ∧ ((go (.warmRestart .control 7#8 []) plant).chan 1).state = .off := by decide +kernel

/-- R195: a write that the store does not hold leaves IMG_INVALID. -/
theorem test_saveFails : (go (.saveCompletion false) saving).sst.imageValid = false
    ∧ (go (.saveCompletion true) saving).sst.imageValid = true := by decide +kernel

/-! ### Frames -/

/-- R180: over the nine bytes 0x31 to 0x39 the register ends at 0x29B1. -/
theorem test_crc : crc16 [0x31#8, 0x32#8, 0x33#8, 0x34#8, 0x35#8, 0x36#8, 0x37#8, 0x38#8, 0x39#8] = 0x29B1#16 := by
  decide +kernel

/-- Table 10.2: SET_SHARE of C1 to 600, sync, length 7, kind 0x38, sequence, channel, share, check. -/
theorem test_frame : (requestFrame 0x38#8 5#8 [1#8, 2#8, 0x58#8]).take 7
    = [0x5A#8, 7#8, 0x38#8, 5#8, 1#8, 2#8, 0x58#8] := by decide +kernel

/-- A frame with a changed bit fails its check (R181). -/
theorem test_changedBit : readFrame 4#8 ((requestFrame 0x01#8 1#8 []).drop 2) = .checked 0x01#8 1#8 []
    ∧ readFrame 4#8 [0x01#8, 3#8, 0#8, 0#8] = .failed := by decide +kernel

/-! ### Single steps against the spec's examples -/

/-- R4: P0 given 2150 with PQ_GOOD stores 2000 with PQ_UNCERTAIN, answered OK_CLAMPED. -/
theorem test_update_clamps :
    let t := go (.pointUpdate .control 0#8 [1#8, 0#8, 0x08#8, 0x66#8, 0#8]) up
    (t.point 0).value = 2000 ∧ (t.point 0).quality = .uncertain
      ∧ t.control.buffer = some ⟨0x10#8, .okClamped, 0#8, []⟩ := by decide +kernel

/-- R6: critical low 50 with high 40 is LIMIT_ORDER; low 50 with critical high 60 passes. -/
theorem test_limitOrder :
    (go (.setLimits .control 0#8 ([1#8, 1#8] ++ u16 50 ++ [0#8, 1#8] ++ u16 40 ++ [0#8] ++ u16 0)) up).control.buffer
      = some ⟨0x12#8, .limitOrder, 0#8, []⟩
    ∧ ((go (.setLimits .control 0#8 ([1#8, 0#8, 1#8] ++ u16 50 ++ [0#8, 1#8] ++ u16 60 ++ u16 0)) up).control.buffer.map
      (·.status)) = some .ok := by decide +kernel

/-- Section 1.8: limits 180 and 250 with deadband 15; 185 is HIGH, 178 then keeps HIGH, 164 ends it, 251
is CRIT_HIGH and 240 keeps it. -/
theorem test_bands :
    let l : LimitSet := ⟨none, none, some 180, some 250, 15⟩
    evaluateBand l .normal 180 = .normal ∧ evaluateBand l .normal 185 = .high ∧ evaluateBand l .high 178 = .high
      ∧ evaluateBand l .high 164 = .normal ∧ evaluateBand l .high 251 = .critHigh
      ∧ evaluateBand l .critHigh 240 = .critHigh ∧ evaluateBand l .critHigh 230 = .high := by decide +kernel

/-- Table 2.5. -/
theorem test_asReceived : asReceived 26880 30 = 26000 ∧ asReceived 23110 200 = 18000 ∧ asReceived 30328 10 = 30000
    ∧ asReceived 32703 20 = 32000 ∧ asReceived 22147 250 = 16000 ∧ analysisOf 8000 400 0 0 = none := by
  decide +kernel

/-- Section 2.8, step 2: of a debit of 25 kg on C2 the head gives its 15 kg and is exhausted, and the next
lot gives 10 kg. -/
theorem test_debit :
    let t := go (.feederPulse 1) plant
    (t.chan 1).fed = 25 ∧ (t.chan 1).debited = 25 ∧ (t.lrg.lot 0).map (·.state) = some .exhausted
      ∧ (t.lrg.lot 1).map (·.remaining) = some 20 ∧ t.lrg.queues.get 1 = [1] := by decide +kernel

/-- R50: a coal channel at 9,770 kg/h with a ramp of 3,000 kg/h per minute falls by 50 kg/h per period. -/
theorem test_stopping : (go .firingPeriodExpiry plant).setpoint 0 = 9720 := by decide +kernel

/-- R72: Q_MAIN 120,000 kW, T_ref 1000, k_sa 60, P4 1050 live in CM_NORMAL give a credit of 3,000 kW. -/
theorem test_credit :
    let s := { plant with clc := { plant.clc with mode := .normal } }
    let t := go .firingPeriodExpiry (s.setPoint 4 { s.point 4 with value := 1050, quality := .good })
    t.fsc.published.credit = 3000 ∧ t.fsc.published.correctedMain = 117000 := by decide +kernel

/-- R87: capacity 16,000 kg/h: 6,075 Hz for 9,720 kg/h at trim 1000, 5,953 Hz at trim 980. -/
theorem test_rate :
    rateOf (FeederBlock.start (some ⟨16000, 1000⟩)) 9720 = 6075
    ∧ rateOf { FeederBlock.start (some ⟨16000, 1000⟩) with trim := 980 } 9720 = 5953 := by decide +kernel

/-- R53, R89: EMERGENCY_STOP from the panel trips every channel, those off included, and zeroes the drive. -/
theorem test_emergencyStop :
    let t := go (.emergencyStop .panel 0#8 []) plant
    (∀ c, (t.chan c).state = .tripped) ∧ ∀ c, t.setpoint c = 0 := by decide +kernel

/-- R57: a trip of EMERGENCY_STOP can be cleared as soon as the line is deasserted. -/
theorem test_clearTrip : ((go (.clearTrip .control 0#8 [4#8]) plant).chan 3).state = .off := by decide +kernel

/-- R59: the loss of the link holds the running and the starting channel, not the stopping one. -/
theorem test_linkLoss :
    let t := go .supervisionExpiry plant
    (t.chan 1).state = .holding ∧ (t.chan 5).state = .holding ∧ (t.chan 0).state = .stopping
      ∧ t.chc.supervision.link = .lostHold ∧ t.acu.isOpen = false := by decide +kernel

/-- R171, R169: a blank word is matched by any word. -/
theorem test_access : (go (.accessOpen .control 0#8 (List.replicate 8 3#8)) up).acu.isOpen = true := by decide +kernel

/-- R170: the third mismatch locks access out. -/
theorem test_lockout :
    let s := { opened with acu := { opened.acu with word := 5#64, mismatches := 2 } }
    let t := go (.accessOpen .control 0#8 (List.replicate 8 3#8)) s
    t.acu.lockout = true ∧ t.acu.isOpen = false ∧ t.control.buffer.map (·.status) = some .accessLocked := by
  decide +kernel

/-- R158: at P6 = 2500 the first second adds 69 kg and leaves a residue of 1,600. -/
theorem test_clinker :
    let t := go .shiftTimerExpiry (cooling .normal 2500 5500)
    t.sht.current.clinker = 69 ∧ t.sht.clinkerResidue = 1600 ∧ t.sht.current.modes.normal = 1 := by decide +kernel

/-- Section 6.11: at a bed of 6,100 against a target of 5,500 and gain 10 the grate rises by 5 (a change of 6
bounded). -/
theorem test_bedLoop : bedLoop { CoolerConfig.default with grateGain := 10 } 6100 120 = 125 := by decide +kernel

/-- R116: the flush timer's expiry ends the flush. -/
theorem test_flushEnds :
    let s := cooling .flush 2500 5500
    (go .flushTimerExpiry { s with clc := { s.clc with flushTimer := some ⟨120, 0⟩ } }).clc.mode = .normal := by
  decide +kernel

/-- R133: a cleared record acknowledged is retired; an active one takes the port. -/
theorem test_ack :
    ((go (.ackAlarm .control 0#8 [1#8, 1#8]) alarmed).alt.record 1) = none
    ∧ ((go (.ackAlarm .panel 0#8 [0#8, 1#8]) alarmed).alt.record 0).map (·.ackedBy) = some (some .panel)
    ∧ (go (.ackAlarm .panel 0#8 [0#8, 1#8]) alarmed).alt.horn = false := by decide +kernel

/-- R144: SILENCE turns the horn off. -/
theorem test_silence : alarmed.alt.horn = true ∧ (go (.silence .panel 0#8 []) alarmed).alt.horn = false := by
  decide +kernel

/-- R145: a collection by one port leaves the other port's mark. -/
theorem test_collect :
    let t := go (.collectAlarms .panel 0#8 []) alarmed
    (t.alt.slots.get 0).mark .panel = false ∧ (t.alt.slots.get 0).mark .control = true := by decide +kernel

/-- R160, R161: SHIFT_CLOSE holds shift 1 and opens shift 2. -/
theorem test_shiftClose :
    let t := go (.shiftClose .control 0#8 []) up
    t.sht.held.map (·.number) = some 1 ∧ t.sht.current.number = 2 ∧ t.alt.attention = true
      ∧ t.control.buffer = some ⟨0x72#8, .ok, 0#8, [0#8, 1#8]⟩ := by decide +kernel

/-- R182: an unread response is replaced and counted, and a read transfer empties the buffer. -/
theorem test_responseBuffer :
    let s := go (.setShare .control 1#8 [1#8, 0#8, 0#8]) (go (.setShare .control 0#8 [1#8, 0#8, 0#8]) up)
    s.control.discardedResponses = 1 ∧ (go (.controlReadTransfer 6) s).control.buffer.isSome = true
      ∧ (go (.controlReadTransfer 7) s).control.buffer = none := by decide +kernel

/-- R184: a frame finished while the panel sends is held, the next one dropped and counted. -/
theorem test_panelHold :
    let s := go (.panelFrameHold (.checked 0x64#8 0#8 [])) (panelSends none)
    s.panel.held.isSome = true ∧ (go (.panelFrameHold .failed) s).panel.discardedFrames = 1
      ∧ (go .panelTransmitDone s).panel.held = none := by decide +kernel

/-- R186: the panel may not write settings. -/
theorem test_panelNotPermitted :
    (go (.setShare .panel 0#8 [1#8, 0#8, 0#8]) up).panel.sending = some ⟨0x38#8, .notPermitted, 0#8, []⟩ := by
  decide +kernel

/-- R194: during a save a setting is refused with BUSY. -/
theorem test_busyDuringSave :
    (go (.setShare .control 0#8 [1#8, 0#8, 0#8]) saving).control.buffer = some ⟨0x38#8, .busy, 0#8, []⟩ := by
  decide +kernel

/-! ### Witnesses: for every obligation with hypotheses, a state and operands that meet them -/

def rdfLot (tag remaining : Nat) (st : LotState) : LotRecord := lotOf tag remaining .rdf (some rdfAnalysis) st

/-- A lot reference by tag (Table 10.3). -/
def tagRef (tag : Nat) : List Byte := 1#8 :: u32 tag

theorem test_meets_StepRunsTheFrontCommand :
    State.reset.pending = [] ∧ { up with pending := [.silence .panel 0#8 []] }.pending ≠ [] := by decide +kernel

theorem test_meets_RequestsReachTheirOwner :
    Ready .readStatus .panel [] up ∧ Ready .setShare .control [1#8, 0#8, 0#8] plant := by
  simp only [ready_iff]; decide +kernel

theorem test_meets_LookupsAnswer_plain :
    ∀ k ∈ [Kind.readStatus, .readLink, .readFiring, .readCooler, .readTripMap, .readAlarmTable, .readClock,
      .readAccess], Ready k .panel [] up ∧ Ready k .control [] saving := by
  simp only [ready_iff]; decide +kernel

theorem test_meets_LookupsAnswer_records :
    (Ready .readPoint .panel [47#8] up ∧ point? (field [47#8] 0 1) = some 47)
    ∧ (Ready .readChannel .panel [6#8] up ∧ chan? (field [6#8] 0 1) = some 5)
    ∧ (Ready .readFeeder .control [1#8] up ∧ chan? (field [1#8] 0 1) = some 0)
    ∧ (Ready .readQueue .panel [2#8] plant ∧ chan? (field [2#8] 0 1) = some 1)
    ∧ (Ready .readLot .panel (tagRef 71001) plant ∧ plant.lrg.byReference (tagRef 71001) = .ok 0
        ∧ plant.lrg.lot 0 = some (rdfLot 71001 15 .drawing))
    ∧ (Ready .findLot .control (u32 71002) plant ∧ plant.lrg.byTag (field (u32 71002) 0 4) = .ok 1
        ∧ plant.lrg.lot 1 = some (rdfLot 71002 30 .queued))
    ∧ (Ready .readAlarm .panel [0#8, 1#8] alarmed ∧ field [0#8, 1#8] 0 1 = (0 : SlotNo).val
        ∧ alarmed.alt.record 0 = some storeFaultRecord
        ∧ field [0#8, 1#8] 1 1 = (alarmed.alt.slots.get 0).generation ∧ field [0#8, 1#8] 1 1 ≠ 0)
    ∧ (Ready .findAlarm .panel [4#8, 0#8, 2#8] up
        ∧ identityAt [4#8, 0#8, 2#8] 0 = some (.system .storeFault)) := by
  simp only [ready_iff]; decide +kernel

/-- The held report with two read marks set. -/
def nearlyRead : Tally := { up.sht.current with readSummary := true, readChannels := true }

theorem test_meets_LookupsAnswer_shift :
    (Ready .readShift .control [0#8, 2#8] up ∧ shiftPart? (field [0#8, 2#8] 1 1) = some .lots
        ∧ field [0#8, 2#8] 0 1 = 0)
    ∧ (Ready .readShift .panel [1#8, 0#8] (reported false) ∧ shiftPart? (field [1#8, 0#8] 1 1) = some .summary
        ∧ field [1#8, 0#8] 0 1 = 1 ∧ (reported false).sht.held.isSome = true)
    ∧ (∃ t, (reported true).sht.held = some t ∧ (t.read .summary).collected = t.collected
        ∧ Ready .readShift .control [1#8, 0#8] (reported true))
    ∧ (Ready .readShift .control [1#8, 2#8] { up with sht := { up.sht with held := some nearlyRead } }
        ∧ nearlyRead.collected = false ∧ (nearlyRead.read .lots).collected = true) := by
  refine ⟨?_, ?_, ?_, ?_⟩
  · simp only [ready_iff]; decide +kernel
  · simp only [ready_iff]; decide +kernel
  · exact ⟨_, rfl, rfl, by simp only [ready_iff]; decide +kernel⟩
  · simp only [ready_iff]; decide +kernel

/-- Eight update entries, the most R3 admits. -/
def eightEntries : List Byte := 8#8 :: (List.replicate 8 [47#8, 0#8, 1#8, 2#8]).flatten

theorem test_meets_PointRequestsAct :
    (Ready .pointUpdate .control eightEntries up
        ∧ updateEntries eightEntries = some (List.replicate 8 ⟨47, 1, .bad⟩))
    ∧ (Ready .pointUpdate .control [1#8, 48#8, 0#8, 0#8, 0#8] up
        ∧ updateEntries [1#8, 48#8, 0#8, 0#8, 0#8] = none) := by
  simp only [ready_iff]; decide +kernel

/-- A limit set of low 0 and high 400, P16's whole range, with the largest deadband. -/
def widestLimits : List Byte := [16#8, 0#8, 1#8] ++ u16 0 ++ [1#8] ++ u16 400 ++ [0#8] ++ u16 1000

/-- P16 with its protect mark set. -/
def protected16 : State :=
  opened.setPoint 16 { opened.point 16 with config := { (opened.point 16).config with protect := true } }

theorem test_meets_PointRequestsAct_settings :
    (Ready .setLimits .control widestLimits up ∧ (up.point 16).config.protect = false
        ∧ (limitSetOf widestLimits).inRange 16 = true ∧ rising (limitSetOf widestLimits).present = true
        ∧ point? (field widestLimits 0 1) = some 16)
    ∧ (Ready .setLimits .control widestLimits protected16 ∧ (protected16.point 16).config.protect = true
        ∧ protected16.acu.isOpen = true)
    ∧ (Ready .setPointConfig .control [16#8, 0#8, 60#8, 1#8, 2#8, 3#8, 4#8, 1#8, 1#8, 6#8] up
        ∧ (pointConfigOf [16#8, 0#8, 60#8, 1#8, 2#8, 3#8, 4#8, 1#8, 1#8, 6#8] (up.point 16).config).isSome = true)
    ∧ (Ready .setProtectMark .control [16#8, 1#8] up ∧ field [16#8, 1#8] 1 1 = 1)
    ∧ (Ready .setProtectMark .control [16#8, 0#8] protected16 ∧ field [16#8, 0#8] 1 1 = 0) := by
  simp only [ready_iff]; decide +kernel

theorem test_meets_EntryStoresClampedValue :
    (PointEntry.mk 0 2150 .bad).quality = .bad ∧ (1 : PointNo) ≠ (PointEntry.mk 0 2150 .bad).point := by
  decide +kernel

/-- Limits 10, 20, 180 and 250 with deadband 15. -/
def fourLimits : LimitSet := ⟨some 10, some 20, some 180, some 250, 15⟩

/-- The limits themselves, the values one beyond, and the values where each deadband ends. -/
theorem test_meets_BandsCrossStrictly :
    let l := fourLimits
    (l.critLow = some 10 ∧ l.low = some 20 ∧ l.high = some 180 ∧ l.critHigh = some 250)
    ∧ ((180 : Int) < 181 ∧ above 181 l.critHigh = false ∧ below 181 l.critLow = false ∧ (250 : Int) < 251)
    ∧ ((19 : Int) < 20 ∧ above 19 l.critHigh = false ∧ below 19 l.critLow = false ∧ above 19 l.high = false
        ∧ (9 : Int) < 10 ∧ above 9 l.critHigh = false)
    ∧ (below 165 l.critLow = false ∧ below 165 l.low = false ∧ above 165 l.critHigh = false
        ∧ (180 : Int) - l.deadband ≤ 165 ∧ (164 : Int) < 180 - l.deadband
        ∧ (250 : Int) - l.deadband ≤ 235 ∧ (234 : Int) < 250 - l.deadband)
    ∧ (above 35 l.critHigh = false ∧ above 35 l.high = false ∧ below 35 l.critLow = false
        ∧ (35 : Int) ≤ 20 + l.deadband ∧ (20 : Int) + l.deadband < 36
        ∧ (25 : Int) ≤ 10 + l.deadband ∧ (10 : Int) + l.deadband < 26) := by
  decide +kernel

theorem test_meets_LotRequestsAct :
    (Ready .registerLot .control (u32 9 ++ [6#8] ++ u32 2000000) plant
        ∧ kind? (field (u32 9 ++ [6#8] ++ u32 2000000) 4 1) = some .woodChips
        ∧ field (u32 9 ++ [6#8] ++ u32 2000000) 0 4 ≠ 0
        ∧ 1 ≤ field (u32 9 ++ [6#8] ++ u32 2000000) 5 4
        ∧ field (u32 9 ++ [6#8] ++ u32 2000000) 5 4 ≤ Config.lotMassMax
        ∧ plant.lrg.findTag 9 = none ∧ plant.lrg.freeSlot = some 5)
    ∧ (Ready .setAnalysis .control (tagRef 71004 ++ u16 26880 ++ u16 30 ++ u16 30000 ++ u16 800) plant
        ∧ plant.lrg.byReference (tagRef 71004 ++ u16 26880 ++ u16 30 ++ u16 30000 ++ u16 800) = .ok 3
        ∧ plant.lrg.lot 3 = some (lotOf 71004 100 .coal none .registered)
        ∧ analysisOf 26880 30 30000 800 = some ⟨26880, 30, 30000, 800, 26000⟩)
    ∧ (Ready .amendMass .control (tagRef 71001 ++ u32 0) plant
        ∧ plant.lrg.byReference (tagRef 71001 ++ u32 0) = .ok 0
        ∧ plant.lrg.lot 0 = some (rdfLot 71001 15 .drawing))
    ∧ (Ready .quarantineLot .control (tagRef 71001) plant ∧ plant.lrg.byReference (tagRef 71001) = .ok 0)
    ∧ (Ready .retireLot .control [0#8, 3#8, 1#8, 0#8, 0#8] plant
        ∧ plant.lrg.byReference [0#8, 3#8, 1#8, 0#8, 0#8] = .ok 3) := by
  simp only [ready_iff]; decide +kernel

theorem test_meets_LotRequestsAct_queues :
    (Ready .enqueueLot .control (tagRef 71003 ++ [2#8]) plant
        ∧ plant.lrg.byReference (tagRef 71003 ++ [2#8]) = .ok 2
        ∧ plant.lrg.lot 2 = some (rdfLot 71003 8000 .analysed)
        ∧ chan? (field (tagRef 71003 ++ [2#8]) 5 1) = some 1
        ∧ hasKind (plant.chan 1).config.kinds .rdf = true
        ∧ rdfAnalysis.chlorine ≤ (plant.chan 1).config.clLimit
        ∧ (plant.lrg.queues.get 1).length < Config.queueDepth)
    ∧ (Ready .dequeueLot .control (tagRef 71002) plant ∧ plant.lrg.byReference (tagRef 71002) = .ok 1
        ∧ plant.lrg.lot 1 = some (rdfLot 71002 30 .queued) ∧ plant.lrg.position 1 = some (1, 2))
    ∧ (Ready .dequeueLot .control (tagRef 71005) plant ∧ plant.lrg.byReference (tagRef 71005) = .ok 4
        ∧ plant.lrg.lot 4 = some (rdfLot 71005 100 .drawing) ∧ plant.lrg.position 4 = some (2, 1)
        ∧ (plant.chan 2).state = .off) := by
  simp only [ready_iff]; decide +kernel

theorem test_meets_AsReceivedNcvBounded :
    analysisOf 8000 287 0 0 = some ⟨8000, 287, 0, 0, 5003⟩ ∧ analysisOf 45000 0 0 0 = some ⟨45000, 0, 0, 0, 45000⟩ := by
  decide +kernel

theorem plant_tagsApart : plant.lrg.TagsApart := by
  have h : ∀ i j : LotNo, (plant.lrg.lot i).isSome = true →
      (plant.lrg.lot i).map (·.tag) = (plant.lrg.lot j).map (·.tag) → i = j := by decide +kernel
  intro i j r r' hi hj e
  exact h i j (by simp [hi]) (by simp [hi, hj, e])

/-- The order of the queues from checks. -/
theorem ordered_of {g : LotRegistry} (short : ∀ c, (g.queues.get c).length ≤ Config.queueDepth)
    (once : ∀ c, (g.queues.get c).Nodup) (apart : ∀ c d i, i ∈ g.queues.get c → i ∈ g.queues.get d → c = d)
    (queued : ∀ c i, i ∈ g.queues.get c → (g.lot i).any (fun r =>
      r.analysis.isSome && r.state == if g.head c = some i then .drawing else .queued) = true)
    (placed : ∀ i, (g.lot i).all (fun r => r.state != .queued && r.state != .drawing) = true
      ∨ ∃ c, i ∈ g.queues.get c) : g.Ordered := by
  refine ⟨short, once, apart, fun c i hi => ?_, fun i r hi hs => ?_⟩
  · obtain ⟨r, hr, hp⟩ := (Option.any_eq_true _ _).mp (queued c i hi)
    simp only [Bool.and_eq_true, beq_iff_eq] at hp
    exact ⟨r, hr, hp.1, hp.2⟩
  · rcases placed i with h | h
    · simp only [hi, Option.all_some, Bool.and_eq_true, bne_iff_ne] at h
      exact absurd hs (by rintro (e | e) <;> simp [e] at h)
    · exact h

theorem plant_ordered : plant.lrg.Ordered :=
  ordered_of (by decide +kernel) (by decide +kernel) (by decide +kernel) (by decide +kernel) (by decide +kernel)

/-- The plant with the lone lot of C3 empty, its mark set, and C5 open to RDF. -/
def emptied : State :=
  let s := withHalves 4 (halvesOf 500 4000 600 8000 700) plant
  { s with lrg := { s.lrg with
      lots := s.lrg.lots.put 4 (slot 1 (rdfLot 71005 0 .drawing)), overdrawn := s.lrg.overdrawn.put 2 true } }

theorem emptied_ordered : emptied.lrg.Ordered :=
  ordered_of (by decide +kernel) (by decide +kernel) (by decide +kernel) (by decide +kernel) (by decide +kernel)

/-- Dry NCV 23,110 at moisture 200 with a chlorine content at the plant's limit of 10,000 mg/kg or above it. -/
def analysed (tag chlorine : Nat) : List Byte := tagRef tag ++ u16 23110 ++ u16 200 ++ u16 chlorine ++ u16 10

/-- R24, R25, R27: an analysis at the limit leaves the head drawing; one above it quarantines a queued lot, or
the head, whose channel trips and whose next lot draws. -/
theorem test_meets_LotRequestsAct_analysis :
    (∀ x ∈ [10000, 10001], Ready .setAnalysis .control (analysed 71001 x) plant
        ∧ analysisOf 23110 200 x 10 = some { rdfAnalysis with chlorine := x })
    ∧ plant.lrg.byReference (analysed 71001 10001) = .ok 0 ∧ plant.lrg.queues.get 1 = 0 :: [1]
    ∧ (plant.chan 1).config.clLimit = 10000 ∧ (plant.lrg.lot 1).map (·.state) = some .queued
    ∧ (let t := go (.setAnalysis .control 0#8 (analysed 71001 10000)) plant
       t.lrg.queues.get 1 = [0, 1] ∧ (t.chan 1).state = .running)
    ∧ (let t := go (.setAnalysis .control 0#8 (analysed 71001 10001)) plant
       t.lrg.queues.get 1 = [1] ∧ (t.lrg.lot 0).map (·.state) = some .quarantined
         ∧ (t.lrg.lot 1).map (·.state) = some .drawing ∧ (t.chan 1).tripCause = some .lotRejected)
    ∧ (let t := go (.setAnalysis .control 0#8 (analysed 71002 10001)) plant
       t.lrg.queues.get 1 = [0] ∧ (t.lrg.lot 1).map (·.state) = some .quarantined
         ∧ (t.chan 1).state = .running) := by
  simp only [ready_iff]; decide +kernel

/-- R26, R27, R31: a head amended to 0 gives way to the next lot, a lone one keeps drawing, and mass clears the
mark; a lot joins behind others, alone, and in place of a lone head at 0. -/
theorem test_meets_LotRequestsAct_mass :
    (Ready .amendMass .control (tagRef 71005 ++ u32 0) plant ∧ plant.lrg.queues.get 2 = 4 :: []
        ∧ Ready .amendMass .control (tagRef 71002 ++ u32 0) plant)
    ∧ (let t := go (.amendMass .control 0#8 (tagRef 71001 ++ u32 0)) plant
       t.lrg.queues.get 1 = [1] ∧ (t.lrg.lot 0).map (·.state) = some .exhausted)
    ∧ (let t := go (.amendMass .control 0#8 (tagRef 71005 ++ u32 7)) emptied
       t.lrg.overdrawn.get 2 = false ∧ (t.lrg.lot 4).map (·.remaining) = some 7)
    ∧ (Ready .quarantineLot .control (tagRef 71002) plant ∧ Ready .quarantineLot .control (tagRef 71003) plant)
    ∧ (∀ n ∈ [3#8, 5#8], Ready .enqueueLot .control (tagRef 71003 ++ [n]) emptied)
    ∧ (emptied.lrg.queues.get 2 = [4] ∧ (emptied.lrg.lot 4).map (·.remaining) = some 0
        ∧ emptied.lrg.queues.get 4 = [])
    ∧ (let t := go (.enqueueLot .control 0#8 (tagRef 71003 ++ [3#8])) emptied
       t.lrg.queues.get 2 = [2] ∧ (t.lrg.lot 4).map (·.state) = some .exhausted ∧ t.lrg.overdrawn.get 2 = false)
    ∧ (go (.enqueueLot .control 0#8 (tagRef 71003 ++ [5#8])) emptied).lrg.queues.get 4 = [2]
    ∧ (go (.enqueueLot .control 0#8 (tagRef 71003 ++ [2#8])) plant).lrg.queues.get 1 = [0, 1, 2] := by
  simp only [ready_iff]; decide +kernel

theorem test_meets_RetiredLotIsGone :
    plant.lrg.lot 3 = some (lotOf 71004 100 .coal none .registered) ∧ plant.lrg.TagsApart
    ∧ (lotOf 71004 100 .coal none .registered).tag ≠ 0 ∧ (2 : LotNo) ≠ 3 :=
  ⟨by decide +kernel, plant_tagsApart, by decide +kernel, by decide⟩

/-- R34, R36: of 15 kg and 30 kg a debit of 15 leaves the empty head drawing, one of 16 takes 1 kg of the next
lot, one of 45 empties both, and one of 46 sets the mark.  That the queues are ordered is `plant_ordered`. -/
theorem test_meets_DebitPartsAddUp : (1 : Nat) ≤ 1 ∧ (plant.debit 1 25).1.length = 2
    ∧ (let left (k : Nat) := (List.finRange 2).map fun n => (((plant.debit 1 k).2.lrg.lot (n.castLE (by decide))).map
        fun r => (r.remaining, r.state))
       left 15 = [some (0, .drawing), some (30, .queued)] ∧ left 16 = [some (0, .exhausted), some (29, .drawing)]
       ∧ left 45 = [some (0, .exhausted), some (0, .drawing)])
    ∧ (plant.debit 1 45).2.lrg.overdrawn.get 1 = false ∧ (plant.debit 1 46).2.lrg.overdrawn.get 1 = true
    ∧ (plant.debit 1 46).2.alt.isPresent (.channel 1 .overdrawn) = true
    ∧ (plant.debit 1 46).1.map (·.kg) = [15, 30, 1] := by decide +kernel

/-- A conventional channel running at a setpoint of 0, and C1 running at 9,770. -/
def running : State := inState 0 .running (inState 3 .running plant)

theorem test_meets_StartAndStopAct :
    (Ready .startChannel .control [3#8] plant ∧ chan? (field [3#8] 0 1) = some 2 ∧ plant.tripLine = false
        ∧ plant.chc.supervision.link = .live ∧ (plant.chan 2).state = .off
        ∧ (plant.chan 2).holds.isEmpty = true ∧ (plant.chan 2).config.halves.isSome = true
        ∧ (plant.lrg.head 2).isSome = true)
    ∧ (plant.startRefusal 1 = some 3 ∧ State.startRefusal 2 { plant with tripLine := true } = some 1
        ∧ lost.startRefusal 2 = some 2 ∧ up.startRefusal 2 = some 5)
    ∧ (Ready .stopChannel .control [2#8] plant ∧ (plant.chan 1).state = .running
        ∧ (plant.chan 1).fuelClass = .alt)
    ∧ (Ready .stopChannel .control [4#8] running ∧ (running.chan 3).state = .running
        ∧ (running.chan 3).fuelClass = .conv ∧ running.setpoint 3 = 0)
    ∧ ((running.chan 0).state = .running ∧ (running.chan 0).fuelClass = .conv ∧ running.setpoint 0 ≠ 0) := by
  simp only [ready_iff]; decide +kernel

/-- HC_OPERATOR on the holding channel C5 and on C3, which is off. -/
def operatorHeld : State := (plant.setOperatorHold 4 true).setOperatorHold 2 true

/-- C2 in a state with a setpoint one below its min flow of 1,500. -/
def lowC2 (st : ChannelState) : State := State.setSetpoint 1 1499 (inState 1 st plant)

/-- C2 held by the operator alone at that setpoint. -/
def lowHeld : State := (lowC2 .holding).setOperatorHold 1 true

theorem test_meets_HoldAndTripRequestsAct :
    (Ready .holdChannel .panel [2#8] plant ∧ (plant.chan 1).holds.operator = false
        ∧ (plant.chan 1).state = .running ∧ (plant.chan 5).state = .starting)
    ∧ (Ready .holdChannel .panel [1#8] plant ∧ (plant.chan 0).holds.operator = false
        ∧ (plant.chan 0).state = .stopping)
    ∧ (Ready .releaseHold .panel [5#8] operatorHeld ∧ (operatorHeld.chan 4).holds.operator = true
        ∧ (operatorHeld.chan 4).state = .holding ∧ (operatorHeld.chan 4).holds.controlLost = false
        ∧ (operatorHeld.chan 4).holds.alarm = false
        ∧ (operatorHeld.chan 4).minFlow ≤ operatorHeld.setpoint 4)
    ∧ (Ready .releaseHold .panel [2#8] lowHeld ∧ (lowHeld.chan 1).holds.operator = true
        ∧ (lowHeld.chan 1).state = .holding ∧ (lowHeld.chan 1).holds.controlLost = false
        ∧ (lowHeld.chan 1).holds.alarm = false ∧ lowHeld.setpoint 1 < (lowHeld.chan 1).minFlow)
    ∧ (Ready .releaseHold .panel [3#8] operatorHeld ∧ (operatorHeld.chan 2).holds.operator = true
        ∧ (operatorHeld.chan 2).state ≠ .holding)
    ∧ Ready .emergencyStop .panel [] plant
    ∧ (Ready .clearTrip .control [4#8] plant ∧ chan? (field [4#8] 0 1) = some 3 ∧ plant.clearRefusal 3 = none)
    ∧ (Ready .clearTrip .control [2#8] plant ∧ plant.clearRefusal 1 = some 1) := by
  simp only [ready_iff]; decide +kernel

/-- C4 tripped by its stall. -/
def stalled : State := plant.setChan 3 { plant.chan 3 with tripCause := some .stall }

theorem test_meets_ClearTripAsksTheAlarmTable :
    (stalled.chan 3).state = .tripped ∧ (stalled.chan 3).tripCause = some .stall
    ∧ TripCause.stall.identity 3 = some (.channel 3 .stall) ∧ stalled.tripLine = false := by decide +kernel

/-- C3 with a LIMITS half staged, C2 with a CALIBRATION half staged. -/
def staged : State :=
  (plant.setChan 2 { plant.chan 2 with stagedLimits := some ⟨0, 0, 1⟩ }).setChan 1
    { plant.chan 1 with stagedCalibration := some ⟨100, 1⟩ }

theorem test_meets_ChannelSettingsWrite :
    (Ready .setChannelFuel .control [3#8, 1#8, 0x78#8] plant ∧ plant.acu.isOpen = true
        ∧ location? (field [3#8, 1#8, 0x78#8] 1 1) = some .calc
        ∧ kindSet? (field [3#8, 1#8, 0x78#8] 2 1) = some 0x78#7 ∧ oneClass 0x78#7 = true
        ∧ plant.mayTakeFuel 2 .calc 0x78#7 = true)
    ∧ (Ready .setLotClLimit .control (1#8 :: u16 30000) plant
        ∧ field (1#8 :: u16 30000) 1 2 ≤ Config.clLimitMax)
    ∧ Ready .setShare .control (6#8 :: u16 65535) plant
    ∧ (Ready .setLinkTimes .control (u16 1 ++ u16 600) up ∧ Ready .setLinkTimes .control (u16 10 ++ u16 0) up) := by
  simp only [ready_iff]; decide +kernel

theorem test_meets_ChannelSettingsWrite_halves :
    (Ready .setFlowLimits .control (3#8 :: (u16 60000 ++ u16 60000 ++ u16 20000)) plant
        ∧ (plant.chan 2).stagedCalibration = none)
    ∧ (Ready .setFlowLimits .control (2#8 :: (u16 0 ++ u16 0 ++ u16 1)) staged
        ∧ (staged.chan 1).stagedCalibration = some ⟨100, 1⟩)
    ∧ (Ready .setCalibration .control (2#8 :: (u32 80000 ++ u16 50000)) staged
        ∧ (staged.chan 1).stagedLimits = none)
    ∧ (Ready .setCalibration .control (3#8 :: (u32 100 ++ u16 1)) staged
        ∧ (staged.chan 2).stagedLimits = some ⟨0, 0, 1⟩) := by
  simp only [ready_iff]; decide +kernel

theorem test_meets_PairingEntersForce : (FlowLimits.mk 0 0 1).minFlow ≤ (FlowLimits.mk 0 0 1).maxFlow := by decide

theorem test_meets_FiringSettingsWrite :
    (Ready .setDemand .control (0#8 :: u16 2501) up ∧ Ready .setDemand .control (1#8 :: u16 2500) up
        ∧ Ready .setDemand .control (2#8 :: u16 0) up ∧ 2 ≤ field (2#8 :: u16 0) 0 1)
    ∧ (Ready .setClCeiling .control (1#8 :: u32 400000) opened ∧ opened.acu.isOpen = true
        ∧ (takeOpt 4 (1#8 :: u32 400000)).1 = some 400000)
    ∧ (Ready .setClCeiling .control [0#8] opened ∧ (takeOpt 4 [0#8]).1 = none)
    ∧ (Ready .setCreditParams .control (u16 600 ++ u16 500) opened
        ∧ Ready .setCreditParams .control (u16 1300 ++ u16 0) opened)
    ∧ (Ready .setDeficitAlarm .control (u16 10 ++ u16 600) up
        ∧ Ready .setDeficitAlarm .control (u16 200 ++ u16 10) up) := by
  simp only [ready_iff]; decide +kernel

/-- The cooler in a mode, Q_MAIN at 120,000 kW, P4 at a temperature with PQ_GOOD, the last credit 20,000 kW. -/
def crediting (m : CoolerMode) (p4 : Int) : State :=
  let s := plant.setPoint 4 { plant.point 4 with value := p4, quality := .good }
  { s with clc := { s.clc with mode := m }, fsc := { s.fsc with lastCredit := 20000 } }

/-- R72: 60 kW/K for 50 K is 3,000 kW; 201 K, and the last credit, are cut to a tenth of the demand. -/
theorem test_meets_CreditIsBounded :
    State.reset.fsc.flushCap = none ∧ up.flushEntry.fsc.flushCap.isSome = true
    ∧ ((crediting .normal 1050).takeStages.fsc.published.basis = .valid
        ∧ (crediting .normal 1050).takeStages.fsc.published.credit = 3000
        ∧ (crediting .normal 1201).takeStages.fsc.published.credit = 12000)
    ∧ ((crediting .held 1050).takeStages.fsc.published.basis = .frozen
        ∧ (crediting .held 1050).takeStages.fsc.published.credit = 12000) := by decide +kernel

/-- The plant with an ALT chlorine ceiling of 60,000 g/h. -/
def ceiled : State := { plant with fsc := { plant.fsc with config := { plant.fsc.config with ceiling := some 60000 } } }

theorem test_meets_ChlorineCeilingHolds :
    ceiled.phase = .running ∧ ceiled.fsc.config.ceiling = some 60000
    ∧ exec .firingPeriodExpiry ceiled = .next (go .firingPeriodExpiry ceiled)
    ∧ fixedChlorine ceiled.views ≤ 60000 * 1000 :=
  ⟨rfl, rfl, rfl, by decide +kernel⟩

theorem test_meets_FiringPeriodCompletes : plant.phase = .running
    ∧ exec .firingPeriodExpiry plant = .next (go .firingPeriodExpiry plant) := ⟨rfl, rfl⟩

/-- The plant with counts of its MAIN deficit and of the periods without CL_LIMITED, the latter reported. -/
def counting (main inactive : Nat) : State :=
  { plant with fsc := { plant.fsc with countMain := main, inactive := inactive, reportedCl := true } }

/-- R81, R82: the deficit comes at the delay and not before; CL_LIMITED goes at the sixtieth period without it. -/
theorem test_meets_FiringPeriodCompletes_counts :
    (let t := go .firingPeriodExpiry (counting 58 59)
     t.fsc.countMain = 59 ∧ t.fsc.reportedMain = false ∧ t.fsc.reportedCl = false
       ∧ t.alt.isPresent (.firing .heatDeficitMain) = false)
    ∧ (let t := go .firingPeriodExpiry (counting 59 58)
       t.fsc.countMain = 60 ∧ t.alt.isPresent (.firing .heatDeficitMain) = true ∧ t.fsc.reportedCl = true
         ∧ t.fsc.inactive = 59) := by decide +kernel

/-- A running channel of the calciner drawing a lot of a fuel, with a max flow and a share. -/
def burning (c : Chan) (k : FuelKind) (ncv chlorine maxFlow share : Nat) (s : State) : State :=
  let t := inState c .running (withHalves c (halvesOf 1000 maxFlow 600 30000 1000) s)
  let u := t.setChan c { t.chan c with
    config := { (t.chan c).config with location := .calc, kinds := 1#7 <<< k.code, share := share } }
  { u with lrg := { u.lrg with
      lots := u.lrg.lots.put ⟨c.val, by omega⟩ (slot 1 (lotOf 1 100 k (some ⟨ncv, 0, chlorine, 0, ncv⟩) .drawing))
      queues := u.lrg.queues.put c [⟨c.val, by omega⟩] } }

/-- The example of R75 (petcoke on C4, RDF on C5), with or without a ceiling of 96,000 g/h. -/
def splitting (ceiling : Option Nat) : State :=
  let s := burning 3 .petcoke 32000 0 10000 400 (burning 4 .rdf 16000 8000 24000 600 up)
  { s with fsc := { s.fsc with demandCalc := 200000, config := { s.fsc.config with ceiling := ceiling } } }

/-- R75's example: C5 is clamped to 24,000 kg/h and C4, which gains its heat, to 10,000 kg/h.  Under the
ceiling half of C5's 192,000 g/h is allowed, and its target halves (R76). -/
theorem test_meets_FiringPeriodCompletes_split :
    (∀ c ∈ [(3 : Chan), 4], ((splitting none).view c).state = .running
        ∧ ((splitting none).view c).minFlow ≤ ((splitting none).view c).maxFlow)
    ∧ ((splitting none).view 3).cls = .conv ∧ ((splitting none).view 4).cls = .alt
    ∧ (let t := (splitting none).takeStages
       t.fsc.target.get 3 = 10000 ∧ t.fsc.target.get 4 = 24000 ∧ t.fsc.published.clActive = false)
    ∧ (let t := (splitting (some 96000)).takeStages
       t.fsc.target.get 3 = 10000 ∧ t.fsc.target.get 4 = 12000 ∧ t.fsc.published.clActive = true) := by
  decide +kernel

theorem test_meets_SetpointsMoveByState :
    (plant.view 0).state = .stopping ∧ (plant.view 5).state = .starting ∧ (plant.view 4).state = .holding
    ∧ (plant.view 4).fallback = false ∧ (plant.view 1).state = .running ∧ (plant.view 1).cls = .alt
    ∧ (plant.view 1).minFlow ≤ (plant.view 1).setpoint ∧ (running.view 0).cls = .conv
    ∧ (running.view 0).state = .running
    ∧ (plant.view 2).state = .off ∧ (plant.view 3).state = .tripped := by decide +kernel

/-- The coal channel of the running plant, at a setpoint. -/
def coalAt (setpoint : Nat) : ChanView := { running.view 0 with setpoint := setpoint }

/-- R78, with a step of 50 kg/h and a min flow of 3,000 kg/h: it rises by the step, but not past the target, is
raised to the min flow first where the target is not 0, falls by the step, and stands at a target it holds; an
alternative one falls at once; one held in the fallback of a lost link falls by its stopping step to the min
flow. -/
theorem test_meets_SetpointsMoveByState_ramp :
    (coalAt 9000).newSetpoint 9100 = 9050 ∧ (coalAt 9000).newSetpoint 9050 = 9050
    ∧ (coalAt 9000).newSetpoint 9049 = 9049 ∧ (coalAt 2999).newSetpoint 9000 = 3050
    ∧ (coalAt 9000).newSetpoint 8900 = 8950 ∧ (coalAt 9000).newSetpoint 9000 = 9000
    ∧ ({ coalAt 9000 with cls := .alt }).newSetpoint 8900 = 8900
    ∧ ({ coalAt 3020 with state := .holding, fallback := true }).newSetpoint 0 = 3000 := by decide +kernel

theorem test_meets_TrimIntervalAdapts : up.phase = .running := rfl

/-- A stall window running on C2 (running) and on C3 (off). -/
def windows : State :=
  (plant.setFeeder 1 { plant.feeder 1 with stallWindow := some ⟨10, 0⟩ }).setFeeder 2
    { plant.feeder 2 with stallWindow := some ⟨10, 0⟩ }

theorem test_meets_FeederCommandsAct :
    plant.phase = .running ∧ (plant.fdi.get 3).calibration = none
    ∧ ((plant.fdi.get 2).calibration = some ⟨8000, 700⟩ ∧ (plant.fdi.get 2).residue + 700 < 1000)
    ∧ ((plant.fdi.get 0).calibration = some ⟨16000, 1000⟩ ∧ 1000 ≤ (plant.fdi.get 0).residue + 1000)
    ∧ ((windows.fdi.get 1).stallWindow.isSome = true ∧ (windows.chan 1).state.active = true)
    ∧ ((windows.fdi.get 2).stallWindow.isSome = true ∧ (windows.chan 2).state.active = false)
    ∧ (Ready .setStallTime .control (1#8 :: u16 2) up ∧ Ready .setStallTime .control (6#8 :: u16 30) up
        ∧ Ready .setStallTime .control (1#8 :: u16 1) up ∧ Ready .setStallTime .control (1#8 :: u16 31) up) := by
  simp only [ready_iff]; decide +kernel

theorem test_meets_CoolerRequestsAct :
    (Ready .setCompartment .control (8#8 :: (u16 1000 ++ u32 20000 ++ u16 500)) up
        ∧ Ready .setCompartment .control (1#8 :: (u16 0 ++ u32 200000 ++ u16 100)) up
        ∧ comp? (field [8#8] 0 1) = some 7)
    ∧ (Ready .setCompartmentControl .control (4#8 :: 1#8 :: u16 1001) up ∧ control? 1 = some .fixed)
    ∧ (let f := u16 3000 ++ u16 250 ++ u16 250 ++ u16 2000 ++ u16 50 ++ u16 500 ++ u16 600
       Ready .setCoolerConfig .control f up ∧ (coolerConfigOf f).inRange = true
        ∧ (coolerConfigOf f).grateMin ≤ (coolerConfigOf f).grateMax)
    ∧ (Ready .setManualSpeed .control (1#8 :: u16 0) (cooling .manual 2500 5500)
        ∧ (cooling .manual 2500 5500).clc.mode = .manual
        ∧ ((cooling .manual 2500 5500).clc.compartments.get 0).config.control = .auto)
    ∧ Ready .setManualGrate .control (u16 65535) (cooling .manual 2500 5500) := by
  simp only [ready_iff]; decide +kernel

theorem test_meets_CoolerRequestsAct_mode :
    (Ready .coolerMode .control [1#8] up ∧ up.clc.mode ≠ .manual)
    ∧ (Ready .coolerMode .control [0#8] (cooling .manual 49 5500)
        ∧ ((cooling .manual 49 5500).point 6).quality.usable = true
        ∧ ((cooling .manual 49 5500).point 6).value < 50)
    ∧ (Ready .coolerMode .control [0#8] (cooling .manual 50 5500)
        ∧ 50 ≤ ((cooling .manual 50 5500).point 6).value) := by
  simp only [ready_iff]; decide +kernel

/-- A flush running, its condition reported or not. -/
def flushing (told : Bool) : State :=
  let s := cooling .flush 2500 5500
  { s with clc := { s.clc with flushTimer := some ⟨120, 0⟩, reportedFlush := told } }

/-- P16 in BAND_HIGH while the cooler runs at a clinker rate of 5.0 t/h, its idle threshold. -/
def hot : State :=
  let s := cooling .normal 50 5500
  s.setPoint 16 { s.point 16 with band := .high }

theorem test_meets_CoolerTimersAct :
    ((flushing true).clc.flushTimer = some ⟨120, 0⟩ ∧ (flushing true).clc.reportedFlush = true)
    ∧ ((flushing false).clc.flushTimer = some ⟨120, 0⟩ ∧ (flushing false).clc.reportedFlush = false)
    ∧ ((up.point 6).quality.usable = false ∧ up.clc.mode = .idle)
    ∧ ((cooling .held 2500 5500).clc.mode = .held ∧ ((cooling .held 2500 5500).point 8).quality.usable = true)
    ∧ (hot.phase = .running ∧ hot.clc.mode = .normal ∧ 50 ≤ (hot.point 6).value ∧ (hot.point 16).band = .high)
    ∧ ((cooling .normal 49 5500).point 6).value < 50 := by decide +kernel

/-- P8 at 5,600 over a previous P8, with a flush step of 500, the flush timer running in CM_FLUSH. -/
def rising8 (m : CoolerMode) (previous : Int) : State :=
  let s := cooling m 2500 5600
  { s with clc := { s.clc with
      previousP8 := some previous, config := { s.clc.config with flushStep := 500, grateGain := 10 }
      flushTimer := if m = .flush then some ⟨60, 0⟩ else none, grate := 120 } }

/-- R115: a rise by more than the flush step triggers, one by the step itself does not. -/
theorem test_meets_CoolerTimersAct_rise :
    ((rising8 .normal 5099).clc.previousP8 = some 5099 ∧ (rising8 .flush 5099).clc.mode = .flush
        ∧ ((rising8 .normal 5099).clc.config.flushStep : Int) < ((rising8 .normal 5099).point 8).value - 5099)
    ∧ ((rising8 .normal 5100).clc.previousP8 = some 5100 ∧ ((rising8 .flush 5100).point 16).band = .normal
        ∧ ¬ ((rising8 .normal 5100).clc.config.flushStep : Int) < ((rising8 .normal 5100).point 8).value - 5100)
    ∧ (go .coolerPeriodExpiry (rising8 .normal 5099)).fsc.flushCap = some 0
    ∧ (go .coolerPeriodExpiry (rising8 .normal 5100)).clc.grate = 121
    ∧ (go .coolerPeriodExpiry (rising8 .flush 5099)).clc.flushTimer = some ⟨120, 0⟩
    ∧ (go .coolerPeriodExpiry (rising8 .flush 5100)).clc.flushTimer = some ⟨60, 0⟩ := by decide +kernel

/-- Two FIXED fans, the second of 100,000 Nm3/h at half speed, the sixth one short of air. -/
def fans (m : CoolerMode) : State :=
  let s := (cooling m 2500 5500).setCompartment 1
    ⟨⟨125, 100000, 200, .fixed, 500⟩, 700, 300, false, 0, .bad⟩
  (s.setCompartment 7 ⟨⟨125, 100000, 200, .fixed, 0⟩, 900, 300, false, 0, .bad⟩).setCompartment 5
    ⟨⟨125, 50000, 200, .auto, 0⟩, 650, 350, true, 0, .bad⟩

/-- R110, R111, R114: 250.0 t/h at 2,100 Nm3/t ask 525,000 Nm3/h, 50,000 of them fixed; the six AUTO fans share the
rest, 79,166 each, which is more than the sixth gives. -/
theorem test_meets_CoolerTimersAct_fans :
    (∀ m ∈ [CoolerMode.normal, .flush, .manual], (go .coolerPeriodExpiry (fans m)).clc.mode = m)
    ∧ (let k (m : CoolerMode) (n : Comp) := (go .coolerPeriodExpiry (fans m)).clc.compartments.get n
       ((k .normal 0).speed = 791 ∧ (k .normal 1).speed = 500 ∧ (k .normal 5).speed = 1000
          ∧ (k .normal 5).airShort = true ∧ (k .normal 7).speed = 0)
       ∧ ((k .flush 0).speed = 1000 ∧ (k .flush 1).speed = 500 ∧ (k .flush 2).airShort = false
          ∧ (k .flush 3).speed = 791)
       ∧ (k .manual 5).speed = 350 ∧ (k .manual 5).airShort = false)
    ∧ (let t := go .coolerPeriodExpiry ((fans .normal).setPoint 8 { (fans .normal).point 8 with quality := .bad })
       t.clc.mode = .held ∧ (t.clc.compartments.get 5).speed = 650
         ∧ (t.clc.compartments.get 5).airShort = true ∧ (t.clc.compartments.get 1).speed = 500)
    ∧ (let t := go .coolerPeriodExpiry ((fans .normal).setPoint 6 { (fans .normal).point 6 with value := 49 })
       t.clc.mode = .idle ∧ (t.clc.compartments.get 5).speed = 200
         ∧ (t.clc.compartments.get 5).airShort = false) := by decide +kernel

theorem test_meets_CoolerTimersAct_next :
    exec .coolerPeriodExpiry hot = .next (go .coolerPeriodExpiry hot) := rfl

theorem test_meets_AcknowledgementsAct :
    (Ready .ackAlarm .panel [0#8, 1#8] alarmed ∧ field [0#8, 1#8] 0 1 = (0 : SlotNo).val
        ∧ alarmed.alt.record 0 = some storeFaultRecord ∧ storeFaultRecord.state = .activeUnack
        ∧ field [0#8, 1#8] 1 1 = (alarmed.alt.slots.get 0).generation ∧ field [0#8, 1#8] 1 1 ≠ 0)
    ∧ (Ready .ackAlarm .control [1#8, 1#8] alarmed
        ∧ alarmed.alt.record 1 = some (recordOf (.channel 1 .stall) .high .clearedUnack none))
    ∧ (Ready .ackAll .control [] alarmed ∧ alarmed.alt.slotsIn .activeUnack ≠ []
        ∧ alarmed.alt.slotsIn .clearedUnack ≠ []) := by
  simp only [ready_iff]; decide +kernel

theorem test_meets_AlarmRequestsAct :
    (Ready .shelve .control ([0#8, 1#8] ++ u16 481) alarmed ∧ 1 ≤ field ([0#8, 1#8] ++ u16 481) 2 2
        ∧ alarmed.alt.record 0 = some storeFaultRecord ∧ storeFaultRecord.state ≠ .clearedUnack
        ∧ alarmed.alt.mayShelve storeFaultRecord = true)
    ∧ (Ready .unshelve .control [2#8, 1#8] alarmed
        ∧ (alarmed.alt.record 2).map (·.shelvedUntil) = some (some 1)
        ∧ (alarmed.alt.slots.get 2).generation = 1)
    ∧ (Ready .silence .panel [] alarmed ∧ (alarmed.alt.record 0).map (·.annunciate) = some true)
    ∧ (Ready .collectAlarms .panel [] alarmed ∧ (alarmed.alt.marked .panel).length = 4)
    ∧ (let f := [15#8, 2#8, 3#8, 0#8, 0#8, 0#8, 6#8]
       Ready .setTripEntry .control f opened ∧ entry? (field f 0 1) = some 15
        ∧ tripContents? (f.drop 1) = some (some ⟨.cooler .flush, .any, .tripChannel 5⟩)) := by
  simp only [ready_iff]; decide +kernel

/-- Entry 3 holds C5 on COOLER/HELD and is in force; entry 4, due at any level, trips LOC_MAIN on COOLER/FLUSH;
entry 5 trips every channel on the high side of P0 at CRIT. -/
def mapped : State :=
  let m := ((opened.alt.tripMap.put 3 ⟨some ⟨.cooler .held, .any, .holdChannel 4⟩, true⟩).put 4
    ⟨some ⟨.cooler .flush, .any, .tripLocation .main⟩, false⟩).put 5
    ⟨some ⟨.point 0 .hiSide, .crit, .tripAll⟩, false⟩
  let s := (plant.setChan 4 { plant.chan 4 with
    alarmHolds := [.cooler .held], holds := { (plant.chan 4).holds with alarm := true } }).setAlt
    (AlarmTable.setCondition (.cooler .held) (some ⟨none, .low, false⟩) { opened.alt with tripMap := m })
  withRecord 2 (recordOf (.cooler .held) .low .activeUnack (some 1)) s

theorem mapped_distinct (i j : SlotNo) (r r' : AlarmRecord) (hi : mapped.alt.record i = some r)
    (hj : mapped.alt.record j = some r') (e : r.identity = r'.identity) : i = j := by
  have h : ∀ i j : SlotNo, (mapped.alt.record i).isSome = true →
      (mapped.alt.record i).map (·.identity) = (mapped.alt.record j).map (·.identity) → i = j := by decide +kernel
  exact h i j (by simp [hi]) (by simp [hi, hj, e])

/-- R141: LOC_MAIN trips, C3 excepted, which is off; P0 going to HIGH does nothing and on to CRIT trips all. -/
theorem test_meets_AlarmRequestsAct_comes :
    (mapped.alt.condition (.cooler .flush) = none ∧ mapped.alt.condition (.point 0 .hiSide) = none)
    ∧ (let t := mapped.comes (.cooler .flush) none .high
       (t.alt.tripMap.get 4).inForce = true ∧ (t.chan 1).tripCause = some (.alarm (.cooler .flush))
         ∧ (t.chan 2).state = .off ∧ (t.chan 4).state = .holding)
    ∧ (let t := mapped.levelChanges (.point 0 .hiSide) (some .high) .high
       (t.alt.tripMap.get 5).inForce = false ∧ (t.chan 1).state = .running
         ∧ ((t.levelChanges (.point 0 .hiSide) (some .crit) .high).chan 1).state = .tripped) := by decide +kernel

/-- R141, R142: the hold of C5 ends with its condition and with its entry, and is taken again by a rewrite, which
ends the shelving of the record. -/
theorem test_meets_AlarmRequestsAct_goes :
    (mapped.alt.isPresent (.cooler .held) = true ∧ ∀ c, (mapped.chan c).alarmHolds.Nodup)
    ∧ (let t := mapped.goes (.cooler .held)
       (t.chan 4).state = .running ∧ (t.chan 4).alarmHolds = [] ∧ (t.alt.tripMap.get 3).inForce = false)
    ∧ ((mapped.replaceEntry 3 none).chan 4).state = .running
    ∧ (let t := mapped.replaceEntry 3 (some ⟨.cooler .held, .any, .holdChannel 4⟩)
       (t.chan 4).state = .holding ∧ (t.chan 4).alarmHolds = [.cooler .held]
         ∧ (t.alt.record 2).map (·.shelvedUntil) = some none) := by decide +kernel

theorem test_meets_AlarmRecordsAreKept :
    Port.control ≠ Port.panel ∧ (0 : SlotNo) ∈ (alarmed.alt.marked .control).take 6
    ∧ (64 : SlotNo) ∉ (alarmed.alt.marked .control).take 6 := by decide +kernel

/-- The close of shift 2 deferred. -/
def overrun : State :=
  { reported true with sht := { (reported true).sht with
      current := { (reported true).sht.current with overrun := true } } }

theorem test_meets_ShiftRequestsAct :
    (Ready .setClock .control (u16 65535 ++ u32 86399) up ∧ field (u16 65535 ++ u32 86399) 2 4 ≤ 86399)
    ∧ (Ready .setShiftPlan .control (u16 720 ++ u16 1439) up ∧ field (u16 720 ++ u16 1439) 0 2 = 720)
    ∧ (Ready .shiftClose .control [] up ∧ up.sht.held = none)
    ∧ (Ready .releaseShift .control (u16 1) (reported true)
        ∧ (reported true).sht.held.map (·.number) = some (field (u16 1) 0 2)
        ∧ (reported true).sht.current.overrun = false ∧ (reported true).sht.held.map (·.collected) = some true)
    ∧ (Ready .releaseShift .control (u16 1) (reported false)
        ∧ (reported false).sht.held.map (·.number) = some (field (u16 1) 0 2)
        ∧ (reported false).sht.current.overrun = false
        ∧ (reported false).sht.held.map (·.collected) = some false)
    ∧ (Ready .releaseShift .control (u16 1) overrun ∧ overrun.sht.current.overrun = true
        ∧ overrun.sht.held.isSome = true)
    ∧ (Ready .correctShift .control (u16 1 ++ u48 281474976710655) (reported false)
        ∧ (reported false).sht.held.map (·.number) = some 1
        ∧ field (u16 1 ++ u48 281474976710655) 2 6 ≤ 281474976710655) := by
  simp only [ready_iff]; decide +kernel

/-- The clock at the last second of the last day, which is no boundary of a plan that starts at minute 360. -/
def lateClock : State := { up with sht := { up.sht with clock := some ⟨65535, 86399⟩ } }

/-- The clock one second before minute 360, the first boundary of the default plan. -/
def dueClock (s : State) : State := { s with sht := { s.sht with clock := some ⟨65535, 21599⟩ } }

/-- R159: the boundary closes into an empty held slot, and is deferred by a held report. -/
theorem test_meets_ShiftSecondIsCounted_boundary :
    (dueClock up).phase = .running ∧ (dueClock up).sht.clock = some ⟨65535, 21599⟩ ∧ (21599 : Nat) < 86400
    ∧ (dueClock up).sht.plan.isBoundary ((21599 + 1) % 86400) = true ∧ (dueClock up).sht.held = none
    ∧ (dueClock (reported true)).sht.held.isSome = true
    ∧ (dueClock (reported true)).sht.plan.isBoundary ((21599 + 1) % 86400) = true
    ∧ (go .shiftTimerExpiry (dueClock up)).sht.current.number = 2
    ∧ (go .shiftTimerExpiry (dueClock (reported true))).sht.current.overrun = true := by decide +kernel

theorem test_meets_ShiftSecondIsCounted :
    lateClock.phase = .running ∧ lateClock.sht.clock = some ⟨65535, 86399⟩
    ∧ lateClock.sht.plan.isBoundary ((86399 + 1) % 86400) = false ∧ up.sht.clock = none
    ∧ ((cooling .normal 2500 5500).point 6).quality = .good ∧ (up.point 6).quality ≠ .good := by decide +kernel

/-- Access with a word of 5 and so many mismatches. -/
def worded (mismatches : Nat) : State := { up with acu := { up.acu with word := 5#64, mismatches := mismatches } }

theorem test_meets_AccessRequestsAct :
    (Ready .accessOpen .control (List.replicate 8 0#8) up ∧ up.acu.lockout = false
        ∧ up.acu.word = BitVec.allOnes 64)
    ∧ wordOf (u48 0 ++ u16 5) = (worded 0).acu.word
    ∧ (Ready .accessClose .control [] opened ∧ opened.acu.isOpen = true)
    ∧ Ready .setAccessWord .control (List.replicate 8 255#8) opened
    ∧ (Ready .accessOpen .control (List.replicate 8 0#8) { up with acu := { up.acu with lockout := true } })
    ∧ (Ready .accessOpen .control (List.replicate 8 0#8) (worded 1)
        ∧ (worded 1).acu.word ≠ BitVec.allOnes 64 ∧ wordOf (List.replicate 8 0#8) ≠ (worded 1).acu.word
        ∧ (worded 1).acu.mismatches < 2 ∧ 2 ≤ (worded 2).acu.mismatches) := by
  simp only [ready_iff]; decide +kernel

/-- P16 protected while access is closed. -/
def shut16 : State := { protected16 with acu := up.acu }

theorem test_meets_ProtectedNeedsAccess :
    up.acu.isOpen = false ∧ Ready .setClCeiling .control [0#8] up
    ∧ (Ready .setLotClLimit .control (1#8 :: u16 0) up ∧ (chan? (field (1#8 :: u16 0) 0 1)).isSome = true)
    ∧ (Ready .setLimits .control widestLimits shut16 ∧ shut16.acu.isOpen = false
        ∧ point? (field widestLimits 0 1) = some 16 ∧ (shut16.point 16).config.protect = true)
    ∧ (Ready .setProtectMark .control [16#8, 0#8] shut16 ∧ field [16#8, 0#8] 1 1 = 0) := by
  simp only [ready_iff]; decide +kernel

theorem test_meets_StoreAndPowerAct :
    Ready .saveSettings .control [] up ∧ Ready .warmRestart .control [] plant ∧ up.phase ≠ .off
    ∧ State.off.phase = .off ∧ State.reset.phase = .startUp ∧ State.reset.tripLine = false
    ∧ saving.sst.inFlight = some up.settings
    ∧ { State.reset with tripLine := true }.phase = .startUp
    ∧ { State.reset with tripLine := true }.tripLine = true := by
  simp only [ready_iff]; decide +kernel

theorem test_meets_WarmRestartIsSafe :
    plant.tripLine = false ∧ { plant with tripLine := true }.tripLine = true := ⟨rfl, rfl⟩

theorem test_meets_SettingsSurviveOrDefault :
    saving.phase = .running ∧ saving.sst.inFlight = some saving.settings
    ∧ exec (.saveCompletion true) saving = .next (go (.saveCompletion true) saving)
    ∧ exec .resetAssert (go (.saveCompletion true) saving)
        = .next (go .resetAssert (go (.saveCompletion true) saving))
    ∧ exec .pinReset (go .resetAssert (go (.saveCompletion true) saving))
        = .next (go .pinReset (go .resetAssert (go (.saveCompletion true) saving)))
    ∧ exec .powerLoss saving = .next (go .powerLoss saving)
    ∧ exec .powerOn (go .powerLoss saving) = .next (go .powerOn (go .powerLoss saving)) :=
  ⟨rfl, by decide +kernel, rfl, rfl, rfl, rfl, rfl⟩

theorem test_meets_PowerOnLeavesTheStartValues :
    exec .powerOn plant = .next (go .powerOn plant) := rfl

theorem test_meets_PortsAnswerWhatTheyRefuse :
    State.reset.phase = .startUp ∧ panelMay .setShare = false ∧ up.panel.sending = none ∧ up.panel.held = none
    ∧ (panelSends none).panel.sending.isSome = true ∧ (panelSends none).panel.held = none
    ∧ (panelSends (some .failed)).panel.held.isSome = true
    ∧ (State.reset.panel.sending = none ∧ State.reset.panel.held = none)
    ∧ lengthOk .setShare [] = false
    ∧ (saving.phase = .running ∧ saving.sst.inFlight.isSome = true ∧ lengthOk .setShare [1#8, 0#8, 0#8] = true
        ∧ busyDuringSave .setShare = true)
    ∧ (panelMay .silence = true ∧ lengthOk .silence [0#8] = false) := by decide +kernel

/-- A response of 7 bytes waiting in the control port's buffer. -/
def answered : State := { up with control := { up.control with buffer := some ⟨1#8, .ok, 0#8, []⟩ } }

theorem test_meets_ControlTransfersAct :
    Instr.wellFormed (.ignoredTransfer [0x00#8]) = true ∧ Instr.wellFormed (.controlBadFrame [0x5A#8]) = true
    ∧ up.control.buffer = none ∧ answered.control.buffer = some ⟨1#8, .ok, 0#8, []⟩
    ∧ (Response.mk 1#8 .ok 0#8 []).frame.length = 7 ∧ Kind.ofCode 0x00#8 = none := by decide +kernel

/-- The panel's receiver with one byte of a body of 4. -/
def receiving : State := up.setReceiver (.body 4 [1#8])

theorem test_meets_PanelEventsAct :
    up.phase = .running ∧ up.panel.sending = none ∧ up.panel.held = none ∧ receiving.panel.receiver ≠ .hunt
    ∧ receiving.panel.sending = none ∧ up.panel.receiver = .hunt ∧ (panelSends none).panel.held = none
    ∧ (panelSends none).panel.sending.isSome = true
    ∧ (panelSends (some (.checked (Kind.code .silence) 0#8 []))).panel.held
        = some (.checked (Kind.code .silence) 0#8 [])
    ∧ (panelSends (some (.checked (Kind.code .silence) 0#8 []))).panel.receiver = .hunt
    ∧ (0x5B#8 : Byte) ≠ 0x5A#8
    ∧ (panelSends (some .failed)).panel.held.isSome = true ∧ Kind.ofCode 0x00#8 = none := by decide +kernel

/-- The receiver in LENGTH at the ends of its range and beyond them; the last byte of a body of 4 that fails,
of a READ_STATUS, and of a frame of kind 0x00; and a byte before the last. -/
theorem test_meets_PanelEventsAct_receiver :
    (up.setReceiver .length).panel.receiver = .length
    ∧ (4 ≤ (4#8 : Byte).toNat ∧ (250#8 : Byte).toNat ≤ 250 ∧ (3#8 : Byte).toNat < 4 ∧ 250 < (251#8 : Byte).toNat)
    ∧ (receiving.panel.receiver = .body 4 [1#8] ∧ [1#8].length + 1 < 4 ∧ 4 ≤ [1#8, 0#8, 0#8].length + 1)
    ∧ readFrame (BitVec.ofNat 8 4) ([1#8, 0#8, 0#8] ++ [0#8]) = .failed
    ∧ (let f := (requestFrame 0x01#8 7#8 []).drop 2
       readFrame (BitVec.ofNat 8 4) (f.take 3 ++ f.drop 3) = .checked (Kind.code .readStatus) 7#8 [])
    ∧ (let f := (requestFrame 0x00#8 7#8 []).drop 2
       readFrame (BitVec.ofNat 8 4) (f.take 3 ++ f.drop 3) = .checked 0x00#8 7#8 []) := by decide +kernel

theorem test_meets_FramesAreTheirRequest :
    up.linked = true ∧ up.panel.receiver = .hunt ∧ (List.replicate 246 (0#8 : Byte)).length ≤ 246 := by decide +kernel

theorem test_meets_FrameCheckIsComputed :
    ([] : List Byte).length + 4 = (4#8 : Byte).toNat ∧ (List.replicate 246 (0#8 : Byte)).length + 4 = (250#8 : Byte).toNat := by
  decide +kernel

theorem test_meets_LinkLossHoldsAndEnds :
    plant.phase = .running ∧ plant.chc.supervision.link = .live
    ∧ plant.chc.supervision.supervisionTimer.isSome = true
    ∧ exec .supervisionExpiry plant = .next (go .supervisionExpiry plant)
    ∧ plant.chc.supervision.holdTime ≠ 0 ∧ lost.chc.supervision.link ≠ .live :=
  ⟨rfl, rfl, rfl, rfl, by decide +kernel, by decide +kernel⟩

theorem test_meets_LinkLossHoldsAndEnds_noHold :
    let s := { up with chc := { up.chc with supervision := { up.chc.supervision with holdTime := 0 } } }
    s.chc.supervision.holdTime = 0 ∧ (go .supervisionExpiry s).chc.supervision.link = .lostFallback := by
  decide +kernel

/-- C2 starting with a setpoint one below its min flow. -/
def lowStarting : State :=
  let s := lowC2 .starting
  s.setChan 1 { s.chan 1 with startTimer := some ⟨10, 0⟩ }

theorem test_meets_TimersAct :
    plant.phase = .running ∧ (plant.chan 5).state = .starting ∧ (plant.chan 5).startTimer.isSome = true
    ∧ (plant.chan 5).minFlow ≤ plant.setpoint 5
    ∧ (lowStarting.phase = .running ∧ (lowStarting.chan 1).state = .starting
        ∧ (lowStarting.chan 1).startTimer.isSome = true ∧ lowStarting.setpoint 1 < (lowStarting.chan 1).minFlow)
    ∧ (plant.chan 0).state ≠ .starting
    ∧ plant.chc.supervision.link = .live ∧ plant.chc.supervision.supervisionTimer.isSome = true
    ∧ lost.chc.supervision.link = .lostHold ∧ lost.chc.supervision.holdTimer.isSome = true
    ∧ alarmed.phase = .running
    ∧ alarmed.alt.record 2 = some (recordOf (.cooler .airShort) .low .activeUnack (some 1)) := by decide +kernel

/-- P1 good at the age of 9 s with a stale limit, and the alternative C2 held in the loss above its min flow. -/
def ageingP1 (limit : Nat) : State :=
  up.setPoint 1 { up.point 1 with
    quality := .good, age := 9, config := { (up.point 1).config with staleLimit := limit } }
def heldC2 : State :=
  let s := { plant with chc := { plant.chc with supervision := lost.chc.supervision } }
  s.setChan 1 { s.chan 1 with state := .holding, holds := { (s.chan 1).holds with controlLost := true } }

/-- R5, R60, R136: at its limit of 10 s the point is stale, at 11 s it is not; C2 falls to 1,500 kg/h; the last
second on the shelf annunciates the record. -/
theorem test_meets_TimersAct_effects :
    (ageingP1 10).phase = .running ∧ ((go .ageingExpiry (ageingP1 10)).point 1).quality = .stale
    ∧ ((go .ageingExpiry (ageingP1 11)).point 1).quality = .good
    ∧ heldC2.phase = .running ∧ heldC2.chc.supervision.link = .lostHold
    ∧ heldC2.chc.supervision.holdTimer.isSome = true
    ∧ (heldC2.chan 1).fuelClass = .alt ∧ (heldC2.chan 1).minFlow < heldC2.setpoint 1
    ∧ (go .holdTimerExpiry heldC2).setpoint 1 = 1500
    ∧ ((go .shelvingTimerExpiry alarmed).alt.record 2).map (·.shelvedUntil) = some none := by decide +kernel

theorem test_meets_TimersAct_next :
    exec .ageingExpiry (ageingP1 10) = .next (go .ageingExpiry (ageingP1 10))
    ∧ exec .shelvingTimerExpiry alarmed = .next (go .shelvingTimerExpiry alarmed) := ⟨rfl, rfl⟩

/-! ### Witnesses: states that meet the invariants, each with a command waiting that steps -/

/-- The plant with a pulse of C2 waiting, and the part after its start-up with an ageing expiry waiting. -/
def pulsing : State := { plant with pending := [.feederPulse 1] }
def ageing : State := { up with pending := [.ageingExpiry] }

theorem test_meets_invariants_step :
    step pulsing = .next (go (.feederPulse 1) plant) ∧ step ageing = .next (go .ageingExpiry up) := ⟨rfl, rfl⟩

theorem test_meets_BalancesStay : pulsing.MassBalanced ∧ pulsing.sht.Sound := by
  refine ⟨by unfold State.MassBalanced; decide +kernel, ⟨?_, ?_, ?_, ?_⟩⟩
  · unfold Tally.Balanced; decide +kernel
  · intro t h; rw [show pulsing.sht.held = none from rfl] at h; cases h
  · decide +kernel
  · decide +kernel

theorem test_meets_QueuesStayOrdered : pulsing.lrg.Ordered ∧ pulsing.lrg.TagsApart :=
  ⟨plant_ordered, plant_tagsApart⟩

theorem test_meets_TripsStayInForce : pulsing.TripsHold :=
  ⟨by decide +kernel, by decide +kernel, by decide +kernel, by decide +kernel⟩

theorem test_meets_LinkStateStaysRight : pulsing.LinkAgrees :=
  ⟨by decide +kernel, by decide +kernel, by decide +kernel, by decide +kernel⟩

/-- A bound on halves from a check. -/
theorem halvesOrdered_of (h : Option Halves)
    (e : h.all (fun x => decide (x.limits.minFlow ≤ x.limits.maxFlow)) = true) : halvesOrdered h := by
  intro x hx; subst hx; simpa using e

theorem test_meets_FlowsStayBounded : pulsing.FlowsBounded := by
  have ho : ∀ c, ((pulsing.chan c).config.halves).all
      (fun x => decide (x.limits.minFlow ≤ x.limits.maxFlow)) = true := by decide +kernel
  have hs : ∀ c, ((pulsing.sst.image.settings.channels.get c).halves).all
      (fun x => decide (x.limits.minFlow ≤ x.limits.maxFlow)) = true := by decide +kernel
  have hl : ∀ c, (pulsing.chan c).stagedLimits = none := by decide +kernel
  have hf : pulsing.sst.inFlight = none := rfl
  exact ⟨fun c => halvesOrdered_of _ (ho c), fun c l e => (by rw [hl c] at e; cases e),
    fun c => halvesOrdered_of _ (hs c), fun st e => (by rw [hf] at e; cases e), by decide +kernel, by decide +kernel⟩

theorem test_meets_FeedersStayBounded : pulsing.FeedersBounded :=
  ⟨by decide +kernel, by decide +kernel, by decide +kernel, by decide +kernel, by decide +kernel⟩

theorem test_meets_CoolerStaysBounded : pulsing.CoolerBounded := by
  have hf : pulsing.sst.inFlight = none := rfl
  exact ⟨by unfold CompartmentConfig.Bounded; decide +kernel, by decide +kernel,
    by unfold Settings.CoolerBounded CompartmentConfig.Bounded; decide +kernel,
    fun st e => (by rw [hf] at e; cases e), by decide +kernel, by decide +kernel, by decide +kernel,
    by decide +kernel, by decide +kernel⟩

theorem test_meets_PointsStayReported : ageing.PointsAgree :=
  ⟨by decide +kernel, by decide +kernel, by decide +kernel, by decide +kernel, by decide +kernel,
    by decide +kernel, by decide +kernel⟩

theorem rank_storeFault {id : Identity} (h : id.rank = 170) : id = .system .storeFault := by
  have hv : id.rank.val = 170 := by rw [h]; rfl
  cases id with
  | point p k => have := p.isLt; cases k <;> simp [Identity.rank, PointCond.code] at hv <;> omega
  | channel c k => have := c.isLt; cases k <;> simp [Identity.rank, ChannelCond.code] at hv <;> omega
  | firing k => cases k <;> simp [Identity.rank, FiringCond.code] at hv
  | cooler k => cases k <;> simp [Identity.rank, CoolerCond.code] at hv
  | system k => cases k <;> simp [Identity.rank, SystemCond.code] at hv ⊢

theorem test_meets_AlarmTableStaysSound : ageing.alt.Sound := by
  have hr : ∀ i, ageing.alt.record i = if i = 0 then some storeFaultRecord else none := by decide +kernel
  have hc : ∀ n, ageing.alt.conditions.get n = if n = 170 then some ⟨none, .high, false⟩ else none := by
    decide +kernel
  have hp : ageing.alt.pendings = [] := by decide +kernel
  have one : ∀ {i r}, ageing.alt.record i = some r → i = 0 ∧ r = storeFaultRecord := by
    intro i r h; rw [hr] at h; split at h
    · exact ⟨‹_›, (Option.some.inj h).symm⟩
    · cases h
  have cond : ∀ {id k}, ageing.alt.condition id = some k → id = .system .storeFault ∧ k = ⟨none, .high, false⟩ := by
    intro id k h; rw [AlarmTable.condition, hc] at h; split at h
    · exact ⟨rank_storeFault ‹_›, (Option.some.inj h).symm⟩
    · cases h
  refine ⟨?_, ?_, ?_, ?_, ?_, ?_, by decide +kernel⟩
  · intro i j r r' hi hj _; rw [(one hi).1, (one hj).1]
  · intro i r h; obtain ⟨rfl, rfl⟩ := one h; decide
  · intro id k h hk; obtain ⟨-, rfl⟩ := cond h; cases hk
  · intro id k h _; obtain ⟨rfl, -⟩ := cond h
    exact ⟨0, storeFaultRecord, by decide +kernel, rfl, by decide⟩
  · intro i r h hn; obtain ⟨-, rfl⟩ := one h; exact absurd hn (by decide +kernel)
  · intro h; exact absurd hp h

theorem test_meets_AlarmTableStaysSound_map : { mapped with pending := [.ageingExpiry] }.TripMapAgrees := by
  have map : ∀ e, (mapped.settings.tripMap.get e).all (·.identity.mappable) = true := by decide +kernel
  have save : mapped.sst.inFlight = none := rfl
  have image : ∀ e, (mapped.sst.image.settings.tripMap.get e).all (·.identity.mappable) = true := by decide +kernel
  have force : ∀ e, (mapped.alt.tripMap.get e).inForce = true → e = 3 := by decide +kernel
  have at3 : mapped.alt.tripMap.get 3 = ⟨some ⟨.cooler .held, .any, .holdChannel 4⟩, true⟩ := by decide +kernel
  have lists : ∀ c, (mapped.chan c).alarmHolds = if c = 4 then [.cooler .held] else [] := by decide +kernel
  refine ⟨fun e r h => ?_, fun e r h => ?_, ?_, fun e h => ?_, fun c id => ?_, ?_, by decide +kernel⟩
  · simpa [show mapped.settings.tripMap.get e = some r from h] using map e
  · simpa [show mapped.sst.image.settings.tripMap.get e = some r from h] using image e
  · intro st h; cases save.symm.trans h
  · obtain rfl := force e h
    exact ⟨_, congrArg TripEntry.rule at3, by decide +kernel⟩
  · show id ∈ (mapped.chan c).alarmHolds ↔ _
    rw [lists]
    constructor
    · intro h
      split at h
      · subst c; simp only [List.mem_singleton] at h
        exact ⟨3, _, congrArg TripEntry.inForce at3, congrArg TripEntry.rule at3, h.symm, rfl⟩
      · cases h
    · rintro ⟨e, r, he, hr, rfl, ha⟩
      obtain rfl := force e he
      have hr' : r = ⟨.cooler .held, .any, .holdChannel 4⟩ :=
        (Option.some.inj ((congrArg TripEntry.rule at3).symm.trans hr)).symm
      subst r; cases ha; simp
  · show ∀ c, (mapped.chan c).alarmHolds.Nodup
    decide +kernel

theorem test_meets_OutputsStayRight : ageing.OutputsAgree :=
  ⟨by decide +kernel, by decide +kernel, by decide +kernel, by decide +kernel⟩

theorem test_meets_LockoutStaysShut : pulsing.acu.Sound := ⟨by decide +kernel, by decide +kernel, by decide +kernel⟩

theorem test_meets_SaveWritesTheSettingsInForce :
    saving.sst.inFlight = some saving.settings ∧ saving.SaveHolds :=
  ⟨by decide +kernel, fun st h => by
    have e : saving.sst.inFlight = some saving.settings := by decide +kernel
    rw [e] at h; exact (Option.some.inj h).symm⟩

theorem test_meets_PanelChangesNoSetting :
    exec (Kind.instr .panel 0#8 [] .emergencyStop) plant = .next (go (.emergencyStop .panel 0#8 []) plant) := rfl

theorem test_meets_EveryTripStopsEveryChannel :
    (plant.chan 1).state ≠ .tripped ∧ (plant.chan 2).state = .off ∧ (plant.chan 3).state = .tripped := by
  decide +kernel

/-- A shift of number 65,535, and one that is followed by shift 2. -/
theorem test_meets_CloseMovesTheOpenRecord :
    ¬ (Tally.opened 65535 none).number < 65535 ∧ up.sht.current.number < 65535 ∧ up.sht.current.clinker = 0
    ∧ up.closeShift.sht.current.number = 2 := by decide +kernel

end Sys2Proof.Tests
end

