-- ==== Sys2Proof/Proofs/FeederTrim.lean ====
section
/-!
Proofs. The end of a trim interval (R100): `TrimIntervalAdapts`.
-/
namespace Sys2Proof.Machine

/-! ### A figure that moves toward an aim -/

theorem moveToward_of_within {step now aim : Nat} (above : aim ≤ now + step) (below : now ≤ aim + step) :
    moveToward step now aim = aim := by
  unfold moveToward
  split
  · exact Nat.max_eq_left (Nat.sub_le_iff_le_add.mpr below)
  · exact Nat.min_eq_left above

theorem moveToward_of_far_above {step now aim : Nat} (far : now + step < aim) :
    moveToward step now aim = now + step := by
  have rises : ¬ aim < now := by omega
  rw [moveToward, if_neg rises]
  exact Nat.min_eq_right far.le

theorem moveToward_of_far_below {step now aim : Nat} (far : aim + step < now) :
    moveToward step now aim = now - step := by
  have falls : aim < now := by omega
  rw [moveToward, if_pos falls]
  exact Nat.max_eq_right (Nat.le_sub_of_add_le far.le)

/-- The three cases of R100's move: the aim itself where it lies within a step, a whole step otherwise. -/
theorem moveToward_eq (step now aim : Nat) :
    moveToward step now aim =
      if aim ≤ now + step ∧ now ≤ aim + step then aim
      else if now < aim then now + step else now - step := by
  split
  next within => exact moveToward_of_within within.1 within.2
  next outside =>
    split
    next above => exact moveToward_of_far_above (by omega)
    next notAbove => exact moveToward_of_far_below (by omega)

/-! ### The interval's end -/

theorem adaptedTrim_eq (trim e m : Nat) :
    adaptedTrim trim e m =
      if 50 ≤ e ∧ 0 < m then
        max 800 (min 1250
          (if trim * e / m ≤ trim + 20 ∧ trim ≤ trim * e / m + 20 then trim * e / m
           else if trim < trim * e / m then trim + 20 else trim - 20))
      else trim := by
  rw [← moveToward_eq 20 trim (trim * e / m)]
  rfl

theorem exec_trimIntervalExpiry_running (c : Chan) {s : State} (running : s.phase = .running) :
    exec (.trimIntervalExpiry c) s = finish (s.setFeeder c (s.feeder c).intervalEnds) :=
  congrArg finish (State.whileRunning_running running (State.trimInterval c))

/-- Settles O24: a running part lets the interval's end through, and `adaptedTrim_eq` gives its trim. -/
theorem trimIntervalAdapts : Obligations.TrimIntervalAdapts := by
  intro c s running
  rw [exec_trimIntervalExpiry_running c running, FeederBlock.intervalEnds, adaptedTrim_eq]
  rfl

end Sys2Proof.Machine
end

section
/-!
Proofs. Which qualities make a point usable (R104): `UsableQualities`.
-/
namespace Sys2Proof.Machine

theorem Quality.usable_eq_true_iff (q : Quality) : q.usable = true ↔ q = .good ∨ q = .uncertain := by
  cases q with
  | good | uncertain | bad | stale => decide

theorem Quality.usable_eq_false_iff (q : Quality) : q.usable = false ↔ q = .bad ∨ q = .stale := by
  cases q with
  | good | uncertain | bad | stale => decide

/-- Settles O8: a record's quality is one of the four of Table 1.2, and each is decided by itself. -/
theorem usableQualities : Obligations.UsableQualities :=
  fun r => ⟨r.quality.usable_eq_true_iff, r.quality.usable_eq_false_iff⟩

end Sys2Proof.Machine
end

section
/-!
Proofs. The frame check and the frames it closes (R180): `FrameCheckIsComputed`.
-/
namespace Sys2Proof.Machine

/-! ### The check over bytes -/

@[simp] theorem crc16_nil : crc16 [] = 0xFFFF#16 := rfl

/-- R180's step for one bit, with the bit shifted out named by its place in the register. -/
theorem crcBit_eq (reg : BitVec 16) (bit : Bool) :
    crcBit reg bit = if reg.getLsbD 15 = bit then reg <<< 1 else (reg <<< 1) ^^^ 0x1021#16 := by
  have top : reg.msb = reg.getLsbD 15 := reg.msb_eq_getLsbD_last
  simp [crcBit, top]

theorem crcByte_eq (reg : BitVec 16) (b : Byte) :
    crcByte reg b = [7, 6, 5, 4, 3, 2, 1, 0].foldl (fun (r : BitVec 16) n =>
      if r.getLsbD 15 = b.getLsbD n then r <<< 1 else (r <<< 1) ^^^ 0x1021#16) reg := by
  simp only [crcByte, crcBit_eq]

/-- The check goes on from the register that the bytes before have left. -/
theorem crc16_concat (bytes : List Byte) (b : Byte) :
    crc16 (bytes ++ [b]) = crcByte (crc16 bytes) b :=
  List.foldl_concat crcByte _ b bytes

/-- R180's check value: the nine bytes are the digits 1 to 9. -/
theorem crc16_digits :
    crc16 [0x31#8, 0x32#8, 0x33#8, 0x34#8, 0x35#8, 0x36#8, 0x37#8, 0x38#8, 0x39#8] = 0x29B1#16 := by
  decide +kernel

/-! ### The two closing bytes -/

/-- Two bytes close a frame over `bytes` exactly where, most significant first, they are its check. -/
theorem eq_crcTail_iff (a b : Byte) (bytes : List Byte) :
    [a, b] = crcTail bytes ↔ a ++ b = crc16 bytes := by
  rw [crcTail, List.cons.injEq, List.cons.injEq]
  constructor
  · rintro ⟨rfl, rfl, -⟩
    calc (crc16 bytes).extractLsb' 8 8 ++ (crc16 bytes).extractLsb' 0 8
        = (crc16 bytes).extractLsb' 0 16 :=
          BitVec.extractLsb'_append_extractLsb'_eq_extractLsb' (start₁ := 0) (len₁ := 8) rfl
      _ = crc16 bytes := BitVec.extractLsb'_eq_self
  · intro check
    rw [← check]
    exact ⟨BitVec.extractLsb'_append_eq_left.symm, BitVec.extractLsb'_append_eq_right.symm, rfl⟩

/-! ### The frames -/

/-- A frame of the length's worth is checked where its last two bytes match, and failed otherwise (R180, R181). -/
theorem readFrame_fields {len : Byte} (kind seq : Byte) {fields : List Byte} (a b : Byte)
    (long : fields.length + 4 = len.toNat) (least : 4 ≤ len.toNat) (most : len.toNat ≤ 250) :
    readFrame len (kind :: seq :: fields ++ [a, b]) =
      if [a, b] = crcTail (len :: kind :: seq :: fields) then .checked kind seq fields else .failed := by
  have inner : len.toNat - 2 = (kind :: seq :: fields).length := by simp; omega
  have total : (kind :: seq :: fields ++ [a, b]).length = len.toNat := by simp; omega
  rw [readFrame, inner, List.take_left, List.drop_left]
  simp only [total, Config.frameLenMin, Config.frameLenMax, least, most, true_and]

theorem readFrame_eq_checked_iff {len : Byte} (kind seq : Byte) {fields : List Byte} (a b : Byte)
    (long : fields.length + 4 = len.toNat) (least : 4 ≤ len.toNat) (most : len.toNat ≤ 250) :
    readFrame len (kind :: seq :: fields ++ [a, b]) = .checked kind seq fields
      ↔ a ++ b = crc16 (len :: kind :: seq :: fields) := by
  rw [readFrame_fields kind seq a b long least most, ← eq_crcTail_iff]
  split
  next closes => exact iff_of_true rfl closes
  next opens => exact iff_of_false nofun opens

/-- A response is the sync byte and the bytes its check is over, closed by that check. -/
theorem Response.frame_eq (r : Response) :
    ∃ body, r.frame = 0x5A#8 :: body ++ crcTail body :=
  ⟨_, rfl⟩

/-- Settles O44: the check is followed bit by bit and byte by byte, and `eq_crcTail_iff` reads it back from
the two bytes that close a frame. -/
theorem frameCheckIsComputed : Obligations.FrameCheckIsComputed := by
  refine ⟨crc16_nil, fun bytes b => ?nextByte, crc16_digits, ?received, Response.frame_eq⟩
  case nextByte => rw [crc16_concat, crcByte_eq]
  case received => exact fun _ kind seq _ a b => readFrame_eq_checked_iff kind seq a b

end Sys2Proof.Machine
end

section
/-!
Proofs. What each operation of the blocks leaves as it was.  `Aspect` names the parts of the state that the invariants
speak of, `Touches l s t` says that the states differ in the aspects of `l` alone, and every shared operation has one
such lemma.
-/
set_option Elab.async false

namespace Sys2Proof.Machine

/-- The parts of the state that the invariants read. -/
inductive Aspect where
  | queue | phase | line | points | lots | link
  | fuels | staged | runs | offs | losses | alarmHolds | masses
  | demands | flows | feeders | cooler
  | alarms | pointAlarms | rules
  | shift | tallies | clock
  | access | store | settings
deriving DecidableEq

/-- Two states agree in an aspect. -/
def Aspect.same : Aspect → State → State → Prop
  | .queue, s, t => t.pending = s.pending ∧ t.moment = s.moment
  | .phase, s, t => t.phase = s.phase
  | .line, s, t => t.tripLine = s.tripLine
  | .points, s, t => t.ptb = s.ptb
  | .lots, s, t => t.lrg = s.lrg
  | .link, s, t => t.chc.supervision = s.chc.supervision
  | .fuels, s, t => ∀ c, (t.chan c).config = (s.chan c).config
  | .staged, s, t => ∀ c, (t.chan c).stagedLimits = (s.chan c).stagedLimits
      ∧ (t.chan c).stagedCalibration = (s.chan c).stagedCalibration
  | .runs, s, t => ∀ c, (t.chan c).state = (s.chan c).state ∧ (t.chan c).tripCause = (s.chan c).tripCause
  | .offs, s, t => ∀ c, (t.chan c).state = .off ↔ (s.chan c).state = .off
  | .losses, s, t => ∀ c, (t.chan c).holds.controlLost = (s.chan c).holds.controlLost
  | .alarmHolds, s, t => ∀ c, (t.chan c).alarmHolds = (s.chan c).alarmHolds
      ∧ (t.chan c).holds.alarm = (s.chan c).holds.alarm
  | .masses, s, t => ∀ c, (t.chan c).fed = (s.chan c).fed ∧ (t.chan c).debited = (s.chan c).debited
      ∧ (t.chan c).unassigned = (s.chan c).unassigned
  | .demands, s, t => t.fsc.demandMain = s.fsc.demandMain ∧ t.fsc.demandCalc = s.fsc.demandCalc
  | .flows, s, t => t.fsc.target = s.fsc.target ∧ t.fsc.setpoint = s.fsc.setpoint
  | .feeders, s, t => t.fdi = s.fdi
  | .cooler, s, t => t.clc = s.clc
  | .alarms, s, t => t.alt = s.alt
  | .pointAlarms, s, t => ∀ p k, t.alt.isPresent (.point p k) = s.alt.isPresent (.point p k)
  | .rules, s, t => ∀ e, (t.alt.tripMap.get e).rule = (s.alt.tripMap.get e).rule
  | .shift, s, t => t.sht = s.sht
  | .tallies, s, t => t.sht.held = s.sht.held ∧ t.sht.current.overrun = s.sht.current.overrun
      ∧ t.sht.current.lots = s.sht.current.lots ∧ t.sht.current.otherKg = s.sht.current.otherKg
      ∧ t.sht.current.unassigned = s.sht.current.unassigned
      ∧ ∀ c, (t.sht.current.channels.get c).fed = (s.sht.current.channels.get c).fed
  | .clock, s, t => t.sht.clock = s.sht.clock
  | .access, s, t => t.acu = s.acu
  | .store, s, t => t.sst = s.sst
  | .settings, s, t => t.settings = s.settings

/-- The two states differ in the aspects of `l` alone. -/
structure Touches (l : List Aspect) (s t : State) : Prop where
  same : ∀ a, a ∉ l → a.same s t

theorem State.settings_congr {s t : State} (points : ∀ p, (t.point p).config = (s.point p).config)
    (channels : ∀ c, (t.chan c).config = (s.chan c).config)
    (supervision : t.chc.supervision.supervisionTime = s.chc.supervision.supervisionTime)
    (hold : t.chc.supervision.holdTime = s.chc.supervision.holdTime) (firing : t.fsc.config = s.fsc.config)
    (compartments : ∀ k, (t.clc.compartments.get k).config = (s.clc.compartments.get k).config)
    (cooler : t.clc.config = s.clc.config) (rules : ∀ e, (t.alt.tripMap.get e).rule = (s.alt.tripMap.get e).rule)
    (plan : t.sht.plan = s.sht.plan) (word : t.acu.word = s.acu.word) : t.settings = s.settings := by
  simp only [State.settings, points, channels, supervision, hold, firing, compartments, cooler, rules, plan, word]

namespace Touches

variable {l m : List Aspect} {s t u : State}

theorem refl (l : List Aspect) (s : State) : Touches l s s := ⟨fun a _ => by
  cases a <;> simp [Aspect.same]⟩

theorem trans (a : Touches l s t) (b : Touches l t u) : Touches l s u := ⟨fun x hx => by
  have ha := a.same x hx
  have hb := b.same x hx
  cases x with
  | queue | fuels | staged | runs | losses | alarmHolds | masses | pointAlarms | rules | demands | flows | tallies =>
    simp_all [Aspect.same]
  | offs => exact fun c => (hb c).trans (ha c)
  | _ => exact Eq.trans hb ha⟩

theorem mono (a : Touches l s t) (sub : l ⊆ m := by exact of_decide_eq_true rfl) : Touches m s t := ⟨fun x hx => a.same x fun h => hx (sub h)⟩

/-- Steps that each touch no more than `l`, folded over a list. -/
theorem foldl {α : Type} {f : State → α → State} (h : ∀ s a, Touches l s (f s a)) (as : List α) (s : State) :
    Touches l s (as.foldl f s) := by
  induction as generalizing s with
  | nil => exact refl l s
  | cons a as ih => exact (h s a).trans (ih _)

/-- Each aspect is in the list, or the states agree in it; left out where the agreement is by definition or the
list is given. -/
theorem of
    (queue : .queue ∈ l ∨ (t.pending = s.pending ∧ t.moment = s.moment) := by
      first | exact .inl (of_decide_eq_true rfl) | exact .inr ⟨rfl, rfl⟩)
    (phase : .phase ∈ l ∨ t.phase = s.phase := by first | exact .inl (of_decide_eq_true rfl) | exact .inr rfl)
    (line : .line ∈ l ∨ t.tripLine = s.tripLine := by first | exact .inl (of_decide_eq_true rfl) | exact .inr rfl)
    (points : .points ∈ l ∨ t.ptb = s.ptb := by first | exact .inl (of_decide_eq_true rfl) | exact .inr rfl)
    (lots : .lots ∈ l ∨ t.lrg = s.lrg := by first | exact .inl (of_decide_eq_true rfl) | exact .inr rfl)
    (link : .link ∈ l ∨ t.chc.supervision = s.chc.supervision := by
      first | exact .inl (of_decide_eq_true rfl) | exact .inr rfl)
    (fuels : .fuels ∈ l ∨ Aspect.fuels.same s t := by
      first | exact .inl (of_decide_eq_true rfl) | exact .inr fun _ => rfl)
    (staged : .staged ∈ l ∨ Aspect.staged.same s t := by
      first | exact .inl (of_decide_eq_true rfl) | exact .inr fun _ => ⟨rfl, rfl⟩)
    (runs : .runs ∈ l ∨ Aspect.runs.same s t := by
      first | exact .inl (of_decide_eq_true rfl) | exact .inr fun _ => ⟨rfl, rfl⟩)
    (offs : .offs ∈ l ∨ Aspect.offs.same s t := by
      first | exact .inl (of_decide_eq_true rfl) | exact .inr fun _ => Iff.rfl)
    (losses : .losses ∈ l ∨ Aspect.losses.same s t := by
      first | exact .inl (of_decide_eq_true rfl) | exact .inr fun _ => rfl)
    (alarmHolds : .alarmHolds ∈ l ∨ Aspect.alarmHolds.same s t := by
      first | exact .inl (of_decide_eq_true rfl) | exact .inr fun _ => ⟨rfl, rfl⟩)
    (masses : .masses ∈ l ∨ Aspect.masses.same s t := by
      first | exact .inl (of_decide_eq_true rfl) | exact .inr fun _ => ⟨rfl, rfl, rfl⟩)
    (demands : .demands ∈ l ∨ Aspect.demands.same s t := by
      first | exact .inl (of_decide_eq_true rfl) | exact .inr ⟨rfl, rfl⟩)
    (flows : .flows ∈ l ∨ Aspect.flows.same s t := by
      first | exact .inl (of_decide_eq_true rfl) | exact .inr ⟨rfl, rfl⟩)
    (feeders : .feeders ∈ l ∨ t.fdi = s.fdi := by first | exact .inl (of_decide_eq_true rfl) | exact .inr rfl)
    (cooler : .cooler ∈ l ∨ t.clc = s.clc := by first | exact .inl (of_decide_eq_true rfl) | exact .inr rfl)
    (alarms : .alarms ∈ l ∨ t.alt = s.alt := by first | exact .inl (of_decide_eq_true rfl) | exact .inr rfl)
    (pointAlarms : .pointAlarms ∈ l ∨ Aspect.pointAlarms.same s t := by
      first | exact .inl (of_decide_eq_true rfl) | exact .inr fun _ _ => rfl)
    (rules : .rules ∈ l ∨ Aspect.rules.same s t := by
      first | exact .inl (of_decide_eq_true rfl) | exact .inr fun _ => rfl)
    (shift : .shift ∈ l ∨ t.sht = s.sht := by first | exact .inl (of_decide_eq_true rfl) | exact .inr rfl)
    (tallies : .tallies ∈ l ∨ Aspect.tallies.same s t := by
      first | exact .inl (of_decide_eq_true rfl) | exact .inr ⟨rfl, rfl, rfl, rfl, rfl, fun _ => rfl⟩)
    (clock : .clock ∈ l ∨ t.sht.clock = s.sht.clock := by first | exact .inl (of_decide_eq_true rfl) | exact .inr rfl)
    (access : .access ∈ l ∨ t.acu = s.acu := by first | exact .inl (of_decide_eq_true rfl) | exact .inr rfl)
    (store : .store ∈ l ∨ t.sst = s.sst := by first | exact .inl (of_decide_eq_true rfl) | exact .inr rfl)
    (settings : .settings ∈ l ∨ t.settings = s.settings := by
      first
      | exact .inl (of_decide_eq_true rfl)
      | exact .inr (State.settings_congr (fun _ => rfl) (fun _ => rfl) rfl rfl rfl (fun _ => rfl) rfl (fun _ => rfl)
          rfl rfl)) : Touches l s t := ⟨fun a ha => by
  cases a <;> exact Or.resolve_left ‹_› ha⟩

/-! ### One aspect read off -/

theorem queue (h : Touches l s t) (out : .queue ∉ l := by exact of_decide_eq_true rfl) :
    t.pending = s.pending ∧ t.moment = s.moment := h.same .queue out
theorem phase (h : Touches l s t) (out : .phase ∉ l := by exact of_decide_eq_true rfl) :
    t.phase = s.phase := h.same .phase out
theorem line (h : Touches l s t) (out : .line ∉ l := by exact of_decide_eq_true rfl) :
    t.tripLine = s.tripLine := h.same .line out
theorem points (h : Touches l s t) (out : .points ∉ l := by exact of_decide_eq_true rfl) :
    t.ptb = s.ptb := h.same .points out
theorem lots (h : Touches l s t) (out : .lots ∉ l := by exact of_decide_eq_true rfl) :
    t.lrg = s.lrg := h.same .lots out
theorem link (h : Touches l s t) (out : .link ∉ l := by exact of_decide_eq_true rfl) :
    t.chc.supervision = s.chc.supervision := h.same .link out
theorem fuels (h : Touches l s t) (out : .fuels ∉ l := by exact of_decide_eq_true rfl) :
    ∀ c, (t.chan c).config = (s.chan c).config := h.same .fuels out
theorem staged (h : Touches l s t) (out : .staged ∉ l := by exact of_decide_eq_true rfl) :
    ∀ c, (t.chan c).stagedLimits = (s.chan c).stagedLimits
      ∧ (t.chan c).stagedCalibration = (s.chan c).stagedCalibration := h.same .staged out
theorem runs (h : Touches l s t) (out : .runs ∉ l := by exact of_decide_eq_true rfl) :
    ∀ c, (t.chan c).state = (s.chan c).state ∧ (t.chan c).tripCause = (s.chan c).tripCause := h.same .runs out
theorem offs (h : Touches l s t) (out : .offs ∉ l := by exact of_decide_eq_true rfl) :
    ∀ c, (t.chan c).state = .off ↔ (s.chan c).state = .off := h.same .offs out
theorem losses (h : Touches l s t) (out : .losses ∉ l := by exact of_decide_eq_true rfl) :
    ∀ c, (t.chan c).holds.controlLost = (s.chan c).holds.controlLost := h.same .losses out
theorem alarmHolds (h : Touches l s t) (out : .alarmHolds ∉ l := by exact of_decide_eq_true rfl) :
    ∀ c, (t.chan c).alarmHolds = (s.chan c).alarmHolds
      ∧ (t.chan c).holds.alarm = (s.chan c).holds.alarm := h.same .alarmHolds out
theorem masses (h : Touches l s t) (out : .masses ∉ l := by exact of_decide_eq_true rfl) :
    ∀ c, (t.chan c).fed = (s.chan c).fed ∧ (t.chan c).debited = (s.chan c).debited
      ∧ (t.chan c).unassigned = (s.chan c).unassigned := h.same .masses out
theorem demands (h : Touches l s t) (out : .demands ∉ l := by exact of_decide_eq_true rfl) :
    t.fsc.demandMain = s.fsc.demandMain ∧ t.fsc.demandCalc = s.fsc.demandCalc := h.same .demands out
theorem flows (h : Touches l s t) (out : .flows ∉ l := by exact of_decide_eq_true rfl) :
    t.fsc.target = s.fsc.target ∧ t.fsc.setpoint = s.fsc.setpoint := h.same .flows out
theorem feeders (h : Touches l s t) (out : .feeders ∉ l := by exact of_decide_eq_true rfl) :
    t.fdi = s.fdi := h.same .feeders out
theorem cooler (h : Touches l s t) (out : .cooler ∉ l := by exact of_decide_eq_true rfl) :
    t.clc = s.clc := h.same .cooler out
theorem alarms (h : Touches l s t) (out : .alarms ∉ l := by exact of_decide_eq_true rfl) :
    t.alt = s.alt := h.same .alarms out
theorem pointAlarms (h : Touches l s t) (out : .pointAlarms ∉ l := by exact of_decide_eq_true rfl) :
    ∀ p k, t.alt.isPresent (.point p k) = s.alt.isPresent (.point p k) := h.same .pointAlarms out
theorem rules (h : Touches l s t) (out : .rules ∉ l := by exact of_decide_eq_true rfl) :
    ∀ e, (t.alt.tripMap.get e).rule = (s.alt.tripMap.get e).rule := h.same .rules out
theorem shift (h : Touches l s t) (out : .shift ∉ l := by exact of_decide_eq_true rfl) :
    t.sht = s.sht := h.same .shift out
theorem tallies (h : Touches l s t) (out : .tallies ∉ l := by exact of_decide_eq_true rfl) :
    Aspect.tallies.same s t := h.same .tallies out
theorem clock (h : Touches l s t) (out : .clock ∉ l := by exact of_decide_eq_true rfl) :
    t.sht.clock = s.sht.clock := h.same .clock out
theorem access (h : Touches l s t) (out : .access ∉ l := by exact of_decide_eq_true rfl) :
    t.acu = s.acu := h.same .access out
theorem store (h : Touches l s t) (out : .store ∉ l := by exact of_decide_eq_true rfl) :
    t.sst = s.sst := h.same .store out
theorem settings (h : Touches l s t) (out : .settings ∉ l := by exact of_decide_eq_true rfl) :
    t.settings = s.settings := h.same .settings out

end Touches

end Sys2Proof.Machine
end

section
/-!
Proofs. What a report does to the condition list and leaves of the slots: the trip map's actions change neither, and
every condition but the one reported and SYSTEM/TABLE_FULL stays present or absent.
-/
set_option Elab.async false

namespace Sys2Proof.Machine

/-! ### The condition list -/

/-- The source order lists each identity at its rank (R125). -/
theorem Identity.all_rank (i : Identity) : Identity.all[i.rank.val]? = some i := by
  cases i with
  | point p k => cases k <;> revert p <;> decide +kernel
  | channel c k => cases k <;> revert c <;> decide +kernel
  | firing k => cases k <;> decide +kernel
  | cooler k => cases k <;> decide +kernel
  | system k => cases k <;> decide +kernel

theorem Identity.rank_injective : Function.Injective Identity.rank := fun i j h => by
  have : some i = some j := by rw [← i.all_rank, ← j.all_rank, h]
  simpa using this

theorem Identity.mem_all (i : Identity) : i ∈ Identity.all := List.mem_of_getElem? i.all_rank

theorem AlarmTable.setCondition_condition (a : AlarmTable) (i j : Identity) (k : Option Condition) :
    (a.setCondition i k).condition j = if j = i then k else a.condition j := by
  simp only [AlarmTable.condition, AlarmTable.setCondition, Tbl.get_put, Identity.rank_injective.eq_iff]

@[simp] theorem AlarmTable.setCondition_condition_self (a : AlarmTable) (i : Identity) (k : Option Condition) :
    (a.setCondition i k).condition i = k := by simp [setCondition_condition]

theorem AlarmTable.setCondition_condition_ne {i j : Identity} (h : j ≠ i) (a : AlarmTable) (k : Option Condition) :
    (a.setCondition i k).condition j = a.condition j := by simp [setCondition_condition, h]

@[simp] theorem AlarmTable.setCondition_record (a : AlarmTable) (i : Identity) (k : Option Condition) (n : SlotNo) :
    (a.setCondition i k).record n = a.record n := rfl
@[simp] theorem AlarmTable.setCondition_slotOf (a : AlarmTable) (i j : Identity) (k : Option Condition) :
    (a.setCondition i k).slotOf j = a.slotOf j := rfl
@[simp] theorem AlarmTable.setCondition_slots (a : AlarmTable) (i : Identity) (k : Option Condition) :
    (a.setCondition i k).slots = a.slots := rfl
@[simp] theorem AlarmTable.setCondition_tripMap (a : AlarmTable) (i : Identity) (k : Option Condition) :
    (a.setCondition i k).tripMap = a.tripMap := rfl
@[simp] theorem AlarmTable.occupy_condition (a : AlarmTable) (n : SlotNo) (r : AlarmRecord) (j : Identity) :
    (a.occupy n r).condition j = a.condition j := rfl
@[simp] theorem AlarmTable.rewrite_condition (a : AlarmTable) (n : SlotNo) (r : AlarmRecord) (j : Identity) :
    (a.rewrite n r).condition j = a.condition j := rfl
@[simp] theorem AlarmTable.stubbed_condition (a : AlarmTable) (n : SlotNo) (j : Identity) :
    (a.stubbed n).condition j = a.condition j := rfl
@[simp] theorem AlarmTable.settled_condition (a : AlarmTable) (j : Identity) :
    a.settled.condition j = a.condition j := rfl
@[simp] theorem AlarmTable.occupy_conditions (a : AlarmTable) (n : SlotNo) (r : AlarmRecord) :
    (a.occupy n r).conditions = a.conditions := rfl
@[simp] theorem AlarmTable.rewrite_conditions (a : AlarmTable) (n : SlotNo) (r : AlarmRecord) :
    (a.rewrite n r).conditions = a.conditions := rfl
@[simp] theorem AlarmTable.stubbed_conditions (a : AlarmTable) (n : SlotNo) :
    (a.stubbed n).conditions = a.conditions := rfl
@[simp] theorem AlarmTable.occupy_tripMap (a : AlarmTable) (n : SlotNo) (r : AlarmRecord) :
    (a.occupy n r).tripMap = a.tripMap := rfl
@[simp] theorem AlarmTable.rewrite_tripMap (a : AlarmTable) (n : SlotNo) (r : AlarmRecord) :
    (a.rewrite n r).tripMap = a.tripMap := rfl
@[simp] theorem AlarmTable.stubbed_tripMap (a : AlarmTable) (n : SlotNo) : (a.stubbed n).tripMap = a.tripMap := rfl
@[simp] theorem AlarmTable.settled_tripMap (a : AlarmTable) : a.settled.tripMap = a.tripMap := rfl
@[simp] theorem AlarmTable.settled_slots (a : AlarmTable) : a.settled.slots = a.slots := rfl
@[simp] theorem AlarmTable.settled_record (a : AlarmTable) (n : SlotNo) : a.settled.record n = a.record n := rfl

/-! ### What the trip map's actions leave of the table -/

@[simp] theorem State.freeze_alt (c : Chan) (s : State) : (s.freeze c).alt = s.alt := by
  unfold State.freeze; split <;> rfl

@[simp] theorem State.resume_alt (c : Chan) (s : State) : (s.resume c).alt = s.alt := by
  unfold State.resume State.enterRunning
  split
  · split <;> rfl
  · rfl

@[simp] theorem State.tripTaken_alt (c : Chan) (x : TripCause) (s : State) : (s.tripTaken c x).alt = s.alt := rfl

@[simp] theorem State.trip_alt (c : Chan) (x : TripCause) (s : State) : (s.trip c x).alt = s.alt := by
  unfold State.trip; split <;> rfl

@[simp] theorem State.holdAction_alt (c : Chan) (id : Identity) (s : State) : (s.holdAction c id).alt = s.alt := by
  simp [State.holdAction]

@[simp] theorem State.holdRelease_alt (c : Chan) (id : Identity) (s : State) : (s.holdRelease c id).alt = s.alt := by
  unfold State.holdRelease
  simp only
  split
  · simp
  · rfl

/-- A projection that each of a list of steps keeps is kept by all of them. -/
theorem foldl_keeps {σ α β : Type} {f : σ → α → σ} (view : σ → β) (h : ∀ s a, view (f s a) = view s) (l : List α)
    (s : σ) : view (l.foldl f s) = view s := by
  induction l generalizing s with
  | nil => rfl
  | cons a l ih => exact (ih _).trans (h s a)

/-- A condition that each of a list of steps keeps is kept by all of them. -/
theorem foldl_holds {σ α : Type} {f : σ → α → σ} {P : σ → Prop} (h : ∀ s a, P s → P (f s a)) (l : List α) {s : σ}
    (hs : P s) : P (l.foldl f s) := by
  induction l generalizing s with
  | nil => exact hs
  | cons a l ih => exact ih (h s a hs)

@[simp] theorem State.tripAction_alt (r : TripRule) (s : State) : (s.tripAction r).alt = s.alt := by
  unfold State.tripAction
  split
  · simp
  · simp
  · exact foldl_keeps State.alt (fun s c => by split <;> simp) _ s
  · exact foldl_keeps State.alt (fun s c => by simp) _ s

/-- What the trip map cannot change: the conditions, the slots, the notice and the outputs. -/
def AlarmTable.offMap (a : AlarmTable) :
    Tbl (Option Condition) 173 × Tbl AlarmSlot 65 × Bool × Bool × Bool :=
  (a.conditions, a.slots, a.reportWaiting, a.horn, a.attention)

theorem State.setInForce_offMap (e : EntryNo) (b : Bool) (s : State) :
    (s.setInForce e b).alt.offMap = s.alt.offMap := rfl

theorem State.entryIntoForce_offMap (e : EntryNo) (s : State) :
    (s.entryIntoForce e).alt.offMap = s.alt.offMap := by
  unfold State.entryIntoForce
  split
  · rfl
  · split
    · rw [tripAction_alt, setInForce_offMap]
    · rfl

theorem State.intoForce_offMap (id : Identity) (s : State) : (s.intoForce id).alt.offMap = s.alt.offMap :=
  foldl_keeps (fun s => s.alt.offMap) (fun s e => by
    split
    · exact entryIntoForce_offMap e s
    · rfl) _ s

theorem State.entryOutOfForce_offMap (e : EntryNo) (s : State) :
    (s.entryOutOfForce e).alt.offMap = s.alt.offMap := by
  unfold State.entryOutOfForce
  split
  · rw [holdRelease_alt, setInForce_offMap]
  · rfl
  · rfl

theorem State.outOfForce_offMap (id : Identity) (s : State) : (s.outOfForce id).alt.offMap = s.alt.offMap :=
  foldl_keeps (fun s => s.alt.offMap) (fun s e => by
    split
    · exact entryOutOfForce_offMap e s
    · rfl) _ s

section offMap
variable {a b : AlarmTable} (h : a.offMap = b.offMap)
include h

theorem AlarmTable.conditions_of_offMap : a.conditions = b.conditions := congrArg (·.1) h
theorem AlarmTable.slots_of_offMap : a.slots = b.slots := congrArg (·.2.1) h
theorem AlarmTable.waiting_of_offMap : a.reportWaiting = b.reportWaiting := congrArg (·.2.2.1) h

theorem AlarmTable.condition_of_offMap (j : Identity) : a.condition j = b.condition j := by
  simp only [condition, conditions_of_offMap h]

theorem AlarmTable.record_of_offMap (n : SlotNo) : a.record n = b.record n := by
  simp only [record, slots_of_offMap h]

end offMap

/-! ### Which conditions a report leaves present -/

/-- Every identity but `id` and SYSTEM/TABLE_FULL is present in the one list where it is in the other. -/
def AlarmTable.OthersStand (id : Identity) (a b : AlarmTable) : Prop :=
  ∀ j, j ≠ id → j ≠ .system .tableFull → b.isPresent j = a.isPresent j

namespace AlarmTable.OthersStand

variable {id : Identity} {a b c : AlarmTable}

theorem of_conditions (h : b.conditions = a.conditions) : OthersStand id a b := fun j _ _ => by
  simp only [isPresent, condition, h]

theorem of_offMap (h : b.offMap = a.offMap) : OthersStand id a b := of_conditions (conditions_of_offMap h)

theorem settled (a : AlarmTable) : OthersStand id a a.settled := of_conditions rfl

theorem trans (h : OthersStand id a b) (h' : OthersStand id b c) : OthersStand id a c :=
  fun j ne full => (h' j ne full).trans (h j ne full)

theorem setCondition (a : AlarmTable) (k : Option Condition) : OthersStand id a (a.setCondition id k) :=
  fun j ne _ => by simp only [isPresent, setCondition_condition_ne ne]

theorem setTableFull (a : AlarmTable) (k : Option Condition) :
    OthersStand id a (a.setCondition (.system .tableFull) k) :=
  fun j _ full => by simp only [isPresent, setCondition_condition_ne full]

theorem tableFullComes (s : State) : OthersStand id s.alt s.tableFullComes.alt := by
  unfold State.tableFullComes
  simp only
  split
  · exact setTableFull _ _
  · exact setTableFull _ _
  · exact of_conditions rfl
  · exact of_conditions rfl

theorem tableFullCheck (s : State) : OthersStand id s.alt s.tableFullCheck.alt := by
  unfold State.tableFullCheck State.tableFullGoes
  split
  · simp only
    split
    · exact setTableFull _ _
    · split <;> exact setTableFull _ _
  · exact of_conditions rfl

/-- A promotion leaves every identity as present as it was: it clears a pending mark. -/
theorem promote (n : SlotNo) (s : State) : OthersStand id s.alt (s.promote n).alt := by
  unfold State.promote
  split
  · exact of_conditions rfl
  · split
    · exact of_conditions rfl
    · rename_i first _ _ _ k found
      refine trans ?_ (tableFullCheck _)
      intro j _ _
      by_cases e : j = first
      · subst e; simp [isPresent, found]
      · simp [isPresent, setCondition_condition_ne e]

theorem retire (n : SlotNo) (s : State) : OthersStand id s.alt (s.retire n).alt := by
  unfold State.retire
  split
  · exact of_conditions rfl
  · exact trans (b := (s.alt.stubbed n)) (of_conditions rfl) (promote n _)

theorem comesOnRecords (k : Condition) (s : State) : OthersStand id s.alt (s.comesOnRecords id k).alt := by
  unfold State.comesOnRecords
  split
  · split
    · exact setCondition _ _
    · exact of_conditions rfl
  · split
    · exact setCondition _ _
    · exact trans (setCondition _ _) (tableFullComes _)

theorem comesAfresh (l : Option Level) (p : Priority) (s : State) :
    OthersStand id s.alt (s.comesAfresh id l p).alt := by
  rw [State.comesAfresh, State.settle_alt, State.cameNotice_alt]
  exact ((comesOnRecords _ s).trans (of_offMap (State.intoForce_offMap id _))).trans (settled _)

theorem levelOfPresent (k : Condition) (l : Option Level) (p : Priority) (s : State) :
    OthersStand id s.alt (s.levelOfPresent id k l p).alt := by
  unfold State.levelOfPresent
  simp only
  rw [State.settle_alt]
  refine trans (trans ?_ (of_offMap (State.intoForce_offMap id _))) (settled _)
  split
  · exact setCondition _ _
  · split <;> exact setCondition _ _

theorem comes (l : Option Level) (p : Priority) (s : State) : OthersStand id s.alt (s.comes id l p).alt := by
  unfold State.comes
  split
  · exact comesAfresh l p s
  · split
    · exact levelOfPresent _ l p s
    · exact setCondition _ _

theorem levelChanges (l : Option Level) (p : Priority) (s : State) :
    OthersStand id s.alt (s.levelChanges id l p).alt := by
  unfold State.levelChanges
  split
  · exact comesAfresh l p s
  · exact levelOfPresent _ l p s

theorem goesOnRecords (k : Condition) (s : State) : OthersStand id s.alt (s.goesOnRecords id k).alt := by
  unfold State.goesOnRecords
  simp only
  have gone : OthersStand id s.alt (s.setAlt (s.alt.setCondition id none)).alt := setCondition _ _
  split
  · exact trans gone (tableFullCheck _)
  · split
    · exact gone
    · split
      · exact gone
      · split
        · exact trans gone (retire _ _)
        · exact gone

theorem goes (s : State) : OthersStand id s.alt (s.goes id).alt := by
  unfold State.goes
  split
  · exact of_conditions rfl
  · rw [State.settle_alt]
    exact ((goesOnRecords _ s).trans (of_offMap (State.outOfForce_offMap id _))).trans (settled _)

end AlarmTable.OthersStand

end Sys2Proof.Machine
end

section
/-!
Proofs. What the operations that the blocks share leave as it was, aspect by aspect.
-/
set_option Elab.async false

namespace Sys2Proof.Machine

/-- What a report on an identity outside the point table can touch. -/
abbrev plainReport : List Aspect := [.runs, .alarmHolds, .flows, .feeders, .alarms, .shift]
/-- What any report can touch. -/
abbrev anyReport : List Aspect := .pointAlarms :: plainReport
/-- What a reconciliation of points can touch. -/
abbrev reconciling : List Aspect := .points :: anyReport
/-- What entering or leaving CH_OFF can touch. -/
abbrev leavingOff : List Aspect := .offs :: reconciling
/-- What an operation on the lot registry can touch. -/
abbrev lotAspects : List Aspect := .lots :: plainReport

namespace Touches

variable {l : List Aspect} {s t : State}

/-! ### Single writes -/

/-- A write of a channel's record: each part of it is in the list, or as it was. -/
theorem setChan (c : Chan) (r : ChannelRecord) (s : State)
    (fuels : (.fuels ∈ l ∧ .settings ∈ l) ∨ r.config = (s.chan c).config := by
      first | exact .inl (of_decide_eq_true rfl) | exact .inr rfl)
    (staged : .staged ∈ l ∨ (r.stagedLimits = (s.chan c).stagedLimits
        ∧ r.stagedCalibration = (s.chan c).stagedCalibration) := by
      first | exact .inl (of_decide_eq_true rfl) | exact .inr ⟨rfl, rfl⟩)
    (runs : .runs ∈ l ∨ (r.state = (s.chan c).state ∧ r.tripCause = (s.chan c).tripCause) := by
      first | exact .inl (of_decide_eq_true rfl) | exact .inr ⟨rfl, rfl⟩)
    (offs : .offs ∈ l ∨ (r.state = .off ↔ (s.chan c).state = .off) := by
      first | exact .inl (of_decide_eq_true rfl) | exact .inr Iff.rfl)
    (losses : .losses ∈ l ∨ r.holds.controlLost = (s.chan c).holds.controlLost := by
      first | exact .inl (of_decide_eq_true rfl) | exact .inr rfl)
    (alarmHolds : .alarmHolds ∈ l ∨ (r.alarmHolds = (s.chan c).alarmHolds
        ∧ r.holds.alarm = (s.chan c).holds.alarm) := by first | exact .inl (of_decide_eq_true rfl) | exact .inr ⟨rfl, rfl⟩)
    (masses : .masses ∈ l ∨ (r.fed = (s.chan c).fed ∧ r.debited = (s.chan c).debited
        ∧ r.unassigned = (s.chan c).unassigned) := by
      first | exact .inl (of_decide_eq_true rfl) | exact .inr ⟨rfl, rfl, rfl⟩) : Touches l s (s.setChan c r) := by
  have lift {X : ChannelRecord → ChannelRecord → Prop} (h : X (s.chan c) r) (hr : ∀ x, X x x) (d : Chan) :
      X (s.chan d) ((s.setChan c r).chan d) := by
    rw [State.setChan_chan]
    split
    next e => subst e; exact h
    next => exact hr _
  have config (h : r.config = (s.chan c).config) (d : Chan) : ((s.setChan c r).chan d).config = (s.chan d).config :=
    lift (X := fun x y => y.config = x.config) h (fun _ => rfl) d
  refine of (fuels := fuels.imp And.left config) (staged := staged.imp_right ?_) (runs := runs.imp_right ?_)
    (offs := offs.imp_right ?_) (losses := losses.imp_right ?_) (alarmHolds := alarmHolds.imp_right ?_)
    (masses := masses.imp_right ?_) (settings := fuels.imp And.right ?settings)
  case settings =>
    exact fun h => State.settings_congr (fun _ => rfl) (config h) rfl rfl rfl (fun _ => rfl) rfl (fun _ => rfl) rfl rfl
  · exact fun h => lift (X := fun x y => y.stagedLimits = x.stagedLimits ∧ y.stagedCalibration = x.stagedCalibration)
      h fun _ => ⟨rfl, rfl⟩
  · exact fun h => lift (X := fun x y => y.state = x.state ∧ y.tripCause = x.tripCause) h fun _ => ⟨rfl, rfl⟩
  · exact fun h => lift (X := fun x y => y.state = .off ↔ x.state = .off) h fun _ => Iff.rfl
  · exact fun h => lift (X := fun x y => y.holds.controlLost = x.holds.controlLost) h fun _ => rfl
  · exact fun h => lift (X := fun x y => y.alarmHolds = x.alarmHolds ∧ y.holds.alarm = x.holds.alarm) h
      fun _ => ⟨rfl, rfl⟩
  · exact fun h => lift (X := fun x y => y.fed = x.fed ∧ y.debited = x.debited ∧ y.unassigned = x.unassigned) h
      fun _ => ⟨rfl, rfl, rfl⟩

theorem setFeeder (c : Chan) (b : FeederBlock) (s : State) : Touches [.feeders] s (s.setFeeder c b) := of

theorem drive (c : Chan) (v : Nat) (s : State) : Touches [.flows, .feeders] s (s.drive c v) := of

/-- A point's record written, its configuration kept. -/
theorem setPoint (p : PointNo) (r : PointRecord) (s : State) (config : r.config = (s.point p).config := by rfl) :
    Touches [.points] s (s.setPoint p r) :=
  of (settings := .inr (State.settings_congr (fun q => by
      by_cases e : q = p
      · subst e; simpa using config
      · rw [State.setPoint_point_ne e]) (fun _ => rfl) rfl rfl rfl (fun _ => rfl) rfl (fun _ => rfl) rfl rfl))

/-- A write of the alarm table that keeps the conditions and the rules of the trip map. -/
theorem setAlt (a : AlarmTable) (s : State)
    (present : ∀ p k, a.isPresent (.point p k) = s.alt.isPresent (.point p k) := by exact fun _ _ => rfl)
    (rules : ∀ e, (a.tripMap.get e).rule = (s.alt.tripMap.get e).rule := by exact fun _ => rfl) :
    Touches [.alarms] s (s.setAlt a) :=
  of (pointAlarms := .inr present) (rules := .inr rules)
    (settings := .inr (State.settings_congr (fun _ => rfl) (fun _ => rfl) rfl rfl rfl (fun _ => rfl) rfl rules rfl rfl))

theorem settle (s : State) : Touches [.alarms] s s.settle := setAlt _ s

theorem reportNotice (b : Bool) (s : State) : Touches [.alarms] s (s.reportNotice b) := setAlt _ s

theorem setSupervision (v : Supervision) (s : State)
    (times : v.supervisionTime = s.chc.supervision.supervisionTime ∧ v.holdTime = s.chc.supervision.holdTime := by
      exact ⟨rfl, rfl⟩) : Touches [.link] s (s.setSupervision v) :=
  of (settings := .inr (State.settings_congr (fun _ => rfl) (fun _ => rfl) times.1 times.2 rfl (fun _ => rfl) rfl
    (fun _ => rfl) rfl rfl))

theorem setHoldTimer (x : Option Timer) (s : State) :
    Touches [.link] s (s.setSupervision { s.chc.supervision with holdTimer := x }) := setSupervision _ s

theorem setCooler (k : Cooler) (s : State) (config : k.config = s.clc.config := by rfl)
    (compartments : ∀ n, (k.compartments.get n).config = (s.clc.compartments.get n).config := by exact fun _ => rfl) :
    Touches [.cooler] s (s.setCooler k) :=
  of (settings := .inr (State.settings_congr (fun _ => rfl) (fun _ => rfl) rfl rfl rfl compartments config
    (fun _ => rfl) rfl rfl))

theorem setAccess (x : Access) (s : State) (word : x.word = s.acu.word := by rfl) :
    Touches [.access] s (s.setAccess x) :=
  of (settings := .inr (State.settings_congr (fun _ => rfl) (fun _ => rfl) rfl rfl rfl (fun _ => rfl) rfl
    (fun _ => rfl) rfl word))

theorem closeAccess (s : State) : Touches [.access] s s.closeAccess := setAccess _ s

theorem startOpenTimer (s : State) : Touches [.access] s s.startOpenTimer := setAccess _ s

/-! ### Reports -/

/-- Everything a report can touch. -/
theorem ofAnyReport (h : ReportTouch s t) : Touches anyReport s t :=
  of (queue := .inr ⟨h.pending, h.moment⟩) (phase := .inr h.phase) (line := .inr h.tripLine) (points := .inr h.ptb) (lots := .inr h.lrg)
    (link := .inr h.supervision) (fuels := .inr h.config)
    (staged := .inr fun c => by rw [h.chan c]; exact ⟨rfl, rfl⟩) (offs := .inr h.off)
    (losses := .inr fun c => (h.holds c).1)
    (masses := .inr fun c => ⟨h.fed c, h.debited c, h.unassigned c⟩)
    (demands := .inr ⟨(congrArg Firing.demandMain h.firing :), (congrArg Firing.demandCalc h.firing :)⟩)
    (cooler := .inr h.clc) (rules := .inr h.rules)
    (tallies := .inr ⟨(congrArg ShiftUnit.held h.shift :), (congrArg (fun u => u.current.overrun) h.shift :),
      (congrArg (fun u => u.current.lots) h.shift :), (congrArg (fun u => u.current.otherKg) h.shift :),
      (congrArg (fun u => u.current.unassigned) h.shift :), fun c => (congrArg ChannelTally.fed (h.tallies c) :)⟩)
    (clock := .inr ((congrArg ShiftUnit.clock h.shift :))) (access := .inr h.acu) (store := .inr h.sst)
    (settings := .inr h.settings)

theorem ofReport (h : ReportTouch s t) (points : Aspect.pointAlarms.same s t) : Touches plainReport s t :=
  ⟨fun a ha => by
    by_cases e : a = .pointAlarms
    · exact e ▸ points
    · exact (ofAnyReport h).same a (by simp only [List.mem_cons, e, false_or]; simpa using ha)⟩

/-- The point conditions stand in a report on another identity. -/
theorem pointAlarms_of_othersStand {id : Identity} (h : AlarmTable.OthersStand id s.alt t.alt)
    (other : ∀ p k, id ≠ .point p k := by exact fun _ _ => nofun) : Aspect.pointAlarms.same s t :=
  fun p k => h _ (other p k).symm nofun

theorem report (r : Report) (s : State) : Touches anyReport s (s.report r) := ofAnyReport (.report r s)

theorem reports (rs : List Report) (s : State) : Touches anyReport s (s.reports rs) := ofAnyReport (.reports rs s)

theorem comesFixed (id : Identity) (s : State) (other : ∀ p k, id ≠ .point p k := by exact fun _ _ => nofun) :
    Touches plainReport s (s.comesFixed id) :=
  ofReport (.comesFixed id s) (pointAlarms_of_othersStand (.comes _ _ s) other)

theorem goes (id : Identity) (s : State) (other : ∀ p k, id ≠ .point p k := by exact fun _ _ => nofun) :
    Touches plainReport s (s.goes id) :=
  ofReport (.goes id s) (pointAlarms_of_othersStand (.goes s) other)

/-! ### Holds and trips -/

theorem freeze (c : Chan) (s : State) : Touches [.runs] s (s.freeze c) := by
  unfold State.freeze
  split
  iterate 2 next h => exact setChan c _ s (offs := .inr (by simp [h]))
  all_goals exact refl _ s

theorem enterRunning (c : Chan) (s : State) (on : (s.chan c).state ≠ .off) :
    Touches [.runs, .flows, .feeders] s (s.enterRunning c) := by
  unfold State.enterRunning
  have run : Touches [.runs, .flows, .feeders] s (s.setChan c { s.chan c with state := .running, startTimer := none }) :=
    setChan c _ s (offs := .inr (by simp [on]))
  split
  · exact run.trans ((drive c _ _).mono)
  · exact run

theorem resume (c : Chan) (s : State) : Touches [.runs, .flows, .feeders] s (s.resume c) := by
  unfold State.resume
  split
  next h => exact enterRunning c s (by simp [h.1])
  next => exact refl _ s

theorem trip (c : Chan) (x : TripCause) (s : State) : Touches plainReport s (s.trip c x) :=
  ofReport (.trip c x s) fun _ _ => by rw [State.trip_alt]

/-! ### Points, and channels in CH_OFF -/

theorem reconcile (p : PointNo) (s : State) : Touches reconciling s (s.reconcile p) :=
  ((setPoint p _ s).mono).trans ((reports _ _).mono)

theorem offNotice (c : Chan) (b : Bool) (s : State) : Touches reconciling s (s.offNotice c b) := by
  have mark : Touches reconciling s { s with ptb := { s.ptb with offMarks := s.ptb.offMarks.put c b } } := of
  exact mark.trans (foldl (fun s p => reconcile p s) _ _)

theorem enterOff (c : Chan) (s : State) : Touches leavingOff s (s.enterOff c) :=
  Touches.trans (setChan c _ s) ((offNotice c true _).mono)

theorem tripTaken (c : Chan) (x : TripCause) (s : State) : Touches leavingOff s (s.tripTaken c x) := by
  have write : Touches leavingOff s
      (s.setChan c { s.chan c with state := .tripped, tripCause := some x, startTimer := none }) := setChan c _ s
  refine write.trans (of (tallies := .inr ⟨rfl, rfl, rfl, rfl, rfl, fun d => ?_⟩))
  show ((s.sht.current.channels.modify c _).get d).fed = (s.sht.current.channels.get d).fed
  rw [Tbl.get_modify]
  split
  next e => rw [e]
  next => rfl

theorem tripEvery (x : TripCause) (s : State) : Touches leavingOff s (s.tripEvery x) := by
  unfold State.tripEvery
  refine Touches.trans (t := allChans.foldl
    (fun s c => if (s.chan c).state = .tripped then s else s.tripTaken c x) s) ?_ ?_
  · refine foldl (fun s c => ?_) _ s
    split
    · exact refl _ s
    · exact tripTaken c x s
  · exact foldl (fun s c => (offNotice c false s).mono) _ _

theorem tripLineTaken (s : State) : Touches leavingOff s s.tripLineTaken :=
  (tripEvery .tripLine s).trans ((comesFixed _ _).mono)

/-! ### Lots -/

theorem setOverdrawn (c : Chan) (b : Bool) (s : State) : Touches lotAspects s (s.setOverdrawn c b) := by
  unfold State.setOverdrawn
  have mark : Touches lotAspects s { s with lrg := { s.lrg with overdrawn := s.lrg.overdrawn.put c b } } := of
  simp only
  split
  · exact refl _ s
  · split
    · exact mark.trans ((comesFixed _ _).mono)
    · exact mark.trans ((goes _ _).mono)

theorem evaluateOverdrawn (c : Chan) (s : State) : Touches lotAspects s (s.evaluateOverdrawn c) := by
  unfold State.evaluateOverdrawn
  split
  · split
    · exact setOverdrawn c _ s
    · exact refl _ s
  · exact refl _ s

theorem setLot (i : LotNo) (r : LotRecord) (s : State) : Touches [.lots] s (s.setLot i r) := of

theorem setQueue (c : Chan) (q : List LotNo) (s : State) : Touches [.lots] s (s.setQueue c q) := of

theorem setLotState (i : LotNo) (x : LotState) (s : State) : Touches [.lots] s (s.setLotState i x) := by
  unfold State.setLotState
  split
  · exact setLot ..
  · exact refl _ s

theorem succession (c : Chan) (x : LotState) (s : State) : Touches lotAspects s (s.succession c x) := by
  unfold State.succession
  split
  · exact refl _ s
  · exact ((setLotState ..).trans (setQueue ..) |>.mono).trans (evaluateOverdrawn ..)
  · exact (((setLotState ..).trans (setLotState ..)).trans (setQueue ..) |>.mono).trans
      (evaluateOverdrawn ..)

theorem leaveQueue (c : Chan) (i : LotNo) (x : LotState) (s : State) : Touches [.lots] s (s.leaveQueue c i x) :=
  (setLotState ..).trans (setQueue ..)

theorem lotRejected (c : Chan) (s : State) : Touches plainReport s (s.lotRejected c) :=
  ((trip ..).trans (comesFixed _ _)).trans (goes _ _)

theorem quarantine (i : LotNo) (s : State) : Touches lotAspects s (s.quarantine i) := by
  unfold State.quarantine
  split
  · split
    · simp only
      split
      · exact succession ..
      · exact (succession ..).trans ((lotRejected ..).mono)
    · exact (leaveQueue ..).mono
  · exact (setLotState ..).mono

theorem charge (c : Chan) (q : List LotNo) (k : Nat) (s : State) : Touches lotAspects s (State.charge c q k s).2 := by
  induction q generalizing k s with
  | nil => exact setOverdrawn ..
  | cons h rest ih =>
    unfold State.charge
    split
    · exact setOverdrawn ..
    · split
      · exact (setLot ..).mono
      · simp only
        split
        · exact ((setLot ..).mono).trans (setOverdrawn ..)
        · exact (((setLot ..).mono).trans (succession ..)).trans (ih _ _)

theorem debit (c : Chan) (k : Nat) (s : State) : Touches lotAspects s (s.debit c k).2 := charge ..

/-! ### Fed mass and the shift tally unit -/

theorem takePart (c : Chan) (x : FuelClass) (p : Part) (s : State) :
    Touches [.masses, .shift, .tallies] s (s.takePart c x p) := by
  have counter : Touches [.masses, .shift, .tallies] s (s.setChan c (if p.lot.isSome
      then { s.chan c with debited := (s.chan c).debited + p.kg }
      else { s.chan c with unassigned := (s.chan c).unassigned + p.kg })) := by
    split <;> exact setChan c _ s
  have clock : (s.sht.takeDebit c (s.chan c).config.location x p).clock = s.sht.clock ∧
      (s.sht.takeDebit c (s.chan c).config.location x p).plan = s.sht.plan := by
    unfold ShiftUnit.takeDebit
    simp only
    split
    · exact ⟨rfl, rfl⟩
    · unfold ShiftUnit.contribute
      split <;> exact ⟨rfl, rfl⟩
  exact counter.trans (of (clock := .inr clock.1) (settings := .inr (State.settings_congr (fun _ => rfl) (fun _ => rfl)
    rfl rfl rfl (fun _ => rfl) rfl (fun _ => rfl) clock.2 rfl)))

/-- What whole kilograms fed can touch. -/
abbrev feedAspects : List Aspect := .masses :: .tallies :: lotAspects

theorem feed (c : Chan) (k : Nat) (s : State) : Touches feedAspects s (s.feed c k) := by
  unfold State.feed
  simp only
  have fed : Touches feedAspects s (s.setChan c { s.chan c with fed := (s.chan c).fed + k }) := setChan c _ s
  exact ((fed.trans ((setFeeder ..).mono)).trans ((debit ..).mono)).trans
    (foldl (fun s p => (takePart ..).mono) _ _)

theorem closeShift (s : State) : Touches [.shift, .tallies, .alarms] s s.closeShift := by
  unfold State.closeShift
  exact Touches.trans of ((reportNotice ..).mono)

/-! ### The control link, the store -/

/-- What the end of a loss can touch. -/
abbrev endingLoss : List Aspect := .link :: .losses :: plainReport

theorem clearLoss (c : Chan) (s : State) : Touches [.losses] s (s.clearLoss c) := setChan c _ s

theorem holdForLoss (c : Chan) (s : State) : Touches [.losses, .runs] s (s.holdForLoss c) := by
  unfold State.holdForLoss
  split
  all_goals first | exact refl _ s | exact Touches.trans (setChan c _ s) ((freeze ..).mono)

theorem endLoss (s : State) : Touches endingLoss s s.endLoss := by
  unfold State.endLoss
  simp only
  refine Touches.trans ?_ (foldl (fun s c => (resume c s).mono) allChans _)
  refine Touches.trans ?_ ((goes (.system .controlLost) _).mono)
  refine Touches.trans ?_ (foldl (fun s c => (clearLoss c s).mono) allChans _)
  exact (setSupervision _ s).mono

theorem refresh (s : State) : Touches endingLoss s s.refresh := by
  unfold State.refresh
  split
  · exact (setSupervision _ s).mono
  all_goals exact endLoss s

theorem reconcileStore (s : State) : Touches (.store :: plainReport) s s.reconcileStore := by
  unfold State.reconcileStore
  simp only
  split
  · exact refl _ s
  · have field : Touches (.store :: plainReport) s { s with sst := { s.sst with reportedFault := !s.sst.imageValid } } := of
    split
    · exact field.trans ((goes _ _).mono)
    · exact field.trans ((comesFixed _ _).mono)

end Touches

end Sys2Proof.Machine
end

section
/-!
Proofs. What each owner's answer and each event leaves as it was, aspect by aspect.
-/
set_option Elab.async false

namespace Sys2Proof.Machine

/-! ### Requests that name a place -/

section named
variable {P : State → Prop} {f : List Byte} {s : State}

/-- What the state has, and every answer of the rule, the request's answer has. -/
theorem withChan_state {rule : Chan → Reply} (h : P s) (hr : ∀ c, P (rule c).state) :
    P (withChan f s rule).state := by
  unfold withChan
  split
  · exact h
  · exact hr _

theorem withComp_state {rule : Comp → Compartment → Reply} (h : P s)
    (hr : ∀ n, P (rule n (s.clc.compartments.get n)).state) : P (withComp f s rule).state := by
  unfold withComp
  split
  · exact h
  · exact hr _

theorem withLot_state {rule : LotNo → LotRecord → Reply} (h : P s)
    (hr : ∀ i r, s.lrg.lot i = some r → P (rule i r).state) : P (withLot f s rule).state := by
  unfold withLot
  split
  · exact h
  · split
    next found => exact hr _ _ found
    next => exact h

theorem withAlarm_state {rule : SlotNo → AlarmRecord → Reply} (h : P s)
    (hr : ∀ i r, s.alt.record i = some r → P (rule i r).state) : P (withAlarm f s rule).state := by
  unfold withAlarm
  split
  · simp only
    split
    next found =>
      split
      · exact h
      · exact hr _ _ found
    next => exact h
  · exact h

end named

/-! ### What a kind of request can touch -/

/-- The aspects that the owner of a kind can touch. -/
def touchedBy : Kind → List Aspect
  | .accessOpen => .access :: plainReport
  | .accessClose => [.access]
  | .setAccessWord => [.access, .settings]
  | .ackAlarm | .ackAll | .shelve | .unshelve | .silence | .collectAlarms => [.alarms]
  | .setTripEntry => .access :: .rules :: .settings :: plainReport
  | .setDemand => [.demands]
  | .setClCeiling | .setCreditParams => [.access, .settings]
  | .setDeficitAlarm => [.settings]
  | .setCompartment | .setCompartmentControl | .setCoolerConfig => [.cooler, .settings]
  | .setManualSpeed | .setManualGrate => [.cooler]
  | .coolerMode => .cooler :: plainReport
  | .setChannelFuel | .setLotClLimit => [.fuels, .access, .settings]
  | .setShare => [.fuels, .settings]
  | .setFlowLimits | .setCalibration => [.fuels, .staged, .flows, .feeders, .access, .settings]
  | .startChannel | .stopChannel | .emergencyStop | .clearTrip => leavingOff
  | .holdChannel => [.runs]
  | .releaseHold => [.runs, .flows, .feeders]
  | .setLinkTimes => [.link, .settings]
  | .setStallTime => [.feeders]
  | .registerLot | .retireLot => [.lots]
  | .setAnalysis | .amendMass | .quarantineLot | .enqueueLot | .dequeueLot => lotAspects
  | .pointUpdate => reconciling
  | .setLimits => .access :: .settings :: reconciling
  | .setPointConfig => .settings :: reconciling
  | .setProtectMark => [.points, .access, .settings]
  | .setClock => [.shift, .clock, .tallies]
  | .setShiftPlan => [.shift, .settings]
  | .shiftClose | .releaseShift | .correctShift | .readShift => [.shift, .tallies, .alarms]
  | .saveSettings => [.store]
  | .warmRestart => .link :: .losses :: .cooler :: .access :: .store :: leavingOff
  | .readStatus | .readLink | .readPoint | .readLot | .findLot | .readQueue | .readChannel | .readFiring | .readFeeder
  | .readCooler | .readTripMap | .readAlarm | .findAlarm | .readAlarmTable | .readClock | .readAccess => []

namespace Touches

variable {l m : List Aspect} {s t : State} {f : List Byte} {p : Port}

/-- Writes with one more write of the open timer. -/
theorem thenOpenTimer (h : Touches l s t) (a : .access ∈ l := by exact of_decide_eq_true rfl) : Touches l s t.startOpenTimer :=
  h.trans ((startOpenTimer t).mono (by simpa using a))

/-! ### Access -/

theorem lockOut (s : State) : Touches (.access :: plainReport) s s.lockOut := by
  unfold State.lockOut
  exact Touches.trans (((setAccess _ s).trans (closeAccess _)).mono)
    ((comesFixed (.system .accessLocked) _).mono)

theorem ownerAccessOpen : Touches (touchedBy .accessOpen) s (ownerAccessOpen p f s).state := by
  unfold Machine.ownerAccessOpen
  split
  · exact refl _ s
  · split
    · exact ((setAccess _ s).trans (startOpenTimer _)).mono
    · split
      · exact (setAccess _ s).mono
      · exact lockOut s

theorem ownerAccessClose : Touches (touchedBy .accessClose) s (ownerAccessClose p f s).state := by
  unfold Machine.ownerAccessClose
  split
  · exact closeAccess s
  · exact refl _ s

theorem ownerSetAccessWord : Touches (touchedBy .setAccessWord) s (ownerSetAccessWord p f s).state := by
  unfold Machine.ownerSetAccessWord
  split
  · exact refl _ s
  · exact thenOpenTimer of

/-! ### Alarms -/

/-- A write of the alarm table's slots, settled. -/
theorem slotsThenSettle (a : AlarmTable) (s : State) (conditions : a.conditions = s.alt.conditions := by rfl)
    (map : a.tripMap = s.alt.tripMap := by rfl) : Touches [.alarms] s (s.setAlt a).settle :=
  setAlt a.settled s (fun p k => by simp [AlarmTable.isPresent, AlarmTable.condition, conditions, AlarmTable.settled])
    fun e => by simp [map]

theorem stubbed (i : SlotNo) (s : State) : Touches [.alarms] s (s.setAlt (s.alt.stubbed i)) := setAlt _ s

theorem rewrite (i : SlotNo) (r : AlarmRecord) (s : State) : Touches [.alarms] s (s.setAlt (s.alt.rewrite i r)) :=
  setAlt _ s

/-- A state that differs in its alarm table alone. -/
theorem ofSetAlt {id : Identity} (alone : t = s.setAlt t.alt) (map : t.alt.tripMap = s.alt.tripMap)
    (stand : AlarmTable.OthersStand id s.alt t.alt) (other : ∀ p k, id ≠ .point p k) : Touches [.alarms] s t := by
  rw [alone]
  exact setAlt t.alt s (fun p k => pointAlarms_of_othersStand stand other p k) fun e => by rw [map]

end Touches

/-! ### What promotions and retirements write -/

theorem State.tableFullCheck_alone (s : State) : s.tableFullCheck = s.setAlt s.tableFullCheck.alt := by
  unfold State.tableFullCheck State.tableFullGoes
  split
  · simp only
    split
    · rfl
    · split <;> rfl
  · rfl

theorem State.tableFullCheck_tripMap (s : State) : s.tableFullCheck.alt.tripMap = s.alt.tripMap := by
  unfold State.tableFullCheck State.tableFullGoes
  split
  · simp only
    split
    · rfl
    · split <;> rfl
  · rfl

theorem State.promote_alone (i : SlotNo) (s : State) : s.promote i = s.setAlt (s.promote i).alt := by
  unfold State.promote
  split
  · rfl
  · split
    · rfl
    · rw [State.tableFullCheck_alone]; rfl

theorem State.promote_tripMap (i : SlotNo) (s : State) : (s.promote i).alt.tripMap = s.alt.tripMap := by
  unfold State.promote
  split
  · rfl
  · split
    · rfl
    · rw [State.tableFullCheck_tripMap]; rfl

theorem State.retire_alone (i : SlotNo) (s : State) : s.retire i = s.setAlt (s.retire i).alt := by
  unfold State.retire
  split
  · rfl
  · rw [State.promote_alone]; rfl

theorem State.retire_tripMap (i : SlotNo) (s : State) : (s.retire i).alt.tripMap = s.alt.tripMap := by
  unfold State.retire
  split
  · rfl
  · rw [State.promote_tripMap]; rfl

namespace Touches

variable {l m : List Aspect} {s t : State} {f : List Byte} {p : Port}

theorem promote (i : SlotNo) (s : State) : Touches [.alarms] s (s.promote i) :=
  ofSetAlt (id := .system .tableFull) (State.promote_alone i s) (State.promote_tripMap i s) (.promote i s) nofun

theorem retire (i : SlotNo) (s : State) : Touches [.alarms] s (s.retire i) :=
  ofSetAlt (id := .system .tableFull) (State.retire_alone i s) (State.retire_tripMap i s) (.retire i s) nofun

theorem acknowledge (p : Port) (i : SlotNo) (s : State) : Touches [.alarms] s (s.acknowledge p i) := by
  unfold State.acknowledge
  split
  · exact refl _ s
  · split
    · exact rewrite ..
    · exact retire ..
    · exact refl _ s

theorem ownerAckAlarm : Touches (touchedBy .ackAlarm) s (ownerAckAlarm p f s).state := by
  refine withAlarm_state (refl _ s) fun i r _ => ?_
  split
  · exact refl _ s
  all_goals exact (acknowledge ..).trans (settle _)

theorem ackAll (s : State) : Touches [.alarms] s s.ackAll := by
  refine Touches.trans (Touches.trans ?_ (foldl (fun s i => acknowledge .control i s) _ _)) (settle _)
  exact Touches.trans (foldl (fun s i => stubbed i s) _ _) (foldl (fun s i => promote i s) _ _)

theorem ownerAckAll : Touches (touchedBy .ackAll) s (ownerAckAll p f s).state := by
  unfold Machine.ownerAckAll
  simp only
  split
  · exact refl _ s
  · exact ackAll s

theorem ownerShelve : Touches (touchedBy .shelve) s (ownerShelve p f s).state := by
  refine withAlarm_state (refl _ s) fun i r _ => ?_
  simp only
  repeat' split
  · exact refl _ s
  · exact refl _ s
  · exact refl _ s
  · exact slotsThenSettle _ s

theorem ownerUnshelve : Touches (touchedBy .unshelve) s (ownerUnshelve p f s).state := by
  refine withAlarm_state (refl _ s) fun i r _ => ?_
  split
  · exact refl _ s
  · exact slotsThenSettle _ s

theorem ownerSilence : Touches (touchedBy .silence) s (ownerSilence p f s).state := by
  unfold Machine.ownerSilence
  split
  · exact slotsThenSettle _ s
  · exact refl _ s

theorem ownerCollectAlarms : Touches (touchedBy .collectAlarms) s (ownerCollectAlarms p f s).state :=
  slotsThenSettle (s.alt.collect p) s

theorem setInForce (e : EntryNo) (b : Bool) (s : State) : Touches plainReport s (s.setInForce e b) :=
  ofReport (.setInForce e b s) fun _ _ => rfl

theorem entryIntoForce (e : EntryNo) (s : State) : Touches plainReport s (s.entryIntoForce e) :=
  ofReport (.entryIntoForce e s) fun _ _ => by
    simp only [AlarmTable.isPresent, AlarmTable.condition_of_offMap (State.entryIntoForce_offMap e s)]

theorem oldEntryOut (e : EntryNo) (s : State) : Touches plainReport s (s.oldEntryOut e) := by
  unfold State.oldEntryOut
  split
  · split
    · exact setInForce ..
    · exact (setInForce ..).trans (ofReport (.holdRelease ..) fun _ _ => by rw [State.holdRelease_alt])
  · exact setInForce ..

theorem shelvingEnds (id : Identity) (s : State) : Touches [.alarms] s (s.shelvingEnds id) := by
  unfold State.shelvingEnds
  split
  · exact refl _ s
  · split
    · exact refl _ s
    · split
      · exact rewrite ..
      · exact refl _ s

theorem replaceEntry (e : EntryNo) (x : Option TripRule) (s : State) :
    Touches (.rules :: .settings :: plainReport) s (s.replaceEntry e x) := by
  have written : Touches (.rules :: .settings :: plainReport) s ((s.oldEntryOut e).writeEntry e x) :=
    ((oldEntryOut e s).mono).trans of
  unfold State.replaceEntry
  simp only
  split
  · exact written
  · exact ((written.trans ((shelvingEnds ..).mono)).trans ((entryIntoForce ..).mono)).trans
      ((settle _).mono)

theorem ownerSetTripEntry : Touches (touchedBy .setTripEntry) s (ownerSetTripEntry p f s).state := by
  unfold Machine.ownerSetTripEntry
  split
  · exact refl _ s
  · split
    · exact thenOpenTimer ((replaceEntry ..).mono)
    · exact refl _ s

/-! ### Firing -/

theorem ownerSetDemand : Touches (touchedBy .setDemand) s (ownerSetDemand p f s).state := by
  unfold Machine.ownerSetDemand
  split
  · exact refl _ s
  next l _ => cases l <;> exact of

theorem ownerSetClCeiling : Touches (touchedBy .setClCeiling) s (ownerSetClCeiling p f s).state := by
  unfold Machine.ownerSetClCeiling
  simp only
  repeat' split
  · exact refl _ s
  · exact refl _ s
  · exact thenOpenTimer of

theorem ownerSetCreditParams : Touches (touchedBy .setCreditParams) s (ownerSetCreditParams p f s).state := by
  unfold Machine.ownerSetCreditParams
  repeat' split
  · exact refl _ s
  · exact refl _ s
  · exact thenOpenTimer of

theorem ownerSetDeficitAlarm : Touches (touchedBy .setDeficitAlarm) s (ownerSetDeficitAlarm p f s).state := by
  unfold Machine.ownerSetDeficitAlarm
  split
  · exact refl _ s
  · exact of

/-! ### Cooler -/

/-- A compartment's record written. -/
theorem setCompartment (n : Comp) (x : Compartment) (s : State) :
    Touches [.cooler, .settings] s (s.setCompartment n x) := of

theorem ownerSetCompartment : Touches (touchedBy .setCompartment) s (ownerSetCompartment p f s).state := by
  refine withComp_state (refl _ s) fun n => ?_
  split
  · exact refl _ s
  · exact setCompartment ..

theorem ownerSetCompartmentControl :
    Touches (touchedBy .setCompartmentControl) s (ownerSetCompartmentControl p f s).state := by
  refine withComp_state (refl _ s) fun n => ?_
  split
  · exact refl _ s
  · exact setCompartment ..

theorem ownerSetCoolerConfig : Touches (touchedBy .setCoolerConfig) s (ownerSetCoolerConfig p f s).state := by
  unfold Machine.ownerSetCoolerConfig
  simp only
  repeat' split
  · exact refl _ s
  · exact refl _ s
  · exact of

theorem ownerSetManualSpeed : Touches (touchedBy .setManualSpeed) s (ownerSetManualSpeed p f s).state := by
  refine withComp_state (refl _ s) fun n => ?_
  simp only
  split
  · exact refl _ s
  · refine setCooler _ s (compartments := fun k => ?_)
    rw [Tbl.get_put]
    split
    next e => rw [e]
    next => rfl

theorem ownerSetManualGrate : Touches (touchedBy .setManualGrate) s (ownerSetManualGrate p f s).state := by
  unfold Machine.ownerSetManualGrate
  simp only
  split
  · exact refl _ s
  · exact setCooler _ s

/-- What a cooler report can touch. -/
abbrev coolerReport : List Aspect := .cooler :: plainReport

theorem heldReport (s : State) : Touches coolerReport s s.heldReport := by
  unfold State.heldReport
  have field : Touches coolerReport s (s.setCooler { s.clc with reportedHeld := s.clc.mode == .held }) :=
    (setCooler _ s).mono
  simp only
  split
  · exact refl _ s
  · split
    · exact field.trans ((comesFixed _ _).mono)
    · exact field.trans ((goes _ _).mono)

theorem flushReport (s : State) : Touches coolerReport s s.flushReport := by
  unfold State.flushReport
  have field : Touches coolerReport s (s.setCooler { s.clc with reportedFlush := s.clc.flushTimer.isSome }) :=
    (setCooler _ s).mono
  simp only
  split
  · exact refl _ s
  · split
    · exact field.trans ((comesFixed _ _).mono)
    · exact field.trans ((goes _ _).mono)

theorem airShortReport (s : State) : Touches coolerReport s s.airShortReport := by
  unfold State.airShortReport
  have field : Touches coolerReport s (s.setCooler { s.clc with reportedAirShort := s.clc.airShortDue }) :=
    (setCooler _ s).mono
  simp only
  split
  · exact refl _ s
  · split
    · exact field.trans ((comesFixed _ _).mono)
    · exact field.trans ((goes _ _).mono)

theorem enterManual (s : State) : Touches coolerReport s s.enterManual := by
  unfold State.enterManual
  refine Touches.trans (Touches.trans ?_ (airShortReport _)) (heldReport _)
  exact (setCooler _ s (compartments := fun n => by simp)).mono

theorem ownerCoolerMode : Touches (touchedBy .coolerMode) s (ownerCoolerMode p f s).state := by
  unfold Machine.ownerCoolerMode
  split
  · split
    · exact refl _ s
    · exact enterManual s
  · split
    · exact (setCooler _ s).mono
    · exact refl _ s
  · exact refl _ s

/-! ### Channels -/

/-- A channel's configuration written. -/
theorem setChanConfig (c : Chan) (cf : ChannelConfig) (s : State) :
    Touches [.fuels, .settings] s (s.setChanConfig c cf) := setChan c _ s

theorem ownerSetChannelFuel : Touches (touchedBy .setChannelFuel) s (ownerSetChannelFuel p f s).state := by
  refine withChan_state (refl _ s) fun c => ?_
  repeat' split
  any_goals exact refl _ s
  exact thenOpenTimer ((setChanConfig ..).mono)

theorem ownerSetLotClLimit : Touches (touchedBy .setLotClLimit) s (ownerSetLotClLimit p f s).state := by
  refine withChan_state (refl _ s) fun c => ?_
  repeat' split
  any_goals exact refl _ s
  exact thenOpenTimer ((setChanConfig ..).mono)

theorem ownerSetShare : Touches (touchedBy .setShare) s (ownerSetShare p f s).state :=
  withChan_state (refl _ s) fun _ => setChanConfig ..

/-- What a half written can touch. -/
abbrev halfAspects : List Aspect := [.fuels, .staged, .flows, .feeders, .settings]

theorem pair (c : Chan) (x : FlowLimits) (k : Calibration) (s : State) : Touches halfAspects s (s.pair c x k) := by
  unfold State.pair
  simp only
  refine Touches.trans ?_ ((drive c _ _).mono)
  refine Touches.trans ?_ ((setFeeder c _ _).mono)
  refine Touches.trans (t := s.setChan c _) ?_ of
  exact setChan c _ s

theorem writeLimitsHalf (c : Chan) (x : FlowLimits) (s : State) : Touches halfAspects s (s.writeLimitsHalf c x) := by
  unfold State.writeLimitsHalf
  split
  · exact pair ..
  · exact setChan c _ s

theorem writeCalibrationHalf (c : Chan) (k : Calibration) (s : State) :
    Touches halfAspects s (s.writeCalibrationHalf c k) := by
  unfold State.writeCalibrationHalf
  split
  · exact pair ..
  · exact setChan c _ s

theorem ownerSetFlowLimits : Touches (touchedBy .setFlowLimits) s (ownerSetFlowLimits p f s).state := by
  refine withChan_state (refl _ s) fun c => ?_
  simp only
  repeat' split
  any_goals exact refl _ s
  exact thenOpenTimer ((writeLimitsHalf ..).mono)

theorem ownerSetCalibration : Touches (touchedBy .setCalibration) s (ownerSetCalibration p f s).state := by
  refine withChan_state (refl _ s) fun c => ?_
  simp only
  repeat' split
  any_goals exact refl _ s
  exact thenOpenTimer ((writeCalibrationHalf ..).mono)

theorem startChannel (c : Chan) (s : State) : Touches leavingOff s (s.startChannel c) := by
  unfold State.startChannel
  exact Touches.trans (Touches.trans (setChan c _ s) ((drive ..).mono)) ((offNotice ..).mono)

theorem ownerStartChannel : Touches (touchedBy .startChannel) s (ownerStartChannel p f s).state := by
  refine withChan_state (refl _ s) fun c => ?_
  split
  · exact refl _ s
  · exact startChannel c s

theorem stopChannel (c : Chan) (s : State) : Touches leavingOff s (s.stopChannel c) := by
  unfold State.stopChannel
  split
  · exact ((drive c 0 s).mono).trans (enterOff c _)
  · split
    · exact enterOff c s
    · exact setChan c _ s

theorem ownerStopChannel : Touches (touchedBy .stopChannel) s (ownerStopChannel p f s).state := by
  refine withChan_state (refl _ s) fun c => ?_
  split
  any_goals exact refl _ s
  all_goals exact stopChannel c s

/-- HC_OPERATOR written: no aspect of the invariants. -/
theorem setOperatorHold (c : Chan) (b : Bool) (s : State) : Touches [] s (s.setOperatorHold c b) := setChan c _ s

theorem ownerHoldChannel : Touches (touchedBy .holdChannel) s (ownerHoldChannel p f s).state := by
  refine withChan_state (refl _ s) fun c => ?_
  split
  · exact refl _ s
  · exact ((setOperatorHold c true s).mono).trans (freeze ..)

theorem ownerReleaseHold : Touches (touchedBy .releaseHold) s (ownerReleaseHold p f s).state := by
  refine withChan_state (refl _ s) fun c => ?_
  split
  · exact refl _ s
  · exact ((setOperatorHold c false s).mono).trans (resume ..)

theorem ownerEmergencyStop : Touches (touchedBy .emergencyStop) s (ownerEmergencyStop p f s).state :=
  tripEvery _ s

theorem ownerClearTrip : Touches (touchedBy .clearTrip) s (ownerClearTrip p f s).state := by
  refine withChan_state (refl _ s) fun c => ?_
  split
  · exact refl _ s
  · exact enterOff c s

theorem ownerSetLinkTimes : Touches (touchedBy .setLinkTimes) s (ownerSetLinkTimes p f s).state := by
  unfold Machine.ownerSetLinkTimes
  split
  · exact refl _ s
  · exact of

theorem ownerSetStallTime : Touches (touchedBy .setStallTime) s (ownerSetStallTime p f s).state := by
  refine withChan_state (refl _ s) fun c => ?_
  split
  · exact refl _ s
  · exact setFeeder ..

/-! ### Lots -/

theorem ownerRegisterLot : Touches (touchedBy .registerLot) s (ownerRegisterLot p f s).state := by
  unfold Machine.ownerRegisterLot
  simp only
  repeat' split
  any_goals exact refl _ s
  exact of

theorem ownerRetireLot : Touches (touchedBy .retireLot) s (ownerRetireLot p f s).state := by
  refine withLot_state (refl _ s) fun i r _ => ?_
  split
  any_goals exact refl _ s
  all_goals exact of

theorem analyse (i : LotNo) (r : LotRecord) (a : Analysis) (s : State) : Touches lotAspects s (s.analyse i r a) := by
  unfold State.analyse
  simp only
  have write : Touches lotAspects s (s.setLot i (r.analysed a)) := (setLot ..).mono
  split
  · exact write
  · split
    · exact write.trans (quarantine ..)
    · exact write

theorem ownerSetAnalysis : Touches (touchedBy .setAnalysis) s (ownerSetAnalysis p f s).state := by
  refine withLot_state (refl _ s) fun i r _ => ?_
  repeat' split
  any_goals exact refl _ s
  all_goals exact analyse ..

theorem amend (i : LotNo) (r : LotRecord) (n : Nat) (s : State) : Touches lotAspects s (s.amend i r n) := by
  unfold State.amend
  simp only
  have write : Touches lotAspects s (s.setLot i { r with remaining := n }) := (setLot ..).mono
  repeat' split
  · exact write.trans (setOverdrawn ..)
  · exact write.trans (succession ..)
  · exact write
  · exact write

theorem ownerAmendMass : Touches (touchedBy .amendMass) s (ownerAmendMass p f s).state := by
  refine withLot_state (refl _ s) fun i r _ => ?_
  repeat' split
  any_goals exact refl _ s
  exact amend ..

theorem ownerQuarantineLot : Touches (touchedBy .quarantineLot) s (ownerQuarantineLot p f s).state := by
  refine withLot_state (refl _ s) fun i r _ => ?_
  split
  any_goals exact refl _ s
  all_goals exact quarantine ..

theorem newHead (c : Chan) (i : LotNo) (s : State) : Touches lotAspects s (s.newHead c i) :=
  ((setLotState ..).trans (setQueue ..) |>.mono).trans (evaluateOverdrawn ..)

theorem enqueue (c : Chan) (i : LotNo) (s : State) : Touches lotAspects s (s.enqueue c i) := by
  unfold State.enqueue
  repeat' split
  · exact newHead ..
  · exact ((setLotState ..).mono).trans (newHead ..)
  · exact (setLotState ..).trans (setQueue ..) |>.mono
  · exact (setLotState ..).trans (setQueue ..) |>.mono

theorem ownerEnqueueLot : Touches (touchedBy .enqueueLot) s (ownerEnqueueLot p f s).state := by
  refine withLot_state (refl _ s) fun i r _ => ?_
  repeat' split
  any_goals exact refl _ s
  exact enqueue ..

theorem ownerDequeueLot : Touches (touchedBy .dequeueLot) s (ownerDequeueLot p f s).state := by
  refine withLot_state (refl _ s) fun i r _ => ?_
  repeat' split
  any_goals exact refl _ s
  · exact (leaveQueue ..).mono
  · exact succession ..

/-! ### Points -/

theorem takeEntry (e : PointEntry) (s : State) : Touches reconciling s (s.takeEntry e) :=
  ((setPoint _ _ s).mono).trans (reconcile ..)

theorem ownerPointUpdate : Touches (touchedBy .pointUpdate) s (ownerPointUpdate p f s).state := by
  unfold Machine.ownerPointUpdate
  split
  · exact refl _ s
  · exact foldl (fun s e => takeEntry e s) _ s

/-- A point's record written, its configuration with it. -/
theorem configurePoint (n : PointNo) (r : PointRecord) (s : State) :
    Touches (.settings :: reconciling) s ((s.setPoint n r).reconcile n) :=
  Touches.trans of ((reconcile n _).mono)

theorem ownerSetLimits : Touches (touchedBy .setLimits) s (ownerSetLimits p f s).state := by
  unfold Machine.ownerSetLimits
  simp only
  repeat' split
  any_goals exact refl _ s
  unfold State.writeLimits taken
  simp only
  split
  · exact thenOpenTimer ((configurePoint ..).mono)
  · exact (configurePoint ..).mono

theorem ownerSetPointConfig : Touches (touchedBy .setPointConfig) s (ownerSetPointConfig p f s).state := by
  unfold Machine.ownerSetPointConfig
  repeat' split
  any_goals exact refl _ s
  exact configurePoint ..

theorem ownerSetProtectMark : Touches (touchedBy .setProtectMark) s (ownerSetProtectMark p f s).state := by
  unfold Machine.ownerSetProtectMark
  repeat' split
  any_goals exact refl _ s
  · exact of
  · exact thenOpenTimer of

/-! ### Shifts -/

theorem ownerSetClock : Touches (touchedBy .setClock) s (ownerSetClock p f s).state := by
  unfold Machine.ownerSetClock
  split
  · exact refl _ s
  · exact of

theorem ownerSetShiftPlan : Touches (touchedBy .setShiftPlan) s (ownerSetShiftPlan p f s).state := by
  unfold Machine.ownerSetShiftPlan
  simp only
  split
  · exact of
  · exact refl _ s

/-- What a held or closed record can touch. -/
abbrev recordAspects : List Aspect := [.shift, .tallies, .alarms]

theorem ownerShiftClose : Touches (touchedBy .shiftClose) s (ownerShiftClose p f s).state := by
  unfold Machine.ownerShiftClose
  split
  · exact refl _ s
  · exact closeShift s

theorem freeHeld (t : Tally) (s : State) : Touches recordAspects s (s.freeHeld t) := by
  unfold State.freeHeld
  simp only
  have emptied : Touches recordAspects s (s.setShift { s.sht with held := none }) := of
  split
  · exact emptied
  · exact emptied.trans ((reportNotice ..).mono)

theorem ownerReleaseShift : Touches (touchedBy .releaseShift) s (ownerReleaseShift p f s).state := by
  unfold Machine.ownerReleaseShift
  repeat' split
  any_goals exact refl _ s
  · exact (freeHeld ..).trans (closeShift _)
  · exact freeHeld ..

theorem ownerCorrectShift : Touches (touchedBy .correctShift) s (ownerCorrectShift p f s).state := by
  unfold Machine.ownerCorrectShift
  repeat' split
  any_goals exact refl _ s
  exact of

theorem readHeld (x : ShiftPart) (t : Tally) (s : State) : Touches recordAspects s (s.readHeld x t) := by
  unfold State.readHeld
  simp only
  have marked : Touches recordAspects s (s.setShift { s.sht with held := some (t.read x) }) := of
  split
  · exact marked.trans ((reportNotice ..).mono)
  · exact marked

theorem ownerReadShift : Touches (touchedBy .readShift) s (ownerReadShift p f s).state := by
  unfold Machine.ownerReadShift
  repeat' split
  any_goals exact refl _ s
  exact readHeld ..

/-! ### Store and warm restart -/

theorem ownerSaveSettings : Touches (touchedBy .saveSettings) s (ownerSaveSettings p f s).state := of

theorem reconcileAll (s : State) : Touches reconciling s s.reconcileAll := foldl (fun s p => reconcile p s) _ s

theorem resendOverdrawn (s : State) : Touches plainReport s s.resendOverdrawn :=
  foldl (fun s c => by
    split
    · exact comesFixed _ _
    · exact refl _ s) _ s

theorem resendTripLine (s : State) : Touches leavingOff s s.resendTripLine := by
  unfold State.resendTripLine
  split
  · exact tripLineTaken s
  · exact refl _ s

theorem resendStore (s : State) : Touches (.store :: plainReport) s s.resendStore :=
  Touches.trans of (reconcileStore _)

theorem resendLocked (s : State) : Touches (.access :: plainReport) s s.resendLocked := by
  unfold State.resendLocked
  split
  · exact Touches.trans ((setAccess _ s).mono) ((comesFixed (.system .accessLocked) _).mono)
  · exact refl _ s

/-- What a warm restart can touch. -/
abbrev warmAspects : List Aspect := .link :: .losses :: .cooler :: .access :: .store :: leavingOff

theorem blocksWarm (s : State) : Touches warmAspects s s.blocksWarm :=
  of (fuels := .inr fun c => by simp [State.blocksWarm, State.chan, ChannelController.warm, ChannelRecord.warm])
    (staged := .inr fun c => by simp [State.blocksWarm, State.chan, ChannelController.warm, ChannelRecord.warm])
    (masses := .inr fun c => by simp [State.blocksWarm, State.chan, ChannelController.warm, ChannelRecord.warm])
    (rules := .inr fun e => by simp [State.blocksWarm, AlarmTable.warm])
    (settings := .inr (State.settings_congr
      (fun p => by simp [State.blocksWarm, State.point, PointTable.warm])
      (fun c => by simp [State.blocksWarm, State.chan, ChannelController.warm, ChannelRecord.warm]) rfl rfl rfl
      (fun k => by simp [State.blocksWarm, Cooler.warm, Compartment.warm]) rfl
      (fun e => by simp [State.blocksWarm, AlarmTable.warm]) rfl rfl))

theorem warmRestart (s : State) : Touches warmAspects s s.warmRestart := by
  unfold State.warmRestart
  simp only
  refine Touches.trans ?_ ((resendLocked _).mono)
  refine Touches.trans ?_ ((resendStore _).mono)
  refine Touches.trans ?_ ((resendTripLine _).mono)
  refine Touches.trans ?_ ((resendOverdrawn _).mono)
  refine Touches.trans ?_ ((reconcileAll _).mono)
  exact (blocksWarm s).trans ((reportNotice ..).mono)

theorem ownerWarmRestart : Touches (touchedBy .warmRestart) s (ownerWarmRestart p f s).state := by
  simp only [Machine.ownerWarmRestart, taken]
  exact warmRestart s

/-! ### Lookups -/

theorem ownerReadLot : Touches [] s (ownerReadLot p f s).state :=
  withLot_state (refl _ s) fun _ _ _ => refl _ s

theorem ownerFindLot : Touches [] s (ownerFindLot p f s).state := by
  unfold Machine.ownerFindLot
  repeat' split
  all_goals exact refl _ s

theorem ownerReadQueue : Touches [] s (ownerReadQueue p f s).state := by
  unfold Machine.ownerReadQueue
  split <;> exact refl _ s

theorem ownerReadPoint : Touches [] s (ownerReadPoint p f s).state := by
  unfold Machine.ownerReadPoint
  split <;> exact refl _ s

theorem ownerFindAlarm : Touches [] s (ownerFindAlarm p f s).state := by
  unfold Machine.ownerFindAlarm
  split <;> exact refl _ s

/-- The owner of a kind touches no more than the aspects listed for it. -/
theorem owner (k : Kind) (p : Port) (f : List Byte) (s : State) : Touches (touchedBy k) s (ownerOf k p f s).state := by
  cases k with
  | accessOpen => exact ownerAccessOpen (p := p) (f := f)
  | accessClose => exact ownerAccessClose (p := p) (f := f)
  | setAccessWord => exact ownerSetAccessWord (p := p) (f := f)
  | ackAlarm => exact ownerAckAlarm (p := p) (f := f)
  | ackAll => exact ownerAckAll (p := p) (f := f)
  | shelve => exact ownerShelve (p := p) (f := f)
  | unshelve => exact ownerUnshelve (p := p) (f := f)
  | silence => exact ownerSilence (p := p) (f := f)
  | collectAlarms => exact ownerCollectAlarms (p := p) (f := f)
  | setTripEntry => exact ownerSetTripEntry (p := p) (f := f)
  | setDemand => exact ownerSetDemand (p := p) (f := f)
  | setClCeiling => exact ownerSetClCeiling (p := p) (f := f)
  | setCreditParams => exact ownerSetCreditParams (p := p) (f := f)
  | setDeficitAlarm => exact ownerSetDeficitAlarm (p := p) (f := f)
  | setCompartment => exact ownerSetCompartment (p := p) (f := f)
  | setCompartmentControl => exact ownerSetCompartmentControl (p := p) (f := f)
  | setCoolerConfig => exact ownerSetCoolerConfig (p := p) (f := f)
  | setManualSpeed => exact ownerSetManualSpeed (p := p) (f := f)
  | setManualGrate => exact ownerSetManualGrate (p := p) (f := f)
  | coolerMode => exact ownerCoolerMode (p := p) (f := f)
  | setChannelFuel => exact ownerSetChannelFuel (p := p) (f := f)
  | setLotClLimit => exact ownerSetLotClLimit (p := p) (f := f)
  | setShare => exact ownerSetShare (p := p) (f := f)
  | setFlowLimits => exact ownerSetFlowLimits (p := p) (f := f)
  | setCalibration => exact ownerSetCalibration (p := p) (f := f)
  | startChannel => exact ownerStartChannel (p := p) (f := f)
  | stopChannel => exact ownerStopChannel (p := p) (f := f)
  | emergencyStop => exact ownerEmergencyStop (p := p) (f := f)
  | clearTrip => exact ownerClearTrip (p := p) (f := f)
  | holdChannel => exact ownerHoldChannel (p := p) (f := f)
  | releaseHold => exact ownerReleaseHold (p := p) (f := f)
  | setLinkTimes => exact ownerSetLinkTimes (p := p) (f := f)
  | setStallTime => exact ownerSetStallTime (p := p) (f := f)
  | registerLot => exact ownerRegisterLot (p := p) (f := f)
  | retireLot => exact ownerRetireLot (p := p) (f := f)
  | setAnalysis => exact ownerSetAnalysis (p := p) (f := f)
  | amendMass => exact ownerAmendMass (p := p) (f := f)
  | quarantineLot => exact ownerQuarantineLot (p := p) (f := f)
  | enqueueLot => exact ownerEnqueueLot (p := p) (f := f)
  | dequeueLot => exact ownerDequeueLot (p := p) (f := f)
  | pointUpdate => exact ownerPointUpdate (p := p) (f := f)
  | setLimits => exact ownerSetLimits (p := p) (f := f)
  | setPointConfig => exact ownerSetPointConfig (p := p) (f := f)
  | setProtectMark => exact ownerSetProtectMark (p := p) (f := f)
  | setClock => exact ownerSetClock (p := p) (f := f)
  | setShiftPlan => exact ownerSetShiftPlan (p := p) (f := f)
  | shiftClose => exact ownerShiftClose (p := p) (f := f)
  | releaseShift => exact ownerReleaseShift (p := p) (f := f)
  | correctShift => exact ownerCorrectShift (p := p) (f := f)
  | readShift => exact ownerReadShift (p := p) (f := f)
  | saveSettings => exact ownerSaveSettings (p := p) (f := f)
  | warmRestart => exact ownerWarmRestart (p := p) (f := f)
  | readLot => exact ownerReadLot (p := p) (f := f)
  | findLot => exact ownerFindLot (p := p) (f := f)
  | readQueue => exact ownerReadQueue (p := p) (f := f)
  | readPoint => exact ownerReadPoint (p := p) (f := f)
  | readChannel => exact withChan_state (refl _ s) fun _ => refl _ s
  | readFeeder => exact withChan_state (refl _ s) fun _ => refl _ s
  | readAlarm => exact withAlarm_state (refl _ s) fun _ _ _ => refl _ s
  | findAlarm => exact ownerFindAlarm (p := p) (f := f)
  | readStatus | readLink | readFiring | readCooler | readTripMap | readAlarmTable | readClock | readAccess =>
    exact refl _ s

end Touches

end Sys2Proof.Machine
end

section
/-!
Proofs. What one step is made of: writes of the ports, the queue and the moment, an owner's answer to an accepted
request, and the events of the blocks.  A condition that each of these keeps is kept by every step.
-/
set_option Elab.async false

namespace Sys2Proof.Machine

/-! ### The parts of a step -/

/-- Two states that differ at most in the ports, the queue and the moment. -/
def SamePart (s t : State) : Prop :=
  t = { s with pending := t.pending, control := t.control, panel := t.panel, moment := t.moment }

/-- Two states that differ at most in the ports. -/
def SamePorts (s t : State) : Prop := t = { s with control := t.control, panel := t.panel }

/-- What happens in a step apart from the links and the owners of requests. -/
inductive Event where
  | refresh
  | halt (ph : Phase)
  | start (cause : ResetCause)
  | startUpEnds
  | saveCompletes (held : Bool)
  | age
  | startExpires (c : Chan)
  | lineAsserted
  | lineDeasserted
  | supervisionExpires
  | holdExpires
  | firingPeriod
  | windowBoundary (c : Chan)
  | pulse (c : Chan)
  | stallExpires (c : Chan)
  | trimInterval (c : Chan)
  | coolerPeriod
  | flushExpires
  | shelvingTick
  | shelfEnds (i : SlotNo)
  | shiftSecond
  | closeAccess
deriving DecidableEq

/-- The state an event leaves. -/
def Event.run : Event → State → State
  | .refresh, s => s.refresh
  | .halt ph, s => s.halt ph
  | .start cause, s => s.start cause
  | .startUpEnds, s => s.startUpEnds
  | .saveCompletes held, s => s.saveCompletes held
  | .age, s => s.age
  | .startExpires c, s => s.startExpires c
  | .lineAsserted, s => State.whileRunning State.tripLineTaken { s with tripLine := true }
  | .lineDeasserted, s => State.whileRunning (State.goes (.system .tripIn)) { s with tripLine := false }
  | .supervisionExpires, s => s.supervisionExpires
  | .holdExpires, s => s.holdExpires
  | .firingPeriod, s => s.firingPeriod
  | .windowBoundary c, s => s.windowBoundary c
  | .pulse c, s => s.pulse c
  | .stallExpires c, s => s.stallExpires c
  | .trimInterval c, s => s.trimInterval c
  | .coolerPeriod, s => s.coolerPeriod
  | .flushExpires, s => s.flushExpires
  | .shelvingTick, s => s.shelvingTick
  | .shelfEnds i, s => s.shelfEnds i
  | .shiftSecond, s => s.shiftSecond
  | .closeAccess, s => s.closeAccess

/-- When an event reaches its block. -/
def Event.due : Event → State → Prop
  | .halt ph, _ => ph = .off ∨ ph = .held
  | .start _, s => s.phase = .off ∨ s.phase = .held
  | .startUpEnds, s => s.phase = .startUp
  | .saveCompletes _, _ | .lineAsserted, _ | .lineDeasserted, _ => True
  | .refresh, s | .age, s | .startExpires _, s | .supervisionExpires, s | .holdExpires, s | .firingPeriod, s
  | .windowBoundary _, s | .pulse _, s | .stallExpires _, s | .trimInterval _, s | .coolerPeriod, s
  | .flushExpires, s | .shelvingTick, s | .shelfEnds _, s | .shiftSecond, s | .closeAccess, s =>
    s.phase = .running

/-! ### What an event can touch -/

/-- What a start can touch: everything but the trip line. -/
abbrev startAspects : List Aspect := .phase :: .lots :: .link :: .losses :: .fuels :: .staged :: .masses :: .demands
  :: .cooler :: .rules :: .tallies :: .clock :: .access :: .store :: .settings :: leavingOff

/-- The aspects that an event can touch. -/
def Event.touched : Event → List Aspect
  | .refresh => Touches.endingLoss
  | .halt _ => [.phase, .feeders, .alarms, .store]
  | .start _ => startAspects
  | .startUpEnds => .phase :: .link :: leavingOff
  | .saveCompletes _ => .store :: plainReport
  | .age => reconciling
  | .startExpires _ => [.runs, .flows, .feeders]
  | .lineAsserted => .line :: leavingOff
  | .lineDeasserted => .line :: plainReport
  | .supervisionExpires => .access :: Touches.endingLoss
  | .holdExpires => [.link, .flows, .feeders]
  | .firingPeriod => leavingOff
  | .windowBoundary _ | .trimInterval _ => [.feeders]
  | .pulse _ => Touches.feedAspects
  | .stallExpires _ => plainReport
  | .coolerPeriod | .flushExpires => Touches.coolerReport
  | .shelvingTick | .shelfEnds _ => [.alarms]
  | .shiftSecond => [.shift, .clock, .tallies, .alarms]
  | .closeAccess => [.access]

/-- The state of a link just lost, its channels held, before the hold timer is seen to (R59). -/
def State.lossHeld (s : State) : State :=
  allChans.foldl (fun s c => s.holdForLoss c)
    ((State.setSupervision { s.chc.supervision with link := .lostHold, supervisionTimer := none } s).comesFixed
      (.system .controlLost)).closeAccess

theorem State.linkLost_eq (s : State) : s.linkLost =
    if s.chc.supervision.holdTime = 0 then s.lossHeld.holdRunsOut
    else s.lossHeld.setSupervision
      { s.lossHeld.chc.supervision with holdTimer := some (s.timer s.chc.supervision.holdTime) } := by
  unfold State.linkLost
  extract_lets v lost held
  have h : held = s.lossHeld := by unfold State.lossHeld; rfl
  clear_value held
  subst h
  rfl

namespace Touches

variable {l : List Aspect} {s t : State}

theorem halt (ph : Phase) (s : State) : Touches [.phase, .feeders, .alarms, .store] s (s.halt ph) := of

theorem start (x : ResetCause) (s : State) : Touches startAspects s (s.start x) := by
  unfold State.start
  refine Touches.trans ?_ ((reconcileStore _).mono)
  refine Touches.trans ?_ ((reconcileAll _).mono)
  exact of

theorem startUpEnds (s : State) : Touches (.phase :: .link :: leavingOff) s s.startUpEnds := by
  unfold State.startUpEnds
  have began : Touches (.phase :: .link :: leavingOff) s (State.setSupervision
      { s.chc.supervision with
        link := .live, supervisionTimer := some (s.timer s.chc.supervision.supervisionTime), holdTimer := none }
      { s with phase := .running }) := of
  simp only
  split
  · exact began.trans ((tripLineTaken _).mono)
  · exact began

theorem saveCompletes (b : Bool) (s : State) : Touches (.store :: plainReport) s (s.saveCompletes b) := by
  unfold State.saveCompletes
  split
  · exact refl _ s
  · exact Touches.trans of (reconcileStore _)

theorem staleCheck (p : PointNo) (s : State) : Touches reconciling s (s.staleCheck p) := by
  unfold State.staleCheck
  split
  · exact ((setPoint p _ s).mono).trans (reconcile ..)
  · exact refl _ s

theorem age (s : State) : Touches reconciling s s.age := by
  unfold State.age
  refine Touches.trans ?_ (foldl (fun s p => staleCheck p s) _ _)
  exact of (settings := .inr (State.settings_congr (fun p => by simp [State.point, PointTable.aged, PointRecord.aged])
    (fun _ => rfl) rfl rfl rfl (fun _ => rfl) rfl (fun _ => rfl) rfl rfl))

theorem startExpires (c : Chan) (s : State) : Touches [.runs, .flows, .feeders] s (s.startExpires c) := by
  unfold State.startExpires
  split
  next h => exact enterRunning c s (by simp [h.1])
  next => exact refl _ s

theorem whileRunning {f : State → State} (h : Touches l s (f s)) : Touches l s (s.whileRunning f) := by
  unfold State.whileRunning
  split
  · exact h
  · exact refl _ s

theorem lineAsserted (s : State) : Touches (.line :: leavingOff) s (Event.lineAsserted.run s) :=
  Touches.trans (t := { s with tripLine := true }) of (whileRunning ((tripLineTaken _).mono))

theorem lineDeasserted (s : State) : Touches (.line :: plainReport) s (Event.lineDeasserted.run s) :=
  Touches.trans (t := { s with tripLine := false }) of
    (whileRunning ((goes (.system .tripIn) _).mono))

theorem fallBack (c : Chan) (s : State) : Touches [.flows, .feeders] s (s.fallBack c) := by
  unfold State.fallBack
  simp only
  split
  · exact drive ..
  · exact refl _ s

theorem holdRunsOut (s : State) : Touches [.link, .flows, .feeders] s s.holdRunsOut := by
  unfold State.holdRunsOut
  refine Touches.trans ?_ (foldl (fun s c => (fallBack c s).mono) _ _)
  exact (setSupervision _ s).mono

theorem holdExpires (s : State) : Touches [.link, .flows, .feeders] s s.holdExpires := by
  unfold State.holdExpires
  split
  · exact holdRunsOut s
  · exact refl _ s

theorem lossHeld (s : State) : Touches (.access :: endingLoss) s s.lossHeld := by
  unfold State.lossHeld
  refine Touches.trans ?_ (foldl (fun s c => (holdForLoss c s).mono) _ _)
  refine Touches.trans ?_ ((closeAccess _).mono)
  refine Touches.trans ?_ ((comesFixed (.system .controlLost) _).mono)
  exact (setSupervision _ s).mono

theorem linkLost (s : State) : Touches (.access :: endingLoss) s s.linkLost := by
  rw [State.linkLost_eq]
  split
  · exact (lossHeld s).trans ((holdRunsOut _).mono)
  · exact (lossHeld s).trans ((setHoldTimer _ _).mono)

theorem supervisionExpires (s : State) : Touches (.access :: endingLoss) s s.supervisionExpires := by
  unfold State.supervisionExpires
  split
  · exact linkLost s
  · exact refl _ s

theorem stopEnds (c : Chan) (s : State) : Touches leavingOff s (s.stopEnds c) := by
  unfold State.stopEnds
  split
  · exact enterOff c s
  · exact refl _ s

theorem handPeriod (c : Chan) (v : Nat) (s : State) : Touches [.feeders] s (s.handPeriod c v) := of

theorem takeStages (s : State) : Touches [.flows] s s.takeStages := of

/-- A condition of the firing computation written, and its report. -/
theorem deficitMain (s : State) : Touches plainReport s s.deficitMain := by
  unfold State.deficitMain
  simp only
  split
  · exact Touches.trans of (comesFixed (.firing .heatDeficitMain) _)
  · split
    · exact Touches.trans of (goes (.firing .heatDeficitMain) _)
    · exact of

theorem deficitCalc (s : State) : Touches plainReport s s.deficitCalc := by
  unfold State.deficitCalc
  simp only
  split
  · exact Touches.trans of (comesFixed (.firing .heatDeficitCalc) _)
  · split
    · exact Touches.trans of (goes (.firing .heatDeficitCalc) _)
    · exact of

theorem clLimited (s : State) : Touches plainReport s s.clLimited := by
  unfold State.clLimited
  simp only
  repeat' split
  · exact of
  · exact Touches.trans of (comesFixed (.firing .clLimited) _)
  · exact Touches.trans of (goes (.firing .clLimited) _)
  · exact of
  · exact of

theorem firingPeriod (s : State) : Touches leavingOff s s.firingPeriod := by
  unfold State.firingPeriod
  simp only
  refine Touches.trans ?_ ((clLimited _).mono)
  refine Touches.trans ?_ ((deficitCalc _).mono)
  refine Touches.trans ?_ ((deficitMain _).mono)
  refine Touches.trans ?_ (foldl (fun s c => stopEnds c s) _ _)
  refine Touches.trans ?_ (foldl (fun s c => (handPeriod c _ s).mono) _ _)
  exact (takeStages s).mono

theorem pulse (c : Chan) (s : State) : Touches feedAspects s (s.pulse c) := by
  unfold State.pulse
  have counted : Touches feedAspects s (s.setFeeder c ((s.feeder c).pulsed (s.timer (s.feeder c).stallTime))) :=
    (setFeeder ..).mono
  simp only
  split
  · exact counted
  · unfold State.weigh
    simp only
    split
    · exact counted.trans ((setFeeder ..).mono)
    · exact (counted.trans ((setFeeder ..).mono)).trans (feed ..)

theorem stallExpires (c : Chan) (s : State) : Touches plainReport s (s.stallExpires c) := by
  unfold State.stallExpires State.stalls
  have stopped : Touches plainReport s (s.setFeeder c { s.feeder c with stallWindow := none }) :=
    (setFeeder ..).mono
  split
  · simp only
    split
    · exact ((stopped.trans (trip ..)).trans (comesFixed _ _)).trans (goes _ _)
    · exact stopped
  · exact refl _ s

theorem flushEntry (s : State) : Touches [] s s.flushEntry := of

theorem flushEnd (s : State) : Touches [] s s.flushEnd := of

theorem compartment_config_distribution (a : Nat) (r : Int) (cs : Tbl Compartment 8) (n : Comp) :
    ((distribution a r cs).get n).config = (cs.get n).config := by
  simp only [distribution, Tbl.get_map, Compartment.distributed]
  split <;> rfl

theorem autoTakes_config (v : Nat) (x : Compartment) : (x.autoTakes v).config = x.config := by
  unfold Compartment.autoTakes; split <;> rfl

/-- No output of a cooler period changes a compartment's configuration. -/
theorem outputs_config (m : CoolerMode) (a : Nat) (r : Int) (cs : Tbl Compartment 8) (n : Comp) :
    ((outputs m a r cs).get n).config = (cs.get n).config := by
  have fixed (x : Compartment) : x.fixedTaken.config = x.config := by
    unfold Compartment.fixedTaken; split <;> rfl
  unfold outputs
  rw [Tbl.get_map, fixed]
  cases m with
  | idle | manual => simp [Compartment.flagCleared, autoTakes_config]
  | normal => exact compartment_config_distribution a r cs n
  | held => rfl
  | flush =>
    simp only [Tbl.get_make]
    split
    · rw [autoTakes_config, compartment_config_distribution]
    · exact compartment_config_distribution a r cs n

theorem coolerPeriod (s : State) : Touches coolerReport s s.coolerPeriod := by
  unfold State.coolerPeriod
  have ran : Touches coolerReport s
      (s.setCooler (s.clc.period s.pressuresRead s.coolerReadings (s.timer s.clc.config.flushTime))) :=
    (setCooler _ s (compartments := fun n => by
      simp only [Cooler.period, outputs_config]
      simp [State.pressuresRead])).mono
  simp only
  refine Touches.trans (Touches.trans (Touches.trans ?_ (heldReport _)) (flushReport _)) (airShortReport _)
  split
  · exact ran.trans ((flushEntry _).mono)
  · exact ran

theorem flushExpires (s : State) : Touches coolerReport s s.flushExpires := by
  unfold State.flushExpires State.flushRunsOut
  split
  · simp only
    exact (((setCooler _ s).mono).trans ((flushEnd _).mono)).trans (flushReport _)
  · exact refl _ s

theorem shelvingTick (s : State) : Touches [.alarms] s s.shelvingTick := slotsThenSettle _ s

theorem shelfEnds (i : SlotNo) (s : State) : Touches [.alarms] s (s.shelfEnds i) := by
  unfold State.shelfEnds
  split
  · exact refl _ s
  · split
    · exact slotsThenSettle _ s
    · exact refl _ s

theorem shiftSecond (s : State) : Touches [.shift, .clock, .tallies, .alarms] s s.shiftSecond := by
  have plan : s.sampled.plan = s.sht.plan := by
    unfold State.sampled ShiftUnit.clinkerTaken
    split <;> rfl
  have write (u : ShiftUnit) (t : State) (h : u.plan = t.sht.plan) :
      Touches [.shift, .clock, .tallies, .alarms] t (t.setShift u) :=
    of (settings := .inr (State.settings_congr (fun _ => rfl) (fun _ => rfl) rfl rfl rfl (fun _ => rfl) rfl
      (fun _ => rfl) h rfl))
  unfold State.shiftSecond
  simp only
  split
  · exact write _ s plan
  · have ticked := (write _ s plan).trans (write { s.sampled with clock := some (Clock.next ‹_›) } _ rfl)
    split
    · refine ticked.trans ?_
      unfold State.boundary
      split
      · exact (closeShift _).mono
      · exact write _ _ rfl
    · exact ticked

/-- An event touches no more than the aspects listed for it. -/
theorem event (e : Event) (s : State) : Touches e.touched s (e.run s) := by
  cases e with
  | refresh => exact refresh s
  | halt ph => exact halt ph s
  | start x => exact start x s
  | startUpEnds => exact startUpEnds s
  | saveCompletes b => exact saveCompletes b s
  | age => exact age s
  | startExpires c => exact startExpires c s
  | lineAsserted => exact lineAsserted s
  | lineDeasserted => exact lineDeasserted s
  | supervisionExpires => exact supervisionExpires s
  | holdExpires => exact holdExpires s
  | firingPeriod => exact firingPeriod s
  | windowBoundary c => exact setFeeder ..
  | pulse c => exact pulse c s
  | stallExpires c => exact stallExpires c s
  | trimInterval c => exact setFeeder ..
  | coolerPeriod => exact coolerPeriod s
  | flushExpires => exact flushExpires s
  | shelvingTick => exact shelvingTick s
  | shelfEnds i => exact shelfEnds i s
  | shiftSecond => exact shiftSecond s
  | closeAccess => exact closeAccess s

end Touches

/-- A request that the acceptance checks let through to its owner (R185). -/
structure Accepted (k : Kind) (p : Port) (f : List Byte) (s : State) : Prop where
  running   : s.phase = .running
  permitted : p = .panel → panelMay k = true
  length    : lengthOk k f = true
  notBusy   : busyDuringSave k = true → s.sst.inFlight = none

/-- A condition that the links, every owner and every event keep. -/
structure Inside (P : State → Prop) : Prop where
  ports : ∀ s t, SamePorts s t → P s → P t
  owner : ∀ k p f s, Accepted k p f s → P s → P (ownerOf k p f s).state
  event : ∀ e s, Event.due e s → P s → P (e.run s)

/-- A condition that they keep and that does not read the queue and the moment. -/
structure Kept (P : State → Prop) : Prop where
  ports : ∀ s t, SamePart s t → P s → P t
  owner : ∀ k p f s, Accepted k p f s → P s → P (ownerOf k p f s).state
  event : ∀ e s, Event.due e s → P s → P (e.run s)

/-! ### The writes of the links -/

namespace SamePorts

theorem refl (s : State) : SamePorts s s := rfl

theorem countTaken (p : Port) (s : State) : SamePorts s (s.countTaken p) := by cases p <;> rfl
theorem countBad (p : Port) (s : State) : SamePorts s (s.countBad p) := by cases p <;> rfl
theorem writeControl (r : Response) (s : State) : SamePorts s (s.writeControl r) := rfl
theorem shiftOut (b : List Byte) (s : State) : SamePorts s (s.shiftOut b) := rfl
theorem setReceiver (r : Receiver) (s : State) : SamePorts s (s.setReceiver r) := rfl

theorem panelWait (fr : Frame) (s : State) : SamePorts s (s.panelWait fr) := by
  unfold State.panelWait; split <;> rfl

theorem controlRead (n : Nat) (s : State) : SamePorts s (s.controlRead n) := by
  unfold State.controlRead; split <;> rfl

theorem controlFails (n : Nat) (s : State) : SamePorts s (s.controlFails n) := by
  unfold State.controlFails; split <;> rfl

end SamePorts

namespace SamePart

theorem refl (s : State) : SamePart s s := rfl
theorem after (s : State) : SamePart s s.after := rfl
theorem dequeue (q : List Instr) (s : State) : SamePart s { s with pending := q } := rfl

theorem trans {s t u : State} (a : SamePart s t) (b : SamePart t u) : SamePart s u := by
  unfold SamePart at *
  rw [b, a]

end SamePart

theorem SamePorts.samePart {s t : State} (h : SamePorts s t) : SamePart s t := by
  unfold SamePorts at h
  rw [h]
  rfl

theorem Kept.inside {P : State → Prop} (K : Kept P) : Inside P where
  ports s t same := K.ports s t same.samePart
  owner := K.owner
  event := K.event


theorem State.linked_iff (s : State) : s.linked = true ↔ s.phase = .startUp ∨ s.phase = .running := by
  simp [State.linked]

/-- No owner leaves the phase of the part. -/
theorem owner_phase (k : Kind) (p : Port) (f : List Byte) (s : State) :
    (ownerOf k p f s).state.phase = s.phase :=
  (Touches.owner k p f s).same .phase (by cases k <;> exact of_decide_eq_true rfl)

/-- The checks of R185: refused over the state as it is, or accepted and answered by the owner. -/
theorem accept_cases (k : Kind) (o : Owner) (p : Port) (f : List Byte) {s : State} (linked : s.linked = true) :
    (accept k o p f s).state = s ∨ (Accepted k p f s ∧ accept k o p f s = o p f s) := by
  unfold accept
  split
  next => exact .inl rfl
  next notStarting =>
    split
    next => exact .inl rfl
    next permitted =>
      split
      next => exact .inl rfl
      next length =>
        split
        next => exact .inl rfl
        next notBusy =>
          refine .inr ⟨⟨?_, ?_, by simpa using length, ?_⟩, rfl⟩
          · exact (s.linked_iff.mp linked).resolve_left notStarting
          · intro panel
            by_contra may
            exact permitted ⟨panel, by simpa using may⟩
          · intro busy
            by_contra saving
            exact notBusy ⟨by simpa [Store.saving, Option.isSome_iff_ne_none] using saving, busy⟩

theorem answerRequest_phase (k : Kind) (p : Port) (q : Byte) (f : List Byte) (s : State) :
    (answerRequest k (ownerOf k) p q f s).2.phase = s.phase := by
  have counted : (s.countTaken p).phase = s.phase := by cases p <;> rfl
  show (accept k (ownerOf k) p f (s.countTaken p)).state.phase = s.phase
  unfold accept
  repeat' split
  any_goals exact counted
  rw [owner_phase, counted]

theorem routed_phase (p : Port) (kind q : Byte) (f : List Byte) (s : State) :
    (routed p kind q f s).2.phase = s.phase := by
  unfold routed
  cases Kind.ofCode kind with
  | some k => exact answerRequest_phase k p q f s
  | none =>
    have counted : (s.countTaken p).phase = s.phase := by cases p <;> rfl
    show (acceptUnknown (s.countTaken p)).state.phase = s.phase
    unfold acceptUnknown
    split <;> exact counted

namespace Inside

variable {P : State → Prop} (K : Inside P) {s : State}
include K

/-! ### How a frame is answered -/

theorem answerRequest (k : Kind) (p : Port) (q : Byte) (f : List Byte) (linked : s.linked = true) (h : P s) :
    P (answerRequest k (ownerOf k) p q f s).2 := by
  have counted : P (s.countTaken p) := K.ports _ _ (.countTaken p s) h
  have linked' : (s.countTaken p).linked = true := by cases p <;> exact linked
  show P (accept k (ownerOf k) p f (s.countTaken p)).state
  rcases accept_cases k (ownerOf k) p f linked' with unchanged | ⟨accepted, answered⟩
  · rwa [unchanged]
  · rw [answered]
    exact K.owner k p f _ accepted counted

theorem answerUnknown (p : Port) (kind q : Byte) (h : P s) : P (answerUnknown p kind q s).2 := by
  have counted : P (s.countTaken p) := K.ports _ _ (.countTaken p s) h
  show P (acceptUnknown (s.countTaken p)).state
  unfold acceptUnknown
  split <;> exact counted

theorem routed (p : Port) (kind q : Byte) (f : List Byte) (linked : s.linked = true) (h : P s) :
    P (routed p kind q f s).2 := by
  unfold Machine.routed
  cases Kind.ofCode kind with
  | some k => exact K.answerRequest k p q f linked h
  | none => exact K.answerUnknown p kind q h

/-! ### The ports -/

/-- A frame that arrives on the control port, where its handler keeps the condition. -/
theorem controlArrives (n : Nat) (x : Handler) (phase : (x s).2.phase = s.phase)
    (hx : s.linked = true → P (x s).2) (h : P s) : P (s.controlArrives n x) := by
  unfold State.controlArrives
  split
  next linked =>
    have answered : P (((x s).2.writeControl (x s).1).shiftOut (List.replicate n 0#8)) :=
      K.ports (x s).2 _ rfl (hx linked)
    simp only
    split
    next runs =>
      have running : (x s).2.phase = .running := by simpa [State.runs, phase] using runs
      exact K.event .refresh _ running answered
    next => exact answered
  next => exact h

theorem panelTake (x : Handler) (hx : P (x s).2) : P (s.panelTake x) := K.ports _ _ rfl hx

theorem panelHandOn (fr : Frame) (x : Handler) (hx : P (x s).2) (h : P s) : P (s.panelHandOn fr x) := by
  unfold State.panelHandOn
  split
  · exact K.panelTake x hx
  · exact K.ports _ _ (.panelWait fr s) h

theorem panelArrives (fr : Frame) (x : Handler) (hx : ∀ t : State, t.linked = true → P t → P (x t).2)
    (h : P s) : P (s.panelArrives fr x) := by
  have hunting : P (s.setReceiver .hunt) := K.ports _ _ (.setReceiver .hunt s) h
  unfold State.panelArrives
  split
  next linked => exact K.panelHandOn fr x (hx _ linked hunting) hunting
  next => exact h

theorem panelFails (h : P s) : P s.panelFails := by
  have counted : P ((s.setReceiver .hunt).countBad .panel) :=
    K.ports _ _ (.countBad .panel _) (K.ports _ _ (.setReceiver .hunt s) h)
  unfold State.panelFails
  split
  · exact K.panelHandOn _ answerFailed counted counted
  · exact h

theorem panelFinished (fr : Frame) (h : P s) : P (s.panelFinished fr) := by
  cases fr with
  | failed => exact K.panelFails h
  | checked kind q f => exact K.panelArrives _ _ (fun _ => K.routed .panel kind q f) h

theorem heldHandler (fr : Frame) (linked : s.linked = true) (h : P s) : P (heldHandler fr s).2 := by
  cases fr with
  | failed => exact h
  | checked kind q f => exact K.routed .panel kind q f linked h

theorem transmitEnds (linked : s.linked = true) (h : P s) : P s.transmitEnds := by
  unfold State.transmitEnds
  split
  · exact K.ports _ _ rfl h
  · exact K.panelTake _ (K.heldHandler _ linked (K.ports s _ rfl h))

theorem receiveByte (b : Byte) (h : P s) : P (s.receiveByte b) := by
  unfold State.receiveByte
  split
  · split
    · exact K.ports _ _ (.setReceiver ..) h
    · exact h
  · split
    · exact K.ports _ _ (.setReceiver ..) h
    · exact K.panelFails h
  · split
    · exact K.ports _ _ (.setReceiver ..) h
    · exact K.panelFinished _ h

theorem transfer (bytes : List Byte) (h : P s) : P (s.transfer bytes) := by
  unfold State.transfer
  split
  · exact h
  · split
    · unfold State.writeTransfer
      split
      · exact K.ports _ _ (.controlFails ..) h
      · exact K.controlArrives _ _ (routed_phase ..) (fun linked => K.routed .control _ _ _ linked h) h
    · split
      · exact K.ports _ _ (.controlRead ..) h
      · exact h

/-- A request row of the table, on either port. -/
theorem requestArrives (k : Kind) (p : Port) (q : Byte) (f : List Byte) (h : P s) :
    P (s.requestArrives k (ownerOf k) p q f) := by
  cases p with
  | control => exact K.controlArrives _ _ (answerRequest_phase ..) (fun linked => K.answerRequest k _ q f linked h) h
  | panel => exact K.panelArrives _ _ (fun _ => K.answerRequest k _ q f) h

/-! ### The commands -/

theorem whileRunning {e : Event} (due : s.phase = .running → e.due s) (h : P s) :
    P (s.whileRunning fun s => e.run s) := by
  unfold State.whileRunning
  split
  next runs => exact K.event e s (due (by simpa [State.runs] using runs)) h
  next => exact h

/-- A part that starts: halted in a phase without work, then started. -/
theorem startFrom (ph : Phase) (cause : ResetCause) (dark : ph = .off ∨ ph = .held) (h : P s) :
    P ((s.halt ph).start cause) :=
  K.event (.start cause) _ dark (K.event (.halt ph) s dark h)

/-- Every command ends, and what is kept inside holds of the state it ends in. -/
theorem exec (i : Instr) (h : P s) : ∃ u, Machine.exec i s = finish u ∧ P u := by
  cases i with
  | powerOn => exact ⟨_, rfl, K.startFrom .off .powerOn (.inl rfl) h⟩
  | pinReset =>
    refine ⟨_, rfl, ?_⟩
    split
    · exact K.startFrom .off .powerOn (.inl rfl) h
    · exact K.startFrom .held .pin (.inr rfl) h
  | resetAssert =>
    refine ⟨_, rfl, ?_⟩
    split
    · exact h
    · exact K.event (.halt .held) s (.inr rfl) h
  | powerLoss => exact ⟨_, rfl, K.event (.halt .off) s (.inl rfl) h⟩
  | startUpEnd =>
    refine ⟨_, rfl, ?_⟩
    split
    next starting => exact K.event .startUpEnds s starting h
    next => exact h
  | saveCompletion held => exact ⟨_, rfl, K.event (.saveCompletes held) s trivial h⟩
  | controlBadFrame bytes | ignoredTransfer bytes => exact ⟨_, rfl, K.transfer bytes h⟩
  | controlReadTransfer n => exact ⟨_, rfl, K.ports _ _ (.controlRead n s) h⟩
  | unknownRequest p kind q f =>
    cases p with
    | control =>
      exact ⟨_, rfl, K.controlArrives _ _ (routed_phase ..) (fun linked => K.routed .control kind q f linked h) h⟩
    | panel => exact ⟨_, rfl, K.panelArrives _ _ (fun _ => K.routed .panel kind q f) h⟩
  | panelBadFrame => exact ⟨_, rfl, K.panelFails h⟩
  | panelGapTimeout =>
    refine ⟨_, rfl, ?_⟩
    split
    · exact h
    · exact K.panelFails h
  | panelFrameHold fr => exact ⟨_, rfl, K.panelFinished fr h⟩
  | panelTransmitDone =>
    refine ⟨_, rfl, ?_⟩
    split
    next sending => exact K.transmitEnds sending.1 h
    next => exact h
  | panelReceiverByte b =>
    refine ⟨_, rfl, ?_⟩
    split
    · exact K.receiveByte b h
    · exact h
  | tripLineAssert => exact ⟨_, rfl, K.event .lineAsserted s trivial h⟩
  | tripLineDeassert => exact ⟨_, rfl, K.event .lineDeasserted s trivial h⟩
  | ageingExpiry => exact ⟨_, rfl, K.whileRunning (e := .age) id h⟩
  | startTimerExpiry c => exact ⟨_, rfl, K.whileRunning (e := .startExpires c) id h⟩
  | supervisionExpiry => exact ⟨_, rfl, K.whileRunning (e := .supervisionExpires) id h⟩
  | holdTimerExpiry => exact ⟨_, rfl, K.whileRunning (e := .holdExpires) id h⟩
  | firingPeriodExpiry => exact ⟨_, rfl, K.whileRunning (e := .firingPeriod) id h⟩
  | outputWindowBoundary c => exact ⟨_, rfl, K.whileRunning (e := .windowBoundary c) id h⟩
  | feederPulse c => exact ⟨_, rfl, K.whileRunning (e := .pulse c) id h⟩
  | stallWindowExpiry c => exact ⟨_, rfl, K.whileRunning (e := .stallExpires c) id h⟩
  | trimIntervalExpiry c => exact ⟨_, rfl, K.whileRunning (e := .trimInterval c) id h⟩
  | coolerPeriodExpiry => exact ⟨_, rfl, K.whileRunning (e := .coolerPeriod) id h⟩
  | flushTimerExpiry => exact ⟨_, rfl, K.whileRunning (e := .flushExpires) id h⟩
  | shelvingTimerExpiry => exact ⟨_, rfl, K.whileRunning (e := .shelvingTick) id h⟩
  | shelfTimeExpiry i => exact ⟨_, rfl, K.whileRunning (e := .shelfEnds i) id h⟩
  | shiftTimerExpiry => exact ⟨_, rfl, K.whileRunning (e := .shiftSecond) id h⟩
  | openTimerExpiry => exact ⟨_, rfl, K.whileRunning (e := .closeAccess) id h⟩
  | readStatus p q f => exact ⟨_, rfl, K.requestArrives .readStatus p q f h⟩
  | saveSettings p q f => exact ⟨_, rfl, K.requestArrives .saveSettings p q f h⟩
  | warmRestart p q f => exact ⟨_, rfl, K.requestArrives .warmRestart p q f h⟩
  | readLink p q f => exact ⟨_, rfl, K.requestArrives .readLink p q f h⟩
  | pointUpdate p q f => exact ⟨_, rfl, K.requestArrives .pointUpdate p q f h⟩
  | readPoint p q f => exact ⟨_, rfl, K.requestArrives .readPoint p q f h⟩
  | setLimits p q f => exact ⟨_, rfl, K.requestArrives .setLimits p q f h⟩
  | setPointConfig p q f => exact ⟨_, rfl, K.requestArrives .setPointConfig p q f h⟩
  | setProtectMark p q f => exact ⟨_, rfl, K.requestArrives .setProtectMark p q f h⟩
  | registerLot p q f => exact ⟨_, rfl, K.requestArrives .registerLot p q f h⟩
  | setAnalysis p q f => exact ⟨_, rfl, K.requestArrives .setAnalysis p q f h⟩
  | amendMass p q f => exact ⟨_, rfl, K.requestArrives .amendMass p q f h⟩
  | enqueueLot p q f => exact ⟨_, rfl, K.requestArrives .enqueueLot p q f h⟩
  | dequeueLot p q f => exact ⟨_, rfl, K.requestArrives .dequeueLot p q f h⟩
  | quarantineLot p q f => exact ⟨_, rfl, K.requestArrives .quarantineLot p q f h⟩
  | retireLot p q f => exact ⟨_, rfl, K.requestArrives .retireLot p q f h⟩
  | readLot p q f => exact ⟨_, rfl, K.requestArrives .readLot p q f h⟩
  | findLot p q f => exact ⟨_, rfl, K.requestArrives .findLot p q f h⟩
  | readQueue p q f => exact ⟨_, rfl, K.requestArrives .readQueue p q f h⟩
  | startChannel p q f => exact ⟨_, rfl, K.requestArrives .startChannel p q f h⟩
  | stopChannel p q f => exact ⟨_, rfl, K.requestArrives .stopChannel p q f h⟩
  | holdChannel p q f => exact ⟨_, rfl, K.requestArrives .holdChannel p q f h⟩
  | releaseHold p q f => exact ⟨_, rfl, K.requestArrives .releaseHold p q f h⟩
  | emergencyStop p q f => exact ⟨_, rfl, K.requestArrives .emergencyStop p q f h⟩
  | clearTrip p q f => exact ⟨_, rfl, K.requestArrives .clearTrip p q f h⟩
  | setChannelFuel p q f => exact ⟨_, rfl, K.requestArrives .setChannelFuel p q f h⟩
  | setLotClLimit p q f => exact ⟨_, rfl, K.requestArrives .setLotClLimit p q f h⟩
  | setShare p q f => exact ⟨_, rfl, K.requestArrives .setShare p q f h⟩
  | setFlowLimits p q f => exact ⟨_, rfl, K.requestArrives .setFlowLimits p q f h⟩
  | setCalibration p q f => exact ⟨_, rfl, K.requestArrives .setCalibration p q f h⟩
  | setLinkTimes p q f => exact ⟨_, rfl, K.requestArrives .setLinkTimes p q f h⟩
  | readChannel p q f => exact ⟨_, rfl, K.requestArrives .readChannel p q f h⟩
  | setDemand p q f => exact ⟨_, rfl, K.requestArrives .setDemand p q f h⟩
  | setClCeiling p q f => exact ⟨_, rfl, K.requestArrives .setClCeiling p q f h⟩
  | setCreditParams p q f => exact ⟨_, rfl, K.requestArrives .setCreditParams p q f h⟩
  | setDeficitAlarm p q f => exact ⟨_, rfl, K.requestArrives .setDeficitAlarm p q f h⟩
  | readFiring p q f => exact ⟨_, rfl, K.requestArrives .readFiring p q f h⟩
  | setStallTime p q f => exact ⟨_, rfl, K.requestArrives .setStallTime p q f h⟩
  | readFeeder p q f => exact ⟨_, rfl, K.requestArrives .readFeeder p q f h⟩
  | coolerMode p q f => exact ⟨_, rfl, K.requestArrives .coolerMode p q f h⟩
  | setManualSpeed p q f => exact ⟨_, rfl, K.requestArrives .setManualSpeed p q f h⟩
  | setManualGrate p q f => exact ⟨_, rfl, K.requestArrives .setManualGrate p q f h⟩
  | setCompartment p q f => exact ⟨_, rfl, K.requestArrives .setCompartment p q f h⟩
  | setCompartmentControl p q f => exact ⟨_, rfl, K.requestArrives .setCompartmentControl p q f h⟩
  | setCoolerConfig p q f => exact ⟨_, rfl, K.requestArrives .setCoolerConfig p q f h⟩
  | readCooler p q f => exact ⟨_, rfl, K.requestArrives .readCooler p q f h⟩
  | ackAlarm p q f => exact ⟨_, rfl, K.requestArrives .ackAlarm p q f h⟩
  | ackAll p q f => exact ⟨_, rfl, K.requestArrives .ackAll p q f h⟩
  | shelve p q f => exact ⟨_, rfl, K.requestArrives .shelve p q f h⟩
  | unshelve p q f => exact ⟨_, rfl, K.requestArrives .unshelve p q f h⟩
  | silence p q f => exact ⟨_, rfl, K.requestArrives .silence p q f h⟩
  | collectAlarms p q f => exact ⟨_, rfl, K.requestArrives .collectAlarms p q f h⟩
  | setTripEntry p q f => exact ⟨_, rfl, K.requestArrives .setTripEntry p q f h⟩
  | readTripMap p q f => exact ⟨_, rfl, K.requestArrives .readTripMap p q f h⟩
  | readAlarm p q f => exact ⟨_, rfl, K.requestArrives .readAlarm p q f h⟩
  | findAlarm p q f => exact ⟨_, rfl, K.requestArrives .findAlarm p q f h⟩
  | readAlarmTable p q f => exact ⟨_, rfl, K.requestArrives .readAlarmTable p q f h⟩
  | setClock p q f => exact ⟨_, rfl, K.requestArrives .setClock p q f h⟩
  | setShiftPlan p q f => exact ⟨_, rfl, K.requestArrives .setShiftPlan p q f h⟩
  | shiftClose p q f => exact ⟨_, rfl, K.requestArrives .shiftClose p q f h⟩
  | releaseShift p q f => exact ⟨_, rfl, K.requestArrives .releaseShift p q f h⟩
  | correctShift p q f => exact ⟨_, rfl, K.requestArrives .correctShift p q f h⟩
  | readShift p q f => exact ⟨_, rfl, K.requestArrives .readShift p q f h⟩
  | readClock p q f => exact ⟨_, rfl, K.requestArrives .readClock p q f h⟩
  | accessOpen p q f => exact ⟨_, rfl, K.requestArrives .accessOpen p q f h⟩
  | accessClose p q f => exact ⟨_, rfl, K.requestArrives .accessClose p q f h⟩
  | setAccessWord p q f => exact ⟨_, rfl, K.requestArrives .setAccessWord p q f h⟩
  | readAccess p q f => exact ⟨_, rfl, K.requestArrives .readAccess p q f h⟩

end Inside

/-- A condition that is `Kept` holds after every command. -/
theorem Kept.exec {P : State → Prop} (K : Kept P) {s t : State} (i : Instr) (h : P s) (e : exec i s = .next t) :
    P t := by
  obtain ⟨u, ends, hu⟩ := K.inside.exec i h
  rw [ends] at e
  cases e
  exact K.ports u _ (.after u) hu

/-- A condition that is `Kept` holds after every step. -/
theorem Kept.step {P : State → Prop} (K : Kept P) {s t : State} (h : P s) (e : step s = .next t) : P t := by
  unfold Machine.step at e
  split at e
  · cases e; exact h
  · exact K.exec _ (K.ports s _ (.dequeue _ s) h) e

end Sys2Proof.Machine
end

section
/-!
Proofs. The lockout (R170): `LockoutStaysShut`.
-/
set_option Elab.async false

namespace Sys2Proof.Machine

/-! ### Writes of the access record -/

namespace Access.Sound

variable {x : Access}

/-- An open timer (re)started while access is open: no lockout stands. -/
theorem reopened (h : x.Sound) (isOpen : x.isOpen = true) (t : Timer) (w : BitVec 64) :
    { x with openTimer := some t, word := w }.Sound := by
  have unlocked : x.lockout = false := by
    by_contra locked
    have := (h.locked (by simpa using locked)).1
    simp [Access.isOpen, this] at isOpen
  exact ⟨fun locked => by simp [unlocked] at locked, h.unlocked, h.reported⟩

theorem closed (h : x.Sound) : { x with openTimer := none }.Sound :=
  ⟨fun locked => ⟨rfl, (h.locked locked).2⟩, h.unlocked, h.reported⟩

end Access.Sound

/-- A state whose access record is that of `s`, or that of `s` with its running open timer restarted. -/
def AccessStands (s t : State) : Prop :=
  t.acu = s.acu ∨ s.acu.isOpen = true ∧ ∃ r, t.acu = { s.acu with openTimer := some r }

theorem AccessStands.sound {s t : State} (h : AccessStands s t) (hs : s.acu.Sound) : t.acu.Sound := by
  rcases h with same | ⟨isOpen, r, restarted⟩
  · rwa [same]
  · rw [restarted]; exact hs.reopened isOpen r s.acu.word

theorem AccessStands.restart {l : List Aspect} {s t : State} (h : Touches l s t) (isOpen : ¬ s.acu.isOpen = false)
    (out : .access ∉ l := by exact of_decide_eq_true rfl) : AccessStands s t.startOpenTimer :=
  .inr ⟨by simpa using isOpen, t.timer Config.openTime, by rw [State.startOpenTimer, h.access out]⟩

/-! ### The owners that restart the open timer -/

section restarting
variable {p : Port} {f : List Byte} {s : State}

theorem accessStands_setTripEntry : AccessStands s (ownerSetTripEntry p f s).state := by
  unfold ownerSetTripEntry
  split
  · exact .inl rfl
  next isOpen =>
    split
    · exact .restart (.replaceEntry ..) isOpen
    · exact .inl rfl

theorem accessStands_setClCeiling : AccessStands s (ownerSetClCeiling p f s).state := by
  unfold ownerSetClCeiling
  simp only
  split
  · exact .inl rfl
  next isOpen =>
    split
    · exact .inl rfl
    · exact .restart (l := [.settings]) .of isOpen

theorem accessStands_setCreditParams : AccessStands s (ownerSetCreditParams p f s).state := by
  unfold ownerSetCreditParams
  split
  · exact .inl rfl
  next isOpen =>
    split
    · exact .inl rfl
    · exact .restart (l := [.settings]) .of isOpen

theorem accessStands_setChannelFuel : AccessStands s (ownerSetChannelFuel p f s).state := by
  refine withChan_state (.inl rfl) fun c => ?_
  split
  · exact .inl rfl
  next isOpen =>
    repeat' split
    any_goals exact .inl rfl
    exact .restart (l := [.fuels, .settings]) (.setChan c _ s) isOpen

theorem accessStands_setLotClLimit : AccessStands s (ownerSetLotClLimit p f s).state := by
  refine withChan_state (.inl rfl) fun c => ?_
  split
  · exact .inl rfl
  next isOpen =>
    split
    · exact .inl rfl
    · exact .restart (l := [.fuels, .settings]) (.setChan c _ s) isOpen

theorem accessStands_setFlowLimits : AccessStands s (ownerSetFlowLimits p f s).state := by
  refine withChan_state (.inl rfl) fun c => ?_
  simp only
  split
  · exact .inl rfl
  next isOpen =>
    repeat' split
    any_goals exact .inl rfl
    exact .restart (.writeLimitsHalf ..) isOpen

theorem accessStands_setCalibration : AccessStands s (ownerSetCalibration p f s).state := by
  refine withChan_state (.inl rfl) fun c => ?_
  simp only
  split
  · exact .inl rfl
  next isOpen =>
    split
    · exact .inl rfl
    · exact .restart (.writeCalibrationHalf ..) isOpen

theorem accessStands_setLimits : AccessStands s (ownerSetLimits p f s).state := by
  unfold ownerSetLimits
  split
  · exact .inl rfl
  next n _ =>
    simp only
    split
    · exact .inl rfl
    next granted =>
      repeat' split
      any_goals exact .inl rfl
      unfold State.writeLimits taken
      simp only
      split
      next protect => exact .restart (.configurePoint ..) fun closed => granted ⟨protect, closed⟩
      next => exact .inl (Touches.configurePoint ..).access

theorem accessStands_setProtectMark : AccessStands s (ownerSetProtectMark p f s).state := by
  unfold ownerSetProtectMark
  repeat' split
  any_goals exact .inl rfl
  next isOpen => exact .restart (l := [.points, .settings]) .of isOpen

end restarting

/-! ### The owners of the access unit, and the warm restart -/

section unit
variable {p : Port} {f : List Byte} {s : State}

theorem lockOut_acu (s : State) : s.lockOut.acu =
    { s.acu with mismatches := Config.mismatchLimit, lockout := true, reportedLocked := true, openTimer := none } :=
  (Touches.comesFixed (.system .accessLocked) _).access

theorem accessOpen_sound (h : s.acu.Sound) : (ownerAccessOpen p f s).state.acu.Sound := by
  unfold ownerAccessOpen
  split
  · exact h
  next unlocked =>
    split
    · exact ⟨fun locked => absurd locked unlocked, fun _ => (by decide : 0 < Config.mismatchLimit), h.reported⟩
    · split
      next below => exact ⟨fun locked => absurd locked unlocked, fun _ => below, h.reported⟩
      next =>
        show s.lockOut.acu.Sound
        rw [lockOut_acu]
        exact ⟨fun _ => ⟨rfl, rfl⟩, nofun, rfl⟩

theorem setAccessWord_sound (h : s.acu.Sound) : (ownerSetAccessWord p f s).state.acu.Sound := by
  unfold ownerSetAccessWord
  split
  · exact h
  next isOpen => exact h.reopened (by simpa using isOpen) _ _

theorem blocksWarm_thenResent_acu (s : State) : s.warmRestart.acu =
    { s.acu with openTimer := none, reportedLocked := s.acu.lockout } := by
  have resent : ∀ t : State, t.resendLocked.acu =
      { t.acu with reportedLocked := t.acu.lockout || t.acu.reportedLocked } := by
    intro t
    unfold State.resendLocked
    split
    next locked =>
      rw [(Touches.comesFixed (.system .accessLocked) _).access]
      simp [locked]
    next unlocked => rw [Bool.not_eq_true] at unlocked; rw [unlocked, Bool.false_or]
  have before : ((s.blocksWarm.reportNotice s.sht.reportDue).reconcileAll.resendOverdrawn.resendTripLine.resendStore).acu
      = s.acu.warm := by
    rw [(Touches.resendStore _).access, (Touches.resendTripLine _).access, (Touches.resendOverdrawn _).access,
      (Touches.reconcileAll _).access]
    rfl
  unfold State.warmRestart
  simp only
  rw [resent, before]
  simp [Access.warm]

theorem warmRestart_sound (h : s.acu.Sound) : s.warmRestart.acu.Sound := by
  rw [blocksWarm_thenResent_acu]
  exact ⟨fun locked => ⟨rfl, (h.locked locked).2⟩, h.unlocked, rfl⟩

end unit

theorem start_acu (x : ResetCause) (s : State) : (s.start x).acu = .start s.sst.image.settings := by
  unfold State.start
  rw [(Touches.reconcileStore _).access, (Touches.reconcileAll _).access]
  rfl

theorem linkLost_acu (s : State) : s.linkLost.acu = { s.acu with openTimer := none } := by
  have lost : s.lossHeld.acu = { s.acu with openTimer := none } := by
    unfold State.lossHeld
    rw [(Touches.foldl (l := [.losses, .runs]) (fun s c => .holdForLoss c s) _ _).access]
    rw [State.closeAccess, (Touches.comesFixed (.system .controlLost) _).access]
    rfl
  rw [State.linkLost_eq]
  split
  · rw [(Touches.holdRunsOut _).access, lost]
  · rw [State.setSupervision_acu, lost]

theorem kept_accessSound : Kept fun s => s.acu.Sound where
  ports s t same h := by rw [same]; exact h
  owner k p f s _ h := by
    have untouched (out : .access ∉ touchedBy k) : (ownerOf k p f s).state.acu.Sound :=
      ((Touches.owner k p f s).access out).symm ▸ h
    cases k with
    | accessOpen => exact accessOpen_sound (p := p) h
    | accessClose =>
      show (ownerAccessClose p f s).state.acu.Sound
      unfold ownerAccessClose
      split
      · exact h.closed
      · exact h
    | setAccessWord => exact setAccessWord_sound (p := p) h
    | setTripEntry => exact (accessStands_setTripEntry (p := p) (f := f)).sound h
    | setClCeiling => exact (accessStands_setClCeiling (p := p) (f := f)).sound h
    | setCreditParams => exact (accessStands_setCreditParams (p := p) (f := f)).sound h
    | setChannelFuel => exact (accessStands_setChannelFuel (p := p) (f := f)).sound h
    | setLotClLimit => exact (accessStands_setLotClLimit (p := p) (f := f)).sound h
    | setFlowLimits => exact (accessStands_setFlowLimits (p := p) (f := f)).sound h
    | setCalibration => exact (accessStands_setCalibration (p := p) (f := f)).sound h
    | setLimits => exact (accessStands_setLimits (p := p) (f := f)).sound h
    | setProtectMark => exact (accessStands_setProtectMark (p := p) (f := f)).sound h
    | warmRestart =>
      show (ownerWarmRestart p f s).state.acu.Sound
      simp only [ownerWarmRestart, taken]
      exact warmRestart_sound h
    | _ => exact untouched (of_decide_eq_true rfl)
  event e s _ h := by
    have untouched (out : .access ∉ e.touched) : (e.run s).acu.Sound :=
      ((Touches.event e s).access out).symm ▸ h
    cases e with
    | start x => rw [Event.run, start_acu]; exact ⟨nofun, fun _ => (by decide : 0 < Config.mismatchLimit), rfl⟩
    | supervisionExpires =>
      show s.supervisionExpires.acu.Sound
      unfold State.supervisionExpires
      split
      · rw [linkLost_acu]; exact h.closed
      · exact h
    | closeAccess => exact h.closed
    | _ => exact untouched (of_decide_eq_true rfl)

/-- Settles O58: a lockout stands with the open timer stopped, and only a running timer is ever restarted. -/
theorem lockoutStaysShut : Obligations.LockoutStaysShut :=
  fun _ _ sound stepped => kept_accessSound.step sound stepped

end Sys2Proof.Machine
end

section
/-!
Proofs. What the queue, the panel port and a save in flight see of a step: `StepRunsTheFrontCommand`,
`CommandsKeepTheQueue`, `RequestsReachTheirOwner`, `PanelChangesNoSetting`, `SaveWritesTheSettingsInForce`.
-/
set_option Elab.async false

namespace Sys2Proof.Machine

/-- Settles O1: both sides are the definition of a step. -/
theorem stepRunsTheFrontCommand : Obligations.StepRunsTheFrontCommand :=
  ⟨fun _ _ _ => rfl, fun s idle => by unfold step; rw [idle]⟩

/-- Settles O2: no write of the ports, no owner and no event touches the queue or the count of commands. -/
theorem commandsKeepTheQueue : Obligations.CommandsKeepTheQueue := by
  intro i s
  have inside : Inside fun t => t.pending = s.pending ∧ t.moment = s.moment :=
    { ports := fun u t same h => by rw [same]; exact h
      owner := fun k p f u _ h => by
        have kept := (Touches.owner k p f u).queue (by cases k <;> exact of_decide_eq_true rfl)
        exact ⟨kept.1.trans h.1, kept.2.trans h.2⟩
      event := fun e u _ h => by
        have kept := (Touches.event e u).queue (by cases e <;> exact of_decide_eq_true rfl)
        exact ⟨kept.1.trans h.1, kept.2.trans h.2⟩ }
  obtain ⟨u, ends, pending, moment⟩ := inside.exec i ⟨rfl, rfl⟩
  exact ⟨_, ends, pending, congrArg (· + 1) moment⟩

/-! ### A request that is ready -/

/-- A request that is `Ready` leaves its owner's reply, delivered. -/
theorem exec_instr_of_ready {k : Kind} {p : Port} {f : List Byte} {s : State} (h : Ready k p f s) (q : Byte) :
    exec (k.instr p q f) s = .next (delivered k p q f (ownerOf k p f (s.taking p))) := by
  cases k <;> exact finish_requestArrives h _ q

/-- Settles O3: each kind's row is the arrival of a request with that kind's owner. -/
theorem requestsReachTheirOwner : Obligations.RequestsReachTheirOwner :=
  fun _ _ q _ _ ready => exec_instr_of_ready ready q

theorem exec_instr (k : Kind) (p : Port) (q : Byte) (f : List Byte) (s : State) :
    exec (k.instr p q f) s = finish (s.requestArrives k (ownerOf k) p q f) := by
  cases k <;> rfl

/-! ### The panel port -/

/-- A request on the panel port changes ports alone, or is accepted and leaves its owner's state, ports apart. -/
theorem panel_request_cases (k : Kind) (q : Byte) (f : List Byte) (s : State) :
    SamePart s (s.requestArrives k (ownerOf k) .panel q f)
    ∨ ∃ u, SamePart s u ∧ Accepted k .panel f u
        ∧ SamePart (ownerOf k .panel f u).state (s.requestArrives k (ownerOf k) .panel q f) := by
  show SamePart s (s.panelArrives _ _) ∨ ∃ u, _ ∧ _ ∧ SamePart _ (s.panelArrives _ _)
  unfold State.panelArrives
  split
  next linked =>
    unfold State.panelHandOn
    split
    · have same : SamePart s ((s.setReceiver .hunt).countTaken .panel) := rfl
      have taken : SamePart (accept k (ownerOf k) .panel f ((s.setReceiver .hunt).countTaken .panel)).state
          ((s.setReceiver .hunt).panelTake (answerRequest k (ownerOf k) .panel q f)) := rfl
      rcases accept_cases k (ownerOf k) .panel f (s := (s.setReceiver .hunt).countTaken .panel) linked with
        unchanged | ⟨accepted, answered⟩
      · rw [unchanged] at taken
        exact .inl (same.trans taken)
      · rw [answered] at taken
        exact .inr ⟨_, same, accepted, taken⟩
    · exact .inl (.trans (SamePorts.setReceiver .hunt s).samePart (SamePorts.panelWait _ _).samePart)
  next => exact .inl (.refl s)

/-- What R186 keeps from the panel port. -/
def PanelKeeps (s t : State) : Prop :=
  t.settings = s.settings ∧ t.acu = s.acu ∧ t.lrg = s.lrg ∧ t.sst = s.sst
    ∧ t.fsc.demandMain = s.fsc.demandMain ∧ t.fsc.demandCalc = s.fsc.demandCalc
    ∧ t.sht.clock = s.sht.clock ∧ t.chc.supervision = s.chc.supervision

theorem SamePart.panelKeeps {s t : State} (h : SamePart s t) : PanelKeeps s t := by
  rw [h]; exact ⟨rfl, rfl, rfl, rfl, rfl, rfl, rfl, rfl⟩

theorem Touches.panelKeeps {l : List Aspect} {s t : State} (h : Touches l s t)
    (out : [Aspect.settings, .access, .lots, .store, .demands, .clock, .link].all (fun a => !l.contains a) = true) :
    PanelKeeps s t := by
  have away {a : Aspect} (ha : a ∈ [Aspect.settings, .access, .lots, .store, .demands, .clock, .link]) : a ∉ l := by
    have := List.all_eq_true.mp out a ha
    simpa using this
  have demands := h.demands (away (by simp))
  exact ⟨h.settings (away (by simp)), h.access (away (by simp)), h.lots (away (by simp)), h.store (away (by simp)),
    demands.1, demands.2, h.clock (away (by simp)), h.link (away (by simp))⟩

theorem PanelKeeps.trans {s t u : State} (a : PanelKeeps s t) (b : PanelKeeps t u) : PanelKeeps s u := by
  obtain ⟨a1, a2, a3, a4, a5, a6, a7, a8⟩ := a
  obtain ⟨b1, b2, b3, b4, b5, b6, b7, b8⟩ := b
  exact ⟨b1.trans a1, b2.trans a2, b3.trans a3, b4.trans a4, b5.trans a5, b6.trans a6, b7.trans a7, b8.trans a8⟩

/-- No owner of a kind that the panel may send touches what R186 keeps from it. -/
theorem owner_panelKeeps {k : Kind} (may : panelMay k = true) (p : Port) (f : List Byte) (s : State) :
    PanelKeeps s (ownerOf k p f s).state := by
  refine (Touches.owner k p f s).panelKeeps ?_
  cases k <;> first | rfl | exact absurd may Bool.false_ne_true

/-- Settles O60: a panel request that is accepted is of a kind whose owner touches none of these. -/
theorem panelChangesNoSetting : Obligations.PanelChangesNoSetting := by
  intro k q f s t run
  rw [exec_instr, finish_eq] at run
  cases run
  have after := (SamePart.after (s.requestArrives k (ownerOf k) .panel q f)).panelKeeps
  refine PanelKeeps.trans ?_ after
  rcases panel_request_cases k q f s with same | ⟨u, before, accepted, same⟩
  · exact same.panelKeeps
  · exact (before.panelKeeps.trans (owner_panelKeeps (accepted.permitted rfl) _ f u)).trans same.panelKeeps

/-! ### A save in flight -/

/-- An owner that may change a setting waits while a save is in flight. -/
theorem owner_keepsSettings_or_busy (k : Kind) : .settings ∉ touchedBy k ∨ busyDuringSave k = true := by
  cases k <;> first | exact .inr rfl | exact .inl (of_decide_eq_true rfl)

theorem saveHolds_of_same {s t : State} (settings : t.settings = s.settings) (saving : t.sst.inFlight = s.sst.inFlight)
    (h : s.SaveHolds) : t.SaveHolds := fun st e => by
  rw [settings]; exact h st (saving ▸ e)

theorem saveHolds_of_idle {s : State} (idle : s.sst.inFlight = none) : s.SaveHolds := fun st e => by
  rw [idle] at e; cases e

theorem reconcileStore_inFlight (s : State) : s.reconcileStore.sst.inFlight = s.sst.inFlight := by
  unfold State.reconcileStore
  simp only
  repeat' split
  · rfl
  · rw [(Touches.goes (.system .storeFault) _).store]
  · rw [(Touches.comesFixed (.system .storeFault) _).store]

theorem resendStore_inFlight (s : State) : s.resendStore.sst.inFlight = s.sst.inFlight :=
  reconcileStore_inFlight { s with sst := { s.sst with reportedFault := false } }

theorem warmRestart_inFlight (s : State) : s.warmRestart.sst.inFlight = s.sst.inFlight := by
  unfold State.warmRestart
  simp only
  rw [(Touches.resendLocked _).store, resendStore_inFlight, (Touches.resendTripLine _).store, (Touches.resendOverdrawn _).store, (Touches.reconcileAll _).store]
  rfl

theorem saveCompletes_inFlight (b : Bool) (s : State) : (s.saveCompletes b).sst.inFlight = none := by
  unfold State.saveCompletes
  split
  next idle => exact idle
  next => rw [reconcileStore_inFlight]; rfl

theorem start_inFlight (x : ResetCause) (s : State) : (s.start x).sst.inFlight = none := by
  unfold State.start
  rw [reconcileStore_inFlight, (Touches.reconcileAll _).store]
  rfl

theorem kept_saveHolds : Kept State.SaveHolds where
  ports s t same h := saveHolds_of_same (by rw [same]; rfl) (by rw [same]) h
  owner k p f s accepted h := by
    rcases owner_keepsSettings_or_busy k with keeps | busy
    · have settings := (Touches.owner k p f s).settings keeps
      have untouched (out : .store ∉ touchedBy k) : State.SaveHolds (ownerOf k p f s).state :=
        saveHolds_of_same settings (by rw [(Touches.owner k p f s).store out]) h
      cases k with
      | saveSettings => exact fun st e => (Option.some.inj e).symm
      | warmRestart =>
        refine saveHolds_of_same settings ?_ h
        simp only [ownerOf, ownerWarmRestart, taken]
        exact warmRestart_inFlight s
      | _ => exact untouched (of_decide_eq_true rfl)
    · have idle := accepted.notBusy busy
      have untouched (out : .store ∉ touchedBy k) : State.SaveHolds (ownerOf k p f s).state :=
        saveHolds_of_idle (by rw [(Touches.owner k p f s).store out, idle])
      cases k with
      | saveSettings => exact fun st e => (Option.some.inj e).symm
      | warmRestart =>
        refine saveHolds_of_idle ?_
        simp only [ownerOf, ownerWarmRestart, taken]
        rw [warmRestart_inFlight, idle]
      | _ => exact untouched (of_decide_eq_true rfl)
  event e s _ h := by
    have untouched (out : .store ∉ e.touched) (out' : .settings ∉ e.touched) : (e.run s).SaveHolds :=
      saveHolds_of_same ((Touches.event e s).settings out') (by rw [(Touches.event e s).store out]) h
    cases e with
    | halt ph => exact saveHolds_of_idle rfl
    | start x => exact saveHolds_of_idle (s := s.start x) (start_inFlight x s)
    | saveCompletes b => exact saveHolds_of_idle (s := s.saveCompletes b) (saveCompletes_inFlight b s)
    | _ => exact untouched (of_decide_eq_true rfl) (of_decide_eq_true rfl)

/-- Settles O59: a request that may change a setting is refused while a save is in flight. -/
theorem saveWritesTheSettingsInForce : Obligations.SaveWritesTheSettingsInForce :=
  fun _ _ holds stepped => kept_saveHolds.step holds stepped

end Sys2Proof.Machine
end

section
/-!
Proofs. The control link's timers and holds (R58 to R61): `LinkStateStaysRight`.
-/
set_option Elab.async false

namespace Sys2Proof.Machine

/-! ### What a loss, its end and a restart leave of the supervision -/

theorem lossHeld_supervision (s : State) : s.lossHeld.chc.supervision =
    { s.chc.supervision with link := .lostHold, supervisionTimer := none } := by
  unfold State.lossHeld
  rw [(Touches.foldl (l := [.losses, .runs]) (fun s c => .holdForLoss c s) _ _).link]
  exact (Touches.comesFixed (.system .controlLost) _).link

theorem holdRunsOut_supervision (s : State) : s.holdRunsOut.chc.supervision =
    { s.chc.supervision with link := .lostFallback, holdTimer := none } := by
  unfold State.holdRunsOut
  rw [(Touches.foldl (l := [.flows, .feeders]) (fun s c => .fallBack c s) _ _).link]
  rfl

theorem linkLost_supervision (s : State) : s.linkLost.chc.supervision =
    if s.chc.supervision.holdTime = 0 then
      { s.chc.supervision with link := .lostFallback, supervisionTimer := none, holdTimer := none }
    else
      { s.chc.supervision with
        link := .lostHold, supervisionTimer := none, holdTimer := some (s.timer s.chc.supervision.holdTime) } := by
  rw [State.linkLost_eq]
  split
  · rw [holdRunsOut_supervision, lossHeld_supervision]
  · rw [State.setSupervision_supervision, lossHeld_supervision]

/-- The state at the end of a loss, before its channels run again (R61). -/
theorem endLoss_supervision (s : State) : s.endLoss.chc.supervision =
    { s.chc.supervision with
      link := .live, holdTimer := none, supervisionTimer := some (s.timer s.chc.supervision.supervisionTime) } := by
  unfold State.endLoss
  simp only
  rw [(Touches.foldl (l := [.runs, .flows, .feeders]) (fun s c => .resume c s) _ _).link,
    (Touches.goes (.system .controlLost) _).link, (Touches.foldl (l := [.losses]) (fun s c => .clearLoss c s) _ _).link]
  rfl

@[simp] theorem mem_allChans (c : Chan) : c ∈ allChans := List.mem_finRange c

theorem foldl_clearLoss_chan (l : List Chan) (s : State) (c : Chan) :
    (l.foldl (fun s c => s.clearLoss c) s).chan c =
      if c ∈ l then { s.chan c with holds := { (s.chan c).holds with controlLost := false } } else s.chan c := by
  induction l generalizing s with
  | nil => rfl
  | cons d l ih =>
    rw [List.foldl_cons, ih, State.clearLoss, State.setChan_chan]
    by_cases e : c = d <;> by_cases m : c ∈ l <;> simp_all

theorem endLoss_losses (s : State) (c : Chan) : (s.endLoss.chan c).holds.controlLost = false := by
  unfold State.endLoss
  simp only
  rw [(Touches.foldl (l := [.runs, .flows, .feeders]) (fun s c => .resume c s) _ _).losses,
    (Touches.goes (.system .controlLost) _).losses, foldl_clearLoss_chan, if_pos (mem_allChans c)]

theorem startUpEnds_supervision (s : State) : s.startUpEnds.chc.supervision =
    { s.chc.supervision with
      link := .live, supervisionTimer := some (s.timer s.chc.supervision.supervisionTime), holdTimer := none } := by
  unfold State.startUpEnds
  simp only
  split
  · rw [(Touches.tripLineTaken _).link]; rfl
  · rfl

theorem start_supervision (x : ResetCause) (s : State) :
    (s.start x).chc.supervision = (ChannelController.start s.sst.image.settings).supervision := by
  unfold State.start
  rw [(Touches.reconcileStore _).link, (Touches.reconcileAll _).link]
  rfl

theorem start_chan_losses (x : ResetCause) (s : State) (c : Chan) :
    ((s.start x).chan c).holds.controlLost = false := by
  unfold State.start
  rw [(Touches.reconcileStore _).losses, (Touches.reconcileAll _).losses]
  simp [State.fresh, State.chan, ChannelController.start, ChannelRecord.start, HoldCauses.empty]

/-- Nothing that a warm restart re-sends touches what only the blocks' own restart writes. -/
theorem warmRestart_resent (s : State) :
    Touches (.access :: .store :: leavingOff) s.blocksWarm s.warmRestart := by
  unfold State.warmRestart
  simp only
  refine Touches.trans ?_ ((Touches.resendLocked _).mono)
  refine Touches.trans ?_ ((Touches.resendStore _).mono)
  refine Touches.trans ?_ ((Touches.resendTripLine _).mono)
  refine Touches.trans ?_ ((Touches.resendOverdrawn _).mono)
  refine Touches.trans ?_ ((Touches.reconcileAll _).mono)
  exact (Touches.reportNotice ..).mono

/-! ### The invariant -/

theorem LinkAgrees_of_same {s t : State} (phase : t.phase = s.phase) (link : t.chc.supervision = s.chc.supervision)
    (losses : Aspect.losses.same s t) (h : s.LinkAgrees) : t.LinkAgrees where
  starting e := by rw [link]; exact h.starting (phase ▸ e)
  supervised e := by rw [link]; exact h.supervised (phase ▸ e)
  holding := by rw [link]; exact h.holding
  released e c := by rw [losses c]; exact h.released (link ▸ e) c

/-- A live link, its supervision timer running, the hold timer stopped, no channel held for a loss. -/
theorem linkAgrees_live {s : State} {v : Supervision} {x : Timer}
    (link : s.chc.supervision = { v with link := .live, supervisionTimer := some x, holdTimer := none })
    (losses : ∀ c, (s.chan c).holds.controlLost = false) : s.LinkAgrees where
  starting _ := by rw [link]
  supervised _ := by rw [link]; exact iff_of_true rfl rfl
  holding := by rw [link]; exact iff_of_false nofun nofun
  released _ := losses

theorem linkAgrees_setLinkTimes {p : Port} {f : List Byte} {s : State} (h : s.LinkAgrees) :
    (ownerSetLinkTimes p f s).state.LinkAgrees := by
  unfold ownerSetLinkTimes
  split
  · exact h
  · exact ⟨h.starting, h.supervised, h.holding, h.released⟩

theorem linkAgrees_warmRestart (s : State) : s.warmRestart.LinkAgrees := by
  have resent := warmRestart_resent s
  refine linkAgrees_live (v := s.chc.supervision) resent.link fun c => ?_
  rw [resent.losses]
  simp [State.blocksWarm, State.chan, ChannelController.warm, ChannelRecord.warm, HoldCauses.empty]

theorem linkAgrees_refresh {s : State} (h : s.LinkAgrees) : s.refresh.LinkAgrees := by
  unfold State.refresh
  split
  next live =>
    have stopped : s.chc.supervision.holdTimer = none := by
      have := h.holding
      simpa [live] using this
    refine linkAgrees_live (v := s.chc.supervision) (x := s.timer s.chc.supervision.supervisionTime) ?_ (h.released live)
    rw [State.setSupervision_supervision, ← live, ← stopped]
  all_goals exact linkAgrees_live (endLoss_supervision s) (endLoss_losses s)

theorem linkAgrees_halt {ph : Phase} (dark : ph = .off ∨ ph = .held) {s : State} (h : s.LinkAgrees) :
    (s.halt ph).LinkAgrees where
  starting e := by rcases dark with rfl | rfl <;> cases e
  supervised e := by rcases dark with rfl | rfl <;> cases e
  holding := h.holding
  released := h.released

theorem start_phase (x : ResetCause) (s : State) : (s.start x).phase = .startUp := by
  unfold State.start
  rw [(Touches.reconcileStore _).phase, (Touches.reconcileAll _).phase]
  rfl

theorem linkAgrees_start (x : ResetCause) (s : State) : (s.start x).LinkAgrees where
  starting _ := by rw [start_supervision]; rfl
  supervised e := by rw [start_phase] at e; cases e
  holding := by rw [start_supervision]; exact iff_of_false nofun nofun
  released _ := start_chan_losses x s

theorem linkAgrees_startUpEnds {s : State} (starting : s.phase = .startUp) (h : s.LinkAgrees) :
    s.startUpEnds.LinkAgrees :=
  linkAgrees_live (startUpEnds_supervision s) fun c => by
    rw [(Touches.startUpEnds s).losses]; exact h.released (h.starting starting) c

theorem linkAgrees_linkLost {s : State} (running : s.phase = .running) : s.linkLost.LinkAgrees := by
  have phase : s.linkLost.phase = .running := (Touches.linkLost s).phase.trans running
  have lost := linkLost_supervision s
  constructor
  · intro e; rw [phase] at e; cases e
  · intro _; rw [lost]; split <;> exact iff_of_false nofun nofun
  · rw [lost]
    split
    · exact iff_of_false nofun nofun
    · exact iff_of_true rfl rfl
  · intro e; rw [lost] at e; split at e <;> cases e

theorem linkAgrees_holdRunsOut {s : State} (running : s.phase = .running) (lost : s.chc.supervision.link ≠ .live)
    (h : s.LinkAgrees) : s.holdRunsOut.LinkAgrees := by
  have phase : s.holdRunsOut.phase = .running := (Touches.holdRunsOut s).phase.trans running
  have out := holdRunsOut_supervision s
  constructor
  · intro e; rw [phase] at e; cases e
  · intro _
    rw [out]
    have stopped : s.chc.supervision.supervisionTimer.isSome = false := by
      simpa [lost] using h.supervised running
    exact iff_of_false (by simp [stopped]) nofun
  · rw [out]; exact iff_of_false nofun nofun
  · intro e; rw [out] at e; cases e

theorem kept_linkAgrees : Kept State.LinkAgrees where
  ports s t same h := LinkAgrees_of_same (by rw [same]) (by rw [same]) (fun _ => by rw [same]; rfl) h
  owner k p f s _ h := by
    have untouched (phase : .phase ∉ touchedBy k) (link : .link ∉ touchedBy k) (losses : .losses ∉ touchedBy k) :
        State.LinkAgrees (ownerOf k p f s).state :=
      have touches := Touches.owner k p f s
      LinkAgrees_of_same (touches.phase phase) (touches.link link) (touches.losses losses) h
    cases k with
    | setLinkTimes => exact linkAgrees_setLinkTimes (p := p) h
    | warmRestart =>
      simp only [ownerOf, ownerWarmRestart, taken]
      exact linkAgrees_warmRestart s
    | _ => exact untouched (of_decide_eq_true rfl) (of_decide_eq_true rfl) (of_decide_eq_true rfl)
  event e s due h := by
    have untouched (phase : .phase ∉ e.touched) (link : .link ∉ e.touched) (losses : .losses ∉ e.touched) :
        State.LinkAgrees (e.run s) :=
      have touches := Touches.event e s
      LinkAgrees_of_same (touches.phase phase) (touches.link link) (touches.losses losses) h
    cases e with
    | refresh => exact linkAgrees_refresh h
    | halt ph => exact linkAgrees_halt due h
    | start x => exact linkAgrees_start x s
    | startUpEnds => exact linkAgrees_startUpEnds due h
    | supervisionExpires =>
      show s.supervisionExpires.LinkAgrees
      unfold State.supervisionExpires
      split
      · exact linkAgrees_linkLost due
      · exact h
    | holdExpires =>
      show s.holdExpires.LinkAgrees
      unfold State.holdExpires
      split
      next held => exact linkAgrees_holdRunsOut due (by simp [held.1]) h
      next => exact h
    | _ => exact untouched (of_decide_eq_true rfl) (of_decide_eq_true rfl) (of_decide_eq_true rfl)

/-- Settles O51: only a refresh, a loss, the end of the hold time and the starts write the link or a loss hold. -/
theorem linkStateStaysRight : Obligations.LinkStateStaysRight :=
  fun _ _ agrees stepped => kept_linkAgrees.step agrees stepped

end Sys2Proof.Machine
end

section
/-!
Proofs. The balances of fed mass and of the tally records (R62, R156): `BalancesStay`.
-/
set_option Elab.async false

namespace Sys2Proof.Machine

/-! ### The parts of a debit -/

theorem lotPart_sum (r : LotRecord) (kg : Nat) : ((lotPart r kg).map (·.kg)).sum = kg := by
  unfold lotPart
  split
  next none => simp [none]
  next => split <;> simp

/-- The parts of a debit add up to it (R34). -/
theorem charge_sum (c : Chan) (q : List LotNo) (k : Nat) (s : State) :
    ((State.charge c q k s).1.map (·.kg)).sum = k := by
  induction q generalizing k s with
  | nil => simp [State.charge]
  | cons h rest ih =>
    unfold State.charge
    split
    · simp
    · split
      next => exact lotPart_sum ..
      next short =>
        have whole := lotPart_sum ‹LotRecord› (‹LotRecord›.remaining)
        simp only
        split
        · simp only [List.map_append, List.sum_append, whole, List.map_cons, List.map_nil, List.sum_singleton]
          omega
        · simp only [List.map_append, List.sum_append, whole, ih]
          omega

/-! ### A channel's counters -/

/-- One part steps the debited or the unassigned counter of its channel, and nothing of another's (R92, R93). -/
theorem takePart_masses (c d : Chan) (x : FuelClass) (p : Part) (s : State) :
    ((s.takePart c x p).chan d).fed = (s.chan d).fed
    ∧ ((s.takePart c x p).chan d).debited + ((s.takePart c x p).chan d).unassigned
      = (s.chan d).debited + (s.chan d).unassigned + if d = c then p.kg else 0 := by
  have chan : (s.takePart c x p).chan d = if d = c then
      (if p.lot.isSome then { s.chan c with debited := (s.chan c).debited + p.kg }
        else { s.chan c with unassigned := (s.chan c).unassigned + p.kg })
      else s.chan d := State.setChan_chan c d _ s
  rw [chan]
  split
  next e =>
    subst e
    split
    · exact ⟨rfl, by simp only; omega⟩
    · exact ⟨rfl, by simp only; omega⟩
  next => exact ⟨rfl, rfl⟩

theorem foldl_takePart_masses (c d : Chan) (x : FuelClass) (ps : List Part) (s : State) :
    ((ps.foldl (fun s p => s.takePart c x p) s).chan d).fed = (s.chan d).fed
    ∧ ((ps.foldl (fun s p => s.takePart c x p) s).chan d).debited
        + ((ps.foldl (fun s p => s.takePart c x p) s).chan d).unassigned
      = (s.chan d).debited + (s.chan d).unassigned + if d = c then (ps.map (·.kg)).sum else 0 := by
  induction ps generalizing s with
  | nil => simp
  | cons p ps ih =>
    obtain ⟨fed, rest⟩ := ih (s.takePart c x p)
    obtain ⟨fed', one⟩ := takePart_masses c d x p s
    refine ⟨fed.trans fed', ?_⟩
    rw [List.foldl_cons, rest, one, List.map_cons, List.sum_cons]
    split <;> omega

theorem massBalanced_of_same {s t : State} (masses : Aspect.masses.same s t) (h : s.MassBalanced) :
    t.MassBalanced := fun c => by
  obtain ⟨fed, debited, unassigned⟩ := masses c
  rw [fed, debited, unassigned, h c]

theorem massBalanced_feed (c : Chan) (k : Nat) {s : State} (h : s.MassBalanced) : (s.feed c k).MassBalanced := fun d => by
  unfold State.feed
  simp only
  generalize hs : (State.setFeeder c _ (s.setChan c { s.chan c with fed := (s.chan c).fed + k })) = s2
  obtain ⟨fed, parts⟩ := foldl_takePart_masses c d (s.chan c).fuelClass (s2.debit c k).1 (s2.debit c k).2
  obtain ⟨fed', debited', unassigned'⟩ := (Touches.debit c k s2).masses (of_decide_eq_true rfl) d
  have chan : s2.chan d = if d = c then { s.chan c with fed := (s.chan c).fed + k } else s.chan d := by
    rw [← hs, State.setFeeder_chan, State.setChan_chan]
  have sum : ((s2.debit c k).1.map (·.kg)).sum = k := charge_sum ..
  have before := h d
  rw [fed, parts, fed', debited', unassigned', chan, sum]
  split
  next e => subst e; simp only; omega
  next => omega

theorem massBalanced_pulse (c : Chan) {s : State} (h : s.MassBalanced) : (s.pulse c).MassBalanced := by
  unfold State.pulse State.weigh
  simp only
  split
  · exact h
  · split
    · exact h
    · exact massBalanced_feed c _ h

theorem start_masses (x : ResetCause) (s : State) (c : Chan) :
    ((s.start x).chan c).fed = 0 ∧ ((s.start x).chan c).debited = 0 ∧ ((s.start x).chan c).unassigned = 0 := by
  obtain ⟨fed, debited, unassigned⟩ := (Touches.reconcileStore (s.fresh x).reconcileAll).masses (of_decide_eq_true rfl) c
  obtain ⟨fed', debited', unassigned'⟩ := (Touches.reconcileAll (s.fresh x)).masses (of_decide_eq_true rfl) c
  unfold State.start
  rw [fed, debited, unassigned, fed', debited', unassigned']
  simp [State.fresh, State.chan, ChannelController.start, ChannelRecord.start]

theorem kept_massBalanced : Kept State.MassBalanced where
  ports s t same h := massBalanced_of_same (fun _ => by rw [same]; exact ⟨rfl, rfl, rfl⟩) h
  owner k p f s _ h :=
    massBalanced_of_same ((Touches.owner k p f s).masses (by cases k <;> exact of_decide_eq_true rfl)) h
  event e s _ h := by
    have untouched (out : .masses ∉ e.touched) : (e.run s).MassBalanced :=
      massBalanced_of_same ((Touches.event e s).masses out) h
    cases e with
    | pulse c => exact massBalanced_pulse c h
    | start x =>
      intro c
      obtain ⟨fed, debited, unassigned⟩ := start_masses x s c
      show ((s.start x).chan c).fed = ((s.start x).chan c).debited + ((s.start x).chan c).unassigned
      rw [fed, debited, unassigned]
    | _ => exact untouched (of_decide_eq_true rfl)

/-! ### A tally record -/

theorem Tally.balanced_of_same {t u : Tally} (fed : ∀ c, (u.channels.get c).fed = (t.channels.get c).fed)
    (lots : u.lots = t.lots) (other : u.otherKg = t.otherKg) (unassigned : u.unassigned = t.unassigned)
    (h : t.Balanced) : u.Balanced := by
  have sums : (u.channels.list.map (·.fed)) = t.channels.list.map (·.fed) := by
    simp only [Tbl.list, List.map_map]
    exact List.map_congr_left fun c _ => fed c
  unfold Tally.Balanced
  rw [sums, lots, other, unassigned]
  exact h

theorem Tally.balanced_opened (n : Nat) (x : Option Stamp) : (Tally.opened n x).Balanced := by
  simp [Tally.Balanced, Tally.opened, Tbl.list, ChannelTally.zero, Function.comp_def]

theorem Tally.balanced_closed {t : Tally} (x : Option Stamp) (h : t.Balanced) : (t.closed x).Balanced :=
  balanced_of_same (fun _ => rfl) rfl rfl rfl h

theorem Tally.balanced_runningStepped (active : Chan → Bool) {t : Tally} (h : t.Balanced) :
    (t.runningStepped active).Balanced := by
  refine balanced_of_same (t := t) (fun c => ?_) rfl rfl rfl h
  refine foldl_keeps (fun x : Tbl ChannelTally 6 => (x.get c).fed) (fun x d => ?_) allChans t.channels
  split
  · rw [Tbl.get_modify]
    split
    next e => rw [e]
    next => rfl
  · rfl

/-! ### The lot contribution list -/

theorem addLotEntry_sum {tag : Nat} {kind : FuelKind} {kg : Nat} {l l' : List LotEntry} {room : Nat}
    (h : addLotEntry tag kind kg l room = some l') : (l'.map (·.kg)).sum = (l.map (·.kg)).sum + kg := by
  induction l generalizing room l' with
  | nil =>
    cases room with
    | zero => cases h
    | succ n => cases h; simp
  | cons e rest ih =>
    unfold addLotEntry at h
    split at h
    · cases h
      simp only [List.map_cons, List.sum_cons]
      omega
    · obtain ⟨m, found, rfl⟩ := Option.map_eq_some_iff.mp h
      simp only [List.map_cons, List.sum_cons, ih found]
      omega

theorem addLotEntry_length {tag : Nat} {kind : FuelKind} {kg : Nat} {l l' : List LotEntry} {room : Nat}
    (h : addLotEntry tag kind kg l room = some l') : l'.length ≤ max l.length room := by
  induction l generalizing room l' with
  | nil =>
    cases room with
    | zero => cases h
    | succ n => cases h; simp
  | cons e rest ih =>
    unfold addLotEntry at h
    split at h
    · cases h; simp
    · obtain ⟨m, found, rfl⟩ := Option.map_eq_some_iff.mp h
      have := ih found
      simp only [List.length_cons]
      omega

/-! ### The shift unit -/

namespace ShiftUnit.Sound

variable {u : ShiftUnit}

/-- Kilograms fed on a channel stand on the one side, and as many of the lots, of the rest or unassigned on the
other. -/
theorem takeDebit (c : Chan) (l : Location) (x : FuelClass) (p : Part) (h : u.Sound) : (u.takeDebit c l x p).Sound := by
  have balance := h.current
  unfold Tally.Balanced at balance
  have fed (g : ChannelTally → ChannelTally) (hg : ∀ t, (g t).fed = t.fed + p.kg) :
      ((u.current.channels.modify c g).list.map (·.fed)).sum = (u.current.channels.list.map (·.fed)).sum + p.kg := by
    have moved := Tbl.sum_put u.current.channels c (g (u.current.channels.get c)) (·.fed)
    rw [hg] at moved
    unfold Tbl.modify
    omega
  unfold ShiftUnit.takeDebit
  cases p.lot with
  | none =>
    refine ⟨?_, h.held, h.entries, h.defer⟩
    show (((u.current.channels.modify c _).list.map (·.fed)).sum = _)
    rw [fed _ fun _ => rfl]
    simp only
    omega
  | some lot =>
    have two : (u.current.channels.modify c fun t => { t with fed := t.fed + p.kg }).modify c
        (fun t => { t with
          heat := addHeat t.heat (p.kg * lot.ncvAr)
          chlorine := t.chlorine + (u.chlorineResidue.get c + p.kg * lot.chlorine) / 1000
          sulfur := t.sulfur + (u.sulfurResidue.get c + p.kg * lot.sulfur) / 10 })
        = u.current.channels.modify c fun t => { t with
          fed := t.fed + p.kg
          heat := addHeat t.heat (p.kg * lot.ncvAr)
          chlorine := t.chlorine + (u.chlorineResidue.get c + p.kg * lot.chlorine) / 1000
          sulfur := t.sulfur + (u.sulfurResidue.get c + p.kg * lot.sulfur) / 10 } := by
      simp [Tbl.modify]
    simp only [ShiftUnit.addLot, two]
    unfold ShiftUnit.contribute
    split
    next entries found =>
      refine ⟨?_, h.held, ?_, h.defer⟩
      · show (((u.current.channels.modify c _).list.map (·.fed)).sum = _)
        rw [fed _ fun _ => rfl]
        simp only [addLotEntry_sum found]
        omega
      · have long := addLotEntry_length found
        have short := h.entries
        simp only at long ⊢
        omega
    next =>
      refine ⟨?_, h.held, h.entries, h.defer⟩
      show (((u.current.channels.modify c _).list.map (·.fed)).sum = _)
      rw [fed _ fun _ => rfl]
      simp only
      omega

end ShiftUnit.Sound

theorem shiftSound_of_same {s t : State} (h : Aspect.tallies.same s t) (hs : s.sht.Sound) : t.sht.Sound := by
  obtain ⟨held, overrun, lots, other, unassigned, fed⟩ := h
  exact ⟨Tally.balanced_of_same fed lots other unassigned hs.current, fun x e => hs.held x (held ▸ e), lots ▸ hs.entries,
    fun e => by rw [held]; exact hs.defer (overrun ▸ e)⟩

theorem shiftSound_takePart (c : Chan) (x : FuelClass) (p : Part) {s : State} (h : s.sht.Sound) :
    (s.takePart c x p).sht.Sound := h.takeDebit c _ x p

theorem shiftSound_feed (c : Chan) (k : Nat) {s : State} (h : s.sht.Sound) : (s.feed c k).sht.Sound := by
  unfold State.feed
  refine foldl_holds (P := fun s : State => s.sht.Sound) (fun s p => shiftSound_takePart c _ p) _ ?_
  exact shiftSound_of_same (Touches.debit ..).tallies h

theorem shiftSound_pulse (c : Chan) {s : State} (h : s.sht.Sound) : (s.pulse c).sht.Sound := by
  unfold State.pulse State.weigh
  simp only
  split
  · exact h
  · split
    · exact h
    · exact shiftSound_feed c _ h

theorem shiftSound_closeShift {s : State} (h : s.sht.Sound) : s.closeShift.sht.Sound where
  current := Tally.balanced_opened ..
  held t e := by
    obtain rfl : s.sht.current.closed s.sht.stamp = t := Option.some.inj e
    exact Tally.balanced_closed _ h.current
  entries := Nat.zero_le _
  defer := nofun

theorem shiftSound_freeHeld (t : Tally) {s : State} (h : s.sht.Sound) (kept : s.sht.current.overrun = false) :
    (s.freeHeld t).sht.Sound := by
  have emptied : { s.sht with held := none }.Sound := ⟨h.current, nofun, h.entries, fun e => by simp [kept] at e⟩
  unfold State.freeHeld
  simp only
  split
  · exact emptied
  · exact emptied

/-- The held slot emptied and the deferred close run at once leave what a close leaves. -/
theorem shiftSound_freeHeld_closeShift (t : Tally) {s : State} (h : s.sht.Sound) :
    (s.freeHeld t).closeShift.sht.Sound := by
  have current : (s.freeHeld t).sht.current = s.sht.current := by
    unfold State.freeHeld
    simp only
    split <;> rfl
  refine ⟨Tally.balanced_opened .., fun u e => ?_, Nat.zero_le _, nofun⟩
  obtain rfl : (s.freeHeld t).sht.current.closed (s.freeHeld t).sht.stamp = u := Option.some.inj e
  exact Tally.balanced_closed _ (current ▸ h.current)

theorem shiftSound_releaseShift {p : Port} {f : List Byte} {s : State} (h : s.sht.Sound) :
    (ownerReleaseShift p f s).state.sht.Sound := by
  unfold ownerReleaseShift
  split
  · exact h
  · split
    · exact h
    · split
      next => exact shiftSound_freeHeld_closeShift _ h
      next kept => exact shiftSound_freeHeld _ h (by simpa using kept)

theorem shiftSound_correctShift {p : Port} {f : List Byte} {s : State} (h : s.sht.Sound) :
    (ownerCorrectShift p f s).state.sht.Sound := by
  unfold ownerCorrectShift
  split
  · exact h
  next t held =>
    repeat' split
    any_goals exact h
    refine ⟨h.current, fun u e => ?_, h.entries, fun _ => rfl⟩
    obtain rfl := Option.some.inj e
    exact Tally.balanced_of_same (fun _ => rfl) rfl rfl rfl (h.held t held)

theorem shiftSound_readShift {p : Port} {f : List Byte} {s : State} (h : s.sht.Sound) :
    (ownerReadShift p f s).state.sht.Sound := by
  unfold ownerReadShift
  split
  · exact h
  · split
    · exact h
    next part _ _ _ t held =>
      cases p with
      | panel => exact h
      | control =>
        have read : { s.sht with held := some (t.read part) }.Sound := by
          refine ⟨h.current, fun u e => ?_, h.entries, fun _ => rfl⟩
          obtain rfl := Option.some.inj e
          cases part <;> exact Tally.balanced_of_same (fun _ => rfl) rfl rfl rfl (h.held t held)
        show (s.readHeld part t).sht.Sound
        unfold State.readHeld
        simp only
        split
        · exact read
        · exact read
  · exact h

theorem shiftSound_sampled {s : State} (h : s.sht.Sound) : s.sampled.Sound := by
  have stepped := Tally.balanced_runningStepped (fun c => (s.chan c).state.active) h.current
  unfold State.sampled ShiftUnit.clinkerTaken
  split
  · exact ⟨Tally.balanced_of_same (fun _ => rfl) rfl rfl rfl stepped, h.held, h.entries, h.defer⟩
  all_goals exact ⟨Tally.balanced_of_same (fun _ => rfl) rfl rfl rfl stepped, h.held, h.entries, h.defer⟩

theorem shiftSound_boundary {s : State} (h : s.sht.Sound) : s.boundary.sht.Sound := by
  unfold State.boundary
  split
  · exact shiftSound_closeShift h
  next held =>
    exact ⟨h.current, h.held, h.entries, fun _ => by simpa [Option.isSome_iff_ne_none] using held⟩

theorem shiftSound_shiftSecond {s : State} (h : s.sht.Sound) : s.shiftSecond.sht.Sound := by
  have sampled := shiftSound_sampled h
  unfold State.shiftSecond
  simp only
  split
  · exact sampled
  · have ticked (k : Clock) : { s.sampled with clock := some k }.Sound :=
      ⟨sampled.current, sampled.held, sampled.entries, sampled.defer⟩
    split
    · exact shiftSound_boundary (ticked _)
    · exact ticked _

theorem start_tallies (x : ResetCause) (s : State) : (s.start x).sht.Sound := by
  have fresh : (s.fresh x).sht.Sound := ⟨Tally.balanced_opened .., nofun, Nat.zero_le _, nofun⟩
  unfold State.start
  exact shiftSound_of_same (Touches.reconcileStore _).tallies (shiftSound_of_same (Touches.reconcileAll _).tallies fresh)

theorem kept_shiftSound : Kept fun s => s.sht.Sound where
  ports s t same h := by rw [same]; exact h
  owner k p f s _ h := by
    have untouched (out : .tallies ∉ touchedBy k) : (ownerOf k p f s).state.sht.Sound :=
      shiftSound_of_same ((Touches.owner k p f s).tallies out) h
    cases k with
    | setClock =>
      show (ownerSetClock p f s).state.sht.Sound
      unfold ownerSetClock
      split
      · exact h
      · exact ⟨Tally.balanced_of_same (fun _ => rfl) rfl rfl rfl h.current, h.held, h.entries, h.defer⟩
    | shiftClose =>
      show (ownerShiftClose p f s).state.sht.Sound
      unfold ownerShiftClose
      split
      · exact h
      · exact shiftSound_closeShift h
    | releaseShift => exact shiftSound_releaseShift (p := p) h
    | correctShift => exact shiftSound_correctShift (p := p) h
    | readShift => exact shiftSound_readShift (p := p) h
    | _ => exact untouched (of_decide_eq_true rfl)
  event e s _ h := by
    have untouched (out : .tallies ∉ e.touched) : (e.run s).sht.Sound :=
      shiftSound_of_same ((Touches.event e s).tallies out) h
    cases e with
    | pulse c => exact shiftSound_pulse c h
    | start x => exact start_tallies x s
    | shiftSecond => exact shiftSound_shiftSecond h
    | _ => exact untouched (of_decide_eq_true rfl)

/-- Settles O48: whole kilograms enter both sides of each balance, and a close moves the record whole. -/
theorem balancesStay : Obligations.BalancesStay :=
  ⟨fun _ _ balanced stepped => kept_massBalanced.step balanced stepped,
    fun _ _ sound stepped => kept_shiftSound.step sound stepped⟩

end Sys2Proof.Machine
end

section
/-!
Proofs. The bin queues and the tags of the lot registry (R22, R29): `QueuesStayOrdered`.
-/
set_option Elab.async false

namespace Sys2Proof.Machine

/-! ### What the operations on lots write -/

namespace LotRegistry

theorem position_eq_none_iff (g : LotRegistry) (i : LotNo) : g.position i = none ↔ ∀ c, i ∉ g.queues.get c := by
  simp [position, List.findSome?_eq_none_iff]

theorem mem_of_position {g : LotRegistry} {i : LotNo} {c : Chan} {n : Nat} (h : g.position i = some (c, n)) :
    i ∈ g.queues.get c := by
  obtain ⟨d, -, found⟩ := List.exists_of_findSome?_eq_some h
  split at found
  next mem =>
    cases found
    exact mem
  next => cases found

theorem tag_ne_of_findTag {g : LotRegistry} {tag : Nat} (h : g.findTag tag = none) {i : LotNo} {r : LotRecord}
    (found : g.lot i = some r) : r.tag ≠ tag := by
  have := List.find?_eq_none.mp h i (List.mem_finRange i)
  simpa [found] using this

theorem lot_of_freeSlot {g : LotRegistry} {i : LotNo} (h : g.freeSlot = some i) : g.lot i = none := by
  simpa using List.find?_some h

end LotRegistry

theorem State.setLot_lot (i j : LotNo) (r : LotRecord) (s : State) :
    (s.setLot i r).lrg.lot j = if j = i then some r else s.lrg.lot j := by
  split
  next e => rw [e, setLot_lot_self]
  next ne => exact setLot_lot_ne ne r s

theorem State.setLotState_of_lot {i : LotNo} {r : LotRecord} {s : State} (h : s.lrg.lot i = some r) (x : LotState) :
    s.setLotState i x = s.setLot i { r with state := x } := by
  unfold State.setLotState
  rw [h]

@[simp] theorem State.setLotState_queues (i : LotNo) (x : LotState) (s : State) :
    (s.setLotState i x).lrg.queues = s.lrg.queues := by
  unfold State.setLotState
  split <;> rfl

theorem State.setLotState_lot (i j : LotNo) (x : LotState) (s : State) :
    (s.setLotState i x).lrg.lot j
      = if j = i then (s.lrg.lot i).map fun r => { r with state := x } else s.lrg.lot j := by
  unfold State.setLotState
  split
  next r found => rw [State.setLot_lot, found]; rfl
  next none => split <;> simp_all

theorem State.setQueue_queue (c d : Chan) (q : List LotNo) (s : State) :
    (s.setQueue c q).lrg.queues.get d = if d = c then q else s.lrg.queues.get d := Tbl.get_put ..

/-- A mark that takes a value, and the report on it: only the mark is written in the registry. -/
theorem State.setOverdrawn_lrg (c : Chan) (b : Bool) (s : State) :
    (s.setOverdrawn c b).lrg = { s.lrg with overdrawn := s.lrg.overdrawn.put c b } := by
  unfold State.setOverdrawn
  simp only
  split
  next same => rw [← same, Tbl.put_get]
  next =>
    split
    next => exact (Touches.comesFixed (.channel c .overdrawn) _).lots
    next => exact (Touches.goes (.channel c .overdrawn) _).lots

@[simp] theorem State.setOverdrawn_lot (c : Chan) (b : Bool) (i : LotNo) (s : State) :
    (s.setOverdrawn c b).lrg.lot i = s.lrg.lot i := by rw [State.setOverdrawn_lrg]; rfl

@[simp] theorem State.setOverdrawn_queues (c : Chan) (b : Bool) (s : State) :
    (s.setOverdrawn c b).lrg.queues = s.lrg.queues := by rw [State.setOverdrawn_lrg]

theorem State.evaluateOverdrawn_cases (c : Chan) (s : State) :
    s.evaluateOverdrawn c = s ∨ s.evaluateOverdrawn c = s.setOverdrawn c false := by
  unfold State.evaluateOverdrawn
  split
  · split
    · exact .inr rfl
    · exact .inl rfl
  · exact .inl rfl

@[simp] theorem State.evaluateOverdrawn_lot (c : Chan) (i : LotNo) (s : State) :
    (s.evaluateOverdrawn c).lrg.lot i = s.lrg.lot i := by
  rcases State.evaluateOverdrawn_cases c s with h | h <;> rw [h]
  exact State.setOverdrawn_lot ..

@[simp] theorem State.evaluateOverdrawn_queues (c : Chan) (s : State) :
    (s.evaluateOverdrawn c).lrg.queues = s.lrg.queues := by
  rcases State.evaluateOverdrawn_cases c s with h | h <;> rw [h]
  exact State.setOverdrawn_queues ..

/-- The lot at the head of a queue leaves it into the state given. -/
theorem State.succession_queue (c d : Chan) (x : LotState) (s : State) :
    (s.succession c x).lrg.queues.get d = if d = c then (s.lrg.queues.get c).tail else s.lrg.queues.get d := by
  unfold State.succession
  split
  next empty => split <;> simp_all
  next h one => rw [State.evaluateOverdrawn_queues, State.setQueue_queue, State.setLotState_queues, one]; rfl
  next h n rest more =>
    rw [State.evaluateOverdrawn_queues, State.setQueue_queue, State.setLotState_queues, State.setLotState_queues, more]
    rfl

/-- What succession writes of each lot: the head takes the state given, and the next lot draws (R30). -/
theorem State.succession_lot {c : Chan} {h : LotNo} {rest : List LotNo} {s : State}
    (queue : s.lrg.queues.get c = h :: rest) (x : LotState) (i : LotNo) :
    (s.succession c x).lrg.lot i
      = if rest.head? = some i then ((s.setLotState h x).lrg.lot i).map fun r => { r with state := .drawing }
        else (s.setLotState h x).lrg.lot i := by
  unfold State.succession
  rw [queue]
  cases rest with
  | nil => simp
  | cons n rest =>
    simp only [State.evaluateOverdrawn_lot, State.setQueue_lot, State.setLotState_lot n, List.head?_cons,
      Option.some.injEq, eq_comm (a := n)]
    split
    next e => rw [e]
    next => rfl

/-! ### Tags -/

/-- The same lots stand in the same slots, with the same tags. -/
structure SameTags (s t : State) : Prop where
  same : ∀ i, (t.lrg.lot i).map (·.tag) = (s.lrg.lot i).map (·.tag)

namespace SameTags

variable {s t u : State}

theorem refl (s : State) : SameTags s s := ⟨fun _ => rfl⟩

theorem trans (h : SameTags s t) (h' : SameTags t u) : SameTags s u :=
  ⟨fun i => (h'.same i).trans (h.same i)⟩

theorem of_lots (h : t.lrg = s.lrg) : SameTags s t := ⟨fun i => by rw [h]⟩

theorem tagsApart (h : SameTags s t) (apart : s.lrg.TagsApart) : t.lrg.TagsApart := by
  intro i j r r' hi hj same
  have find {i : LotNo} {r : LotRecord} (hi : t.lrg.lot i = some r) : ∃ x, s.lrg.lot i = some x ∧ x.tag = r.tag := by
    have := h.same i
    rw [hi, Option.map_some] at this
    exact Option.map_eq_some_iff.mp this.symm
  obtain ⟨x, hx, tx⟩ := find hi
  obtain ⟨y, hy, ty⟩ := find hj
  exact apart i j x y hx hy (by rw [tx, ty, same])

theorem setLot {i : LotNo} {r x : LotRecord} (found : s.lrg.lot i = some x) (tag : r.tag = x.tag := by rfl) :
    SameTags s (s.setLot i r) := ⟨fun j => by
  rw [State.setLot_lot]
  split
  next e => rw [e, found, Option.map_some, Option.map_some, tag]
  next => rfl⟩

theorem setLotState (i : LotNo) (x : LotState) (s : State) : SameTags s (s.setLotState i x) := ⟨fun j => by
  rw [State.setLotState_lot]
  split
  next e => rw [e, Option.map_map]; rfl
  next => rfl⟩

theorem setQueue (c : Chan) (q : List LotNo) (s : State) : SameTags s (s.setQueue c q) := ⟨fun _ => rfl⟩

theorem setOverdrawn (c : Chan) (b : Bool) (s : State) : SameTags s (s.setOverdrawn c b) :=
  ⟨fun i => by simp⟩

theorem evaluateOverdrawn (c : Chan) (s : State) : SameTags s (s.evaluateOverdrawn c) :=
  ⟨fun i => by simp⟩

theorem succession (c : Chan) (x : LotState) (s : State) : SameTags s (s.succession c x) := by
  unfold State.succession
  split
  · exact refl s
  · exact ((setLotState ..).trans (setQueue ..)).trans (evaluateOverdrawn ..)
  · exact (((setLotState ..).trans (setLotState ..)).trans (setQueue ..)).trans (evaluateOverdrawn ..)

theorem leaveQueue (c : Chan) (i : LotNo) (x : LotState) (s : State) : SameTags s (s.leaveQueue c i x) :=
  (setLotState ..).trans (setQueue ..)

theorem quarantine (i : LotNo) (s : State) : SameTags s (s.quarantine i) := by
  unfold State.quarantine
  split
  · split
    · simp only
      split
      · exact succession ..
      · exact (succession ..).trans (of_lots (Touches.lotRejected ..).lots)
    · exact leaveQueue ..
  · exact setLotState ..

theorem newHead (c : Chan) (i : LotNo) (s : State) : SameTags s (s.newHead c i) :=
  ((setLotState ..).trans (setQueue ..)).trans (evaluateOverdrawn ..)

theorem enqueue (c : Chan) (i : LotNo) (s : State) : SameTags s (s.enqueue c i) := by
  unfold State.enqueue
  repeat' split
  · exact newHead ..
  · exact (setLotState ..).trans (newHead ..)
  · exact (setLotState ..).trans (setQueue ..)
  · exact (setLotState ..).trans (setQueue ..)

theorem analyse {i : LotNo} {r : LotRecord} (found : s.lrg.lot i = some r) (a : Analysis) :
    SameTags s (s.analyse i r a) := by
  have written : SameTags s (s.setLot i (r.analysed a)) := setLot found
  unfold State.analyse
  simp only
  split
  · exact written
  · split
    · exact written.trans (quarantine ..)
    · exact written

theorem amend {i : LotNo} {r : LotRecord} (found : s.lrg.lot i = some r) (n : Nat) : SameTags s (s.amend i r n) := by
  have written : SameTags s (s.setLot i { r with remaining := n }) := setLot found
  unfold State.amend
  simp only
  repeat' split
  · exact written.trans (setOverdrawn ..)
  · exact written.trans (succession ..)
  · exact written
  · exact written

theorem charge (c : Chan) (q : List LotNo) (k : Nat) (s : State) : SameTags s (State.charge c q k s).2 := by
  induction q generalizing k s with
  | nil => exact setOverdrawn ..
  | cons h rest ih =>
    unfold State.charge
    split
    · exact setOverdrawn ..
    next r found =>
      split
      · exact setLot found
      · simp only
        split
        · exact (setLot found).trans (setOverdrawn ..)
        · exact ((setLot found).trans (succession ..)).trans (ih _ _)

end SameTags

/-! ### The order of the queues -/

namespace LotRegistry.Ordered

variable {g : LotRegistry} {s : State}

theorem of_queues {g' : LotRegistry} (h : g.Ordered) (queues : g'.queues = g.queues) (lots : ∀ i, g'.lot i = g.lot i) :
    g'.Ordered where
  short c := by rw [queues]; exact h.short c
  once c := by rw [queues]; exact h.once c
  apart c d i := by rw [queues]; exact h.apart c d i
  queued c i := by simp only [queues, lots, head]; exact h.queued c i
  placed i r := by simp only [queues, lots]; exact h.placed i r

/-- A lot in no queue is neither queued nor drawing, and the other way round. -/
theorem placed_iff (h : g.Ordered) {i : LotNo} {r : LotRecord} (found : g.lot i = some r) :
    (r.state = .queued ∨ r.state = .drawing) ↔ ∃ c, i ∈ g.queues.get c := by
  refine ⟨h.placed i r found, fun ⟨c, mem⟩ => ?_⟩
  obtain ⟨x, hx, -, state⟩ := h.queued c i mem
  rw [found] at hx
  cases hx
  rw [state]
  split <;> simp

theorem state_eq (h : g.Ordered) {c : Chan} {i : LotNo} {r : LotRecord} (mem : i ∈ g.queues.get c)
    (found : g.lot i = some r) : r.state = if g.head c = some i then .drawing else .queued := by
  obtain ⟨x, hx, -, state⟩ := h.queued c i mem
  rw [found] at hx
  cases hx
  exact state

/-- One queue replaced: each lot of it stands in no other queue and in the state of its place, the lots of the
other queues stand, and no other lot is queued or drawing. -/
theorem requeue {g' : LotRegistry} (h : g.Ordered) (c : Chan)
    (others : ∀ d, d ≠ c → g'.queues.get d = g.queues.get d)
    (short : (g'.queues.get c).length ≤ Config.queueDepth) (once : (g'.queues.get c).Nodup)
    (own : ∀ i, i ∈ g'.queues.get c → ∀ d, d ≠ c → i ∉ g.queues.get d)
    (stand : ∀ d, d ≠ c → ∀ i, i ∈ g.queues.get d → g'.lot i = g.lot i)
    (queued : ∀ i, i ∈ g'.queues.get c → ∃ r, g'.lot i = some r ∧ r.analysis.isSome
      ∧ r.state = if g'.head c = some i then .drawing else .queued)
    (placed : ∀ i r, g'.lot i = some r → r.state = .queued ∨ r.state = .drawing →
      i ∈ g'.queues.get c ∨ ∃ d, d ≠ c ∧ i ∈ g.queues.get d) : g'.Ordered where
  short d := by
    by_cases e : d = c
    · exact e ▸ short
    · rw [others d e]; exact h.short d
  once d := by
    by_cases e : d = c
    · exact e ▸ once
    · rw [others d e]; exact h.once d
  apart d e i hd he := by
    by_cases cd : d = c
    · subst cd
      by_contra ne
      exact own i hd e (Ne.symm ne) (others e (Ne.symm ne) ▸ he)
    · rw [others d cd] at hd
      by_cases ce : e = c
      · subst ce
        exact absurd hd (own i he d cd)
      · rw [others e ce] at he
        exact h.apart d e i hd he
  queued d i hd := by
    by_cases e : d = c
    · subst e
      exact queued i hd
    · rw [others d e] at hd
      rw [stand d e i hd, LotRegistry.head, others d e]
      exact h.queued d i hd
  placed i r found state := by
    rcases placed i r found state with mem | ⟨d, ne, mem⟩
    · exact ⟨c, mem⟩
    · exact ⟨d, by rw [others d ne]; exact mem⟩

/-- A lot's record written without a change of its place. -/
theorem setLot (h : s.lrg.Ordered) {i : LotNo} {r x : LotRecord} (found : s.lrg.lot i = some x)
    (analysis : x.analysis.isSome → r.analysis.isSome)
    (state : r.state = x.state ∨ (r.state ≠ .queued ∧ r.state ≠ .drawing ∧ ∀ c, i ∉ s.lrg.queues.get c)) :
    (s.setLot i r).lrg.Ordered where
  short := h.short
  once := h.once
  apart := h.apart
  queued c j mem := by
    obtain ⟨y, hy, analysed, place⟩ := h.queued c j mem
    rw [State.setLot_lot]
    split
    next e =>
      subst e
      rw [found] at hy
      cases hy
      refine ⟨r, rfl, analysis analysed, ?_⟩
      rcases state with same | ⟨-, -, out⟩
      · exact same.trans place
      · exact absurd mem (out c)
    next => exact ⟨y, hy, analysed, place⟩
  placed j y hy place := by
    rw [State.setLot_lot] at hy
    split at hy
    next e =>
      subst e
      cases hy
      rcases state with same | ⟨queued, drawing, -⟩
      · exact h.placed j x found (by rwa [← same])
      · exact absurd place (by simp [queued, drawing])
    next => exact h.placed j y hy place

theorem setOverdrawn (h : s.lrg.Ordered) (c : Chan) (b : Bool) : (s.setOverdrawn c b).lrg.Ordered :=
  h.of_queues (by simp) (by simp)

theorem evaluateOverdrawn (h : s.lrg.Ordered) (c : Chan) : (s.evaluateOverdrawn c).lrg.Ordered :=
  h.of_queues (by simp) (by simp)

/-- Head succession: the head leaves for a state off the queue, and the next lot draws (R30). -/
theorem succession (h : s.lrg.Ordered) (c : Chan) {x : LotState} (off : x ≠ .queued ∧ x ≠ .drawing) :
    (s.succession c x).lrg.Ordered := by
  match queue : s.lrg.queues.get c with
  | [] =>
    unfold State.succession
    rw [queue]
    exact h
  | hd :: rest =>
    have once := h.once c
    have short := h.short c
    rw [queue, List.nodup_cons] at once
    rw [queue, List.length_cons] at short
    have mem {i : LotNo} (hi : i ∈ rest) : i ∈ s.lrg.queues.get c := by rw [queue]; exact List.mem_cons_of_mem _ hi
    have mem_hd : hd ∈ s.lrg.queues.get c := by rw [queue]; exact List.mem_cons_self
    have tail : (s.succession c x).lrg.queues.get c = rest := by rw [State.succession_queue, if_pos rfl, queue]; rfl
    have lot {i : LotNo} (ne : i ≠ hd) : (s.succession c x).lrg.lot i
        = if rest.head? = some i then (s.lrg.lot i).map fun r => { r with state := .drawing } else s.lrg.lot i := by
      rw [State.succession_lot queue, State.setLotState_lot, if_neg ne]
    refine h.requeue c (fun d ne => by rw [State.succession_queue, if_neg ne]) (by rw [tail]; omega)
      (by rw [tail]; exact once.2) ?_ ?_ ?_ ?_
    · intro i hi d ne hd'
      rw [tail] at hi
      exact ne (h.apart d c i hd' (mem hi))
    · intro d ne i hi
      have outside {j : LotNo} (hj : j ∈ s.lrg.queues.get c) : j ≠ i := fun e => ne (h.apart d c i hi (e ▸ hj))
      rw [lot (outside mem_hd).symm, if_neg]
      exact fun first => outside (mem (List.mem_of_mem_head? first)) rfl
    · intro i hi
      rw [tail] at hi
      have ne : i ≠ hd := fun e => once.1 (e ▸ hi)
      obtain ⟨r, found, analysed, state⟩ := h.queued c i (mem hi)
      rw [lot ne, LotRegistry.head, tail, found]
      have later : s.lrg.head c ≠ some i := by
        rw [LotRegistry.head, queue, List.head?_cons]
        exact fun e => ne (Option.some.inj e).symm
      rw [if_neg later] at state
      split
      next first => exact ⟨_, rfl, analysed, rfl⟩
      next => exact ⟨r, rfl, analysed, state⟩
    · intro i r found state
      rw [tail]
      by_cases e : i = hd
      · subst e
        rw [State.succession_lot queue, State.setLotState_lot, if_pos rfl,
          if_neg (fun first : rest.head? = some i => once.1 (List.mem_of_mem_head? first))] at found
        obtain ⟨y, -, rfl⟩ := Option.map_eq_some_iff.mp found
        exact absurd state (by simp [off])
      · rw [lot e] at found
        split at found
        next first => exact .inl (List.mem_of_mem_head? first)
        next =>
          obtain ⟨d, hd'⟩ := h.placed i r found state
          by_cases cd : d = c
          · subst cd
            rw [queue] at hd'
            exact .inl ((List.mem_cons.mp hd').resolve_left e)
          · exact .inr ⟨d, cd, hd'⟩

/-- A lot behind the head leaves its queue (R29). -/
theorem leaveQueue (h : s.lrg.Ordered) {c : Chan} {i : LotNo} (mem : i ∈ s.lrg.queues.get c)
    (later : s.lrg.head c ≠ some i) {x : LotState} (off : x ≠ .queued ∧ x ≠ .drawing) :
    (s.leaveQueue c i x).lrg.Ordered := by
  have once := h.once c
  have queue (d : Chan) : (s.leaveQueue c i x).lrg.queues.get d
      = if d = c then (s.lrg.queues.get c).erase i else s.lrg.queues.get d := by
    unfold State.leaveQueue
    rw [State.setQueue_queue, State.setLotState_queues]
  have lot {j : LotNo} (ne : j ≠ i) : (s.leaveQueue c i x).lrg.lot j = s.lrg.lot j := by
    unfold State.leaveQueue
    rw [State.setQueue_lot, State.setLotState_lot, if_neg ne]
  have erased : (s.leaveQueue c i x).lrg.queues.get c = (s.lrg.queues.get c).erase i := by rw [queue, if_pos rfl]
  have inside {j : LotNo} (hj : j ∈ (s.lrg.queues.get c).erase i) : j ≠ i ∧ j ∈ s.lrg.queues.get c :=
    once.mem_erase_iff.mp hj
  have first : (s.leaveQueue c i x).lrg.head c = s.lrg.head c := by
    unfold LotRegistry.head at later ⊢
    rw [erased]
    cases hq : s.lrg.queues.get c with
    | nil => rfl
    | cons a rest =>
      rw [hq, List.head?_cons] at later
      rw [List.erase_cons_tail (by simpa using fun e => later (congrArg some e)), List.head?_cons, List.head?_cons]
  refine h.requeue c (fun d ne => by rw [queue, if_neg ne]) ?_ ?_ ?_ ?_ ?_ ?_
  · rw [erased]
    exact List.erase_sublist.length_le.trans (h.short c)
  · rw [erased]
    exact once.erase i
  · intro j hj d ne hd
    rw [erased] at hj
    exact ne (h.apart d c j hd (inside hj).2)
  · intro d ne j hj
    exact lot fun e => ne (h.apart d c j hj (e ▸ mem))
  · intro j hj
    rw [erased] at hj
    rw [lot (inside hj).1, first]
    exact h.queued c j (inside hj).2
  · intro j r found state
    by_cases e : j = i
    · subst e
      unfold State.leaveQueue at found
      rw [State.setQueue_lot, State.setLotState_lot, if_pos rfl] at found
      obtain ⟨y, -, rfl⟩ := Option.map_eq_some_iff.mp found
      exact absurd state (by simp [off])
    · rw [lot e] at found
      obtain ⟨d, hd⟩ := h.placed j r found state
      by_cases cd : d = c
      · subst cd
        exact .inl (by rw [erased]; exact once.mem_erase_iff.mpr ⟨e, hd⟩)
      · exact .inr ⟨d, cd, hd⟩

theorem quarantine (h : s.lrg.Ordered) (i : LotNo) : (s.quarantine i).lrg.Ordered := by
  have off : LotState.quarantined ≠ .queued ∧ LotState.quarantined ≠ .drawing := ⟨nofun, nofun⟩
  unfold State.quarantine
  split
  next r c _ found place =>
    have mem := mem_of_position place
    split
    · simp only
      split
      · exact h.succession c off
      · rw [(Touches.lotRejected c _).lots]
        exact h.succession c off
    next later =>
      refine h.leaveQueue mem (fun first => later ?_) off
      rw [h.state_eq mem found, if_pos first]
  next out =>
    cases found : s.lrg.lot i with
    | none =>
      unfold State.setLotState
      rw [found]
      exact h
    | some r =>
      rw [State.setLotState_of_lot found]
      refine h.setLot found id (.inr ⟨off.1, off.2, ?_⟩)
      cases place : s.lrg.position i with
      | none => exact (position_eq_none_iff _ i).mp place
      | some x => exact absurd place (out r x.1 x.2 found)

theorem charge (c : Chan) (q : List LotNo) (k : Nat) (h : s.lrg.Ordered) : (State.charge c q k s).2.lrg.Ordered := by
  induction q generalizing k s with
  | nil => exact h.setOverdrawn ..
  | cons hd rest ih =>
    unfold State.charge
    split
    · exact h.setOverdrawn ..
    next r found =>
      have charged (n : Nat) : (s.setLot hd (r.charged n)).lrg.Ordered := h.setLot found id (.inl rfl)
      split
      · exact charged k
      · simp only
        split
        · exact (charged _).setOverdrawn ..
        · exact ih _ ((charged _).succession c ⟨nofun, nofun⟩)

theorem analyse (h : s.lrg.Ordered) {i : LotNo} {r : LotRecord} (found : s.lrg.lot i = some r) (a : Analysis) :
    (s.analyse i r a).lrg.Ordered := by
  have written : (s.setLot i (r.analysed a)).lrg.Ordered := by
    refine h.setLot found (fun _ => rfl) ?_
    unfold LotRecord.analysed
    split
    next registered =>
      refine .inr ⟨nofun, nofun, fun c mem => ?_⟩
      have := (h.placed_iff found).mpr ⟨c, mem⟩
      simp [registered] at this
    next => exact .inl rfl
  unfold State.analyse
  simp only
  split
  · exact written
  · split
    · exact written.quarantine i
    · exact written

theorem amend (h : s.lrg.Ordered) {i : LotNo} {r : LotRecord} (found : s.lrg.lot i = some r) (n : Nat) :
    (s.amend i r n).lrg.Ordered := by
  have written : (s.setLot i { r with remaining := n }).lrg.Ordered := h.setLot found id (.inl rfl)
  unfold State.amend
  simp only
  repeat' split
  · exact written.setOverdrawn ..
  · exact written.succession _ ⟨nofun, nofun⟩
  · exact written
  · exact written

/-- A lot that stands in no queue joins one, behind the lots that stay in it. -/
theorem join (h : s.lrg.Ordered) {t : State} {c : Chan} {i : LotNo} {r : LotRecord} {q : List LotNo}
    (found : s.lrg.lot i = some r) (analysed : r.analysis.isSome) (out : ∀ d, i ∉ s.lrg.queues.get d)
    (stay : List.Sublist q (s.lrg.queues.get c)) (head : ∀ j ∈ q, q.head? = some j ↔ s.lrg.head c = some j)
    (room : q.length < Config.queueDepth)
    (queues : ∀ d, t.lrg.queues.get d = if d = c then q ++ [i] else s.lrg.queues.get d)
    (joined : t.lrg.lot i = some { r with state := if q = [] then .drawing else .queued })
    (stand : ∀ j, j ≠ i → j ∈ q ∨ j ∉ s.lrg.queues.get c → t.lrg.lot j = s.lrg.lot j)
    (gone : ∀ j x, j ∈ s.lrg.queues.get c → j ∉ q → t.lrg.lot j = some x → x.state ≠ .queued ∧ x.state ≠ .drawing) :
    t.lrg.Ordered := by
  have own : t.lrg.queues.get c = q ++ [i] := by rw [queues, if_pos rfl]
  have notIn : i ∉ q := fun mem => out c (stay.subset mem)
  have first {j : LotNo} (hj : j ∈ q) : t.lrg.head c = some j ↔ s.lrg.head c = some j := by
    rw [← head j hj, LotRegistry.head, own, List.head?_append_of_ne_nil _ (List.ne_nil_of_mem hj)]
  refine h.requeue c (fun d ne => by rw [queues, if_neg ne]) ?_ ?_ ?_ ?_ ?_ ?_
  · rw [own, List.length_append]
    exact room
  · rw [own]
    exact List.nodup_append.mpr ⟨(h.once c).sublist stay, by simp, by simpa using fun j hj (e : j = i) => notIn (e ▸ hj)⟩
  · intro j hj d ne hd
    rw [own, List.mem_append, List.mem_singleton] at hj
    rcases hj with hj | rfl
    · exact ne (h.apart d c j hd (stay.subset hj))
    · exact out d hd
  · intro d ne j hj
    exact stand j (fun e => out d (e ▸ hj)) (.inr fun hc => ne (h.apart d c j hj hc))
  · intro j hj
    rw [own, List.mem_append, List.mem_singleton] at hj
    rcases hj with hj | rfl
    · obtain ⟨x, hx, hxa, state⟩ := h.queued c j (stay.subset hj)
      rw [stand j (fun e => notIn (e ▸ hj)) (.inl hj)]
      exact ⟨x, hx, hxa, by simp only [state, first hj]⟩
    · refine ⟨_, joined, analysed, ?_⟩
      have : t.lrg.head c = some j ↔ q = [] := by
        rw [LotRegistry.head, own]
        cases q with
        | nil => simp
        | cons a q => simpa using fun e : a = j => notIn (e ▸ List.mem_cons_self)
      simp only [this]
  · intro j x hx state
    rw [own, List.mem_append, List.mem_singleton]
    by_cases e : j = i
    · exact .inl (.inr e)
    · by_cases hj : j ∈ q
      · exact .inl (.inl hj)
      · by_cases hc : j ∈ s.lrg.queues.get c
        · exact absurd state (by simp [gone j x hc hj hx])
        · rw [stand j e (.inr hc)] at hx
          obtain ⟨d, hd⟩ := h.placed j x hx state
          exact .inr ⟨d, fun cd => hc (cd ▸ hd), hd⟩

theorem enqueue (h : s.lrg.Ordered) {c : Chan} {i : LotNo} {r : LotRecord} (found : s.lrg.lot i = some r)
    (analysed : r.analysis.isSome) (state : r.state = .analysed)
    (room : (s.lrg.queues.get c).length < Config.queueDepth) : (s.enqueue c i).lrg.Ordered := by
  have out (d : Chan) : i ∉ s.lrg.queues.get d := fun mem => by
    have := (h.placed_iff found).mpr ⟨d, mem⟩
    simp [state] at this
  have joinTail (hd : LotNo) (rest : List LotNo) (queue : s.lrg.queues.get c = hd :: rest) :
      ((s.setLotState i .queued).setQueue c (hd :: rest ++ [i])).lrg.Ordered := by
    refine h.join found analysed out (q := hd :: rest) (by rw [queue]) (fun j _ => ?_) (queue ▸ room)
      (fun d => ?_) ?_ (fun j ne _ => ?_) (fun j x hj out => ?_)
    · rw [LotRegistry.head, queue]
    · rw [State.setQueue_queue, State.setLotState_queues]
    · rw [State.setQueue_lot, State.setLotState_lot, if_pos rfl, found]
      rfl
    · rw [State.setQueue_lot, State.setLotState_lot, if_neg ne]
    · exact absurd (queue ▸ hj) out
  unfold State.enqueue
  split
  next queue =>
    refine h.join (c := c) found analysed out (q := []) (List.nil_sublist _) nofun (by decide) (fun d => ?_) ?_ (fun j ne _ => ?_)
      (fun j x hj => ?_)
    · unfold State.newHead
      rw [State.evaluateOverdrawn_queues, State.setQueue_queue, State.setLotState_queues]
      rfl
    · unfold State.newHead
      rw [State.evaluateOverdrawn_lot, State.setQueue_lot, State.setLotState_lot, if_pos rfl, found]
      rfl
    · unfold State.newHead
      rw [State.evaluateOverdrawn_lot, State.setQueue_lot, State.setLotState_lot, if_neg ne]
    · rw [queue] at hj
      exact absurd hj List.not_mem_nil
  next hd queue =>
    split
    · have ne : i ≠ hd := fun e => out c (by rw [queue, e]; exact List.mem_singleton_self _)
      have lot (j : LotNo) : ((s.setLotState hd .exhausted).newHead c i).lrg.lot j
          = if j = i then ((s.setLotState hd .exhausted).lrg.lot i).map fun r => { r with state := .drawing }
            else (s.setLotState hd .exhausted).lrg.lot j := by
        unfold State.newHead
        rw [State.evaluateOverdrawn_lot, State.setQueue_lot, State.setLotState_lot]
      refine h.join (c := c) found analysed out (q := []) (List.nil_sublist _) nofun (by decide) (fun d => ?_) ?_
        (fun j nej stay => ?_) (fun j x hj _ hx => ?_)
      · unfold State.newHead
        rw [State.evaluateOverdrawn_queues, State.setQueue_queue, State.setLotState_queues, State.setLotState_queues]
        rfl
      · rw [lot, if_pos rfl, State.setLotState_lot, if_neg ne, found]
        rfl
      · have off : j ≠ hd := fun e => by
          rcases stay with mem | nmem
          · exact List.not_mem_nil mem
          · exact nmem (by rw [queue, e]; exact List.mem_singleton_self _)
        rw [lot, if_neg nej, State.setLotState_lot, if_neg off]
      · obtain rfl : j = hd := by rwa [queue, List.mem_singleton] at hj
        rw [lot, if_neg (Ne.symm ne), State.setLotState_lot, if_pos rfl] at hx
        obtain ⟨y, -, rfl⟩ := Option.map_eq_some_iff.mp hx
        exact ⟨nofun, nofun⟩
    · exact joinTail hd [] queue
  next hd rest _ queue => exact joinTail hd rest queue

end LotRegistry.Ordered

/-! ### The commands -/

/-- The queues are in order and the tags apart (R22, R29). -/
def State.LotsSound (s : State) : Prop := s.lrg.Ordered ∧ s.lrg.TagsApart

theorem State.LotsSound.of_lots {s t : State} (h : s.LotsSound) (same : t.lrg = s.lrg) : t.LotsSound := by
  unfold State.LotsSound
  rw [same]
  exact h

/-- A slot that stands in no queue takes another record, or none, off the queues and with a tag of its own. -/
theorem State.LotsSound.replace {s t : State} (h : s.LotsSound) {i : LotNo} (queues : t.lrg.queues = s.lrg.queues)
    (others : ∀ j, j ≠ i → t.lrg.lot j = s.lrg.lot j)
    (out : ∀ r, s.lrg.lot i = some r → r.state ≠ .queued ∧ r.state ≠ .drawing)
    (own : ∀ r, t.lrg.lot i = some r → r.state ≠ .queued ∧ r.state ≠ .drawing
      ∧ ∀ j x, s.lrg.lot j = some x → x.tag ≠ r.tag) : t.LotsSound := by
  obtain ⟨ordered, apart⟩ := h
  have absent {c : Chan} {j : LotNo} (mem : j ∈ s.lrg.queues.get c) : j ≠ i := fun e => by
    obtain ⟨r, found, -, -⟩ := ordered.queued c j mem
    have := (ordered.placed_iff found).mpr ⟨c, mem⟩
    simp [out r (e ▸ found)] at this
  refine ⟨⟨by rw [queues]; exact ordered.short, by rw [queues]; exact ordered.once, by rw [queues]; exact ordered.apart,
    fun c j mem => ?_, fun j r found state => ?_⟩, fun j k r x hj hk same => ?_⟩
  · rw [queues] at mem
    rw [others j (absent mem), LotRegistry.head, queues]
    exact ordered.queued c j mem
  · by_cases e : j = i
    · subst e
      obtain ⟨queued, drawing, -⟩ := own r found
      exact absurd state (by simp [queued, drawing])
    · rw [others j e] at found
      rw [queues]
      exact ordered.placed j r found state
  · by_cases ej : j = i
    · by_cases ek : k = i
      · rw [ej, ek]
      · subst ej
        rw [others k ek] at hk
        exact absurd same.symm ((own r hj).2.2 k x hk)
    · rw [others j ej] at hj
      by_cases ek : k = i
      · subst ek
        exact absurd same ((own x hk).2.2 j r hj)
      · rw [others k ek] at hk
        exact apart j k r x hj hk same

theorem lotsSound_registerLot {p : Port} {f : List Byte} {s : State} (h : s.LotsSound) :
    (ownerRegisterLot p f s).state.LotsSound := by
  unfold ownerRegisterLot
  simp only
  split
  · exact h
  next k _ =>
    split
    · exact h
    · split
      · exact h
      next absent =>
        split
        · exact h
        next i free =>
          have none := LotRegistry.lot_of_freeSlot free
          have lot (j : LotNo) : ((s.register i (.new (field f 0 4) k (field f 5 4))).lrg.lot j)
              = if j = i then some (.new (field f 0 4) k (field f 5 4)) else s.lrg.lot j := by
            unfold State.register LotRegistry.occupy LotRegistry.lot
            simp only
            rw [Tbl.get_modify]
            split <;> rfl
          refine h.replace (i := i) rfl (fun j ne => ?_) (fun r found => ?_) (fun r found => ?_)
          · exact (lot j).trans (if_neg ne)
          · rw [none] at found
            cases found
          · obtain rfl : LotRecord.new (field f 0 4) k (field f 5 4) = r :=
              Option.some.inj (((lot i).trans (if_pos rfl)).symm.trans found)
            exact ⟨nofun, nofun, fun j x hx => LotRegistry.tag_ne_of_findTag (Option.not_isSome_iff_eq_none.mp absent) hx⟩

theorem lotsSound_freeLot {i : LotNo} {r : LotRecord} {s : State} (found : s.lrg.lot i = some r)
    (out : r.state ≠ .queued ∧ r.state ≠ .drawing) (h : s.LotsSound) : (s.freeLot i).LotsSound := by
  have lot (j : LotNo) : (s.freeLot i).lrg.lot j = if j = i then none else s.lrg.lot j := by
    unfold State.freeLot LotRegistry.lot
    simp only
    rw [Tbl.get_modify]
    split <;> rfl
  refine h.replace (i := i) rfl (fun j ne => ?_) (fun x hx => ?_) (fun x hx => ?_)
  · rw [lot, if_neg ne]
  · rw [found] at hx
    cases hx
    exact out
  · rw [lot, if_pos rfl] at hx
    cases hx

theorem lotsSound_retireLot {p : Port} {f : List Byte} {s : State} (h : s.LotsSound) :
    (ownerRetireLot p f s).state.LotsSound := by
  refine withLot_state (P := State.LotsSound) h fun i r found => ?_
  split
  any_goals exact h
  all_goals exact lotsSound_freeLot found (by simp [*]) h

theorem lotsSound_setAnalysis {p : Port} {f : List Byte} {s : State} (h : s.LotsSound) :
    (ownerSetAnalysis p f s).state.LotsSound := by
  refine withLot_state (P := State.LotsSound) h fun i r found => ?_
  have analysed (a : Analysis) : (s.analyse i r a).LotsSound :=
    ⟨h.1.analyse found a, (SameTags.analyse found a).tagsApart h.2⟩
  repeat' split
  any_goals exact h
  all_goals exact analysed _

theorem lotsSound_amendMass {p : Port} {f : List Byte} {s : State} (h : s.LotsSound) :
    (ownerAmendMass p f s).state.LotsSound := by
  refine withLot_state (P := State.LotsSound) h fun i r found => ?_
  repeat' split
  any_goals exact h
  exact ⟨h.1.amend found _, (SameTags.amend found _).tagsApart h.2⟩

theorem lotsSound_quarantineLot {p : Port} {f : List Byte} {s : State} (h : s.LotsSound) :
    (ownerQuarantineLot p f s).state.LotsSound := by
  refine withLot_state (P := State.LotsSound) h fun i r found => ?_
  split
  any_goals exact h
  all_goals exact ⟨h.1.quarantine i, (SameTags.quarantine i s).tagsApart h.2⟩

theorem lotsSound_enqueueLot {p : Port} {f : List Byte} {s : State} (h : s.LotsSound) :
    (ownerEnqueueLot p f s).state.LotsSound := by
  refine withLot_state (P := State.LotsSound) h fun i r found => ?_
  split
  · exact h
  · split
    next a state analysis =>
      split
      · exact h
      · split
        · exact h
        · split
          · exact h
          next room =>
            exact ⟨h.1.enqueue found (by rw [analysis]; rfl) state (by omega), (SameTags.enqueue ..).tagsApart h.2⟩
    next => exact h

theorem lotsSound_dequeueLot {p : Port} {f : List Byte} {s : State} (h : s.LotsSound) :
    (ownerDequeueLot p f s).state.LotsSound := by
  refine withLot_state (P := State.LotsSound) h fun i r found => ?_
  split
  next c _ state place =>
    have mem := LotRegistry.mem_of_position place
    have later : s.lrg.head c ≠ some i := fun first => by
      have := h.1.state_eq mem found
      simp [state, first] at this
    exact ⟨h.1.leaveQueue mem later ⟨nofun, nofun⟩, (SameTags.leaveQueue ..).tagsApart h.2⟩
  next c _ _ _ =>
    split
    · exact h
    · exact ⟨h.1.succession c ⟨nofun, nofun⟩, (SameTags.succession ..).tagsApart h.2⟩
  next => exact h

theorem lotsSound_feed (c : Chan) (k : Nat) {s : State} (h : s.LotsSound) : (s.feed c k).LotsSound := by
  have charged {t : State} (ht : t.LotsSound) : (t.debit c k).2.LotsSound :=
    ⟨ht.1.charge .., (SameTags.charge ..).tagsApart ht.2⟩
  unfold State.feed
  refine State.LotsSound.of_lots ?_ (foldl_keeps State.lrg (fun s p => (Touches.takePart c _ p s).lots) _ _)
  exact charged (h.of_lots rfl)

theorem lotsSound_pulse (c : Chan) {s : State} (h : s.LotsSound) : (s.pulse c).LotsSound := by
  unfold State.pulse State.weigh
  simp only
  split
  · exact h
  · split
    · exact h
    · exact lotsSound_feed c _ (h.of_lots rfl)

theorem start_lrg (x : ResetCause) (s : State) : (s.start x).lrg = .start := by
  unfold State.start
  rw [(Touches.reconcileStore _).lots, (Touches.reconcileAll _).lots]
  rfl

theorem lotsSound_start (x : ResetCause) (s : State) : (s.start x).LotsSound := by
  have queues (c : Chan) : LotRegistry.start.queues.get c = [] := Tbl.get_all ..
  have lots (i : LotNo) : LotRegistry.start.lot i = none := by simp [LotRegistry.start, LotRegistry.lot]
  unfold State.LotsSound
  rw [start_lrg]
  refine ⟨⟨fun c => ?_, fun c => ?_, fun c d i mem => ?_, fun c i mem => ?_, fun i r found => ?_⟩,
    fun i j r r' found => ?_⟩
  · rw [queues]; exact Nat.zero_le _
  · rw [queues]; exact List.nodup_nil
  · rw [queues] at mem; cases mem
  · rw [queues] at mem; cases mem
  · rw [lots] at found; cases found
  · rw [lots] at found; cases found

theorem kept_lotsSound : Kept State.LotsSound where
  ports s t same h := h.of_lots (by rw [same])
  owner k p f s _ h := by
    have untouched (out : .lots ∉ touchedBy k) : (ownerOf k p f s).state.LotsSound :=
      h.of_lots ((Touches.owner k p f s).lots out)
    cases k with
    | registerLot => exact lotsSound_registerLot (p := p) h
    | retireLot => exact lotsSound_retireLot (p := p) h
    | setAnalysis => exact lotsSound_setAnalysis (p := p) h
    | amendMass => exact lotsSound_amendMass (p := p) h
    | quarantineLot => exact lotsSound_quarantineLot (p := p) h
    | enqueueLot => exact lotsSound_enqueueLot (p := p) h
    | dequeueLot => exact lotsSound_dequeueLot (p := p) h
    | _ => exact untouched (of_decide_eq_true rfl)
  event e s _ h := by
    have untouched (out : .lots ∉ e.touched) : (e.run s).LotsSound := h.of_lots ((Touches.event e s).lots out)
    cases e with
    | pulse c => exact lotsSound_pulse c h
    | start x => exact lotsSound_start x s
    | _ => exact untouched (of_decide_eq_true rfl)

/-- Settles O49: a lot joins a queue only from outside, and leaves it with its state. -/
theorem queuesStayOrdered : Obligations.QueuesStayOrdered :=
  fun _ _ ordered apart stepped => kept_lotsSound.step ⟨ordered, apart⟩ stepped

end Sys2Proof.Machine
end

section
/-!
Proofs. How channels are driven.  Outside of starts, stops, pairings, firing periods and restarts, every operation
moves the channels by freezing, running, tripping and falling back alone; a condition that these keep is kept by all
of them.
-/
set_option Elab.async false

namespace Sys2Proof.Machine

/-- Every aspect but the phase, the trip line, the channels' configuration and states, the flows and the feeders. -/
abbrev undriven : List Aspect := [.queue, .points, .lots, .link, .offs, .losses, .alarmHolds, .masses, .demands,
  .cooler, .alarms, .pointAlarms, .rules, .shift, .tallies, .clock, .access, .store, .settings]

/-- The second state comes from the first by such moves of its channels. -/
inductive Moves : State → State → Prop
  | quiet {s t : State} (h : Touches undriven s t) : Moves s t
  | freeze (c : Chan) (s : State) : Moves s (s.freeze c)
  | run (c : Chan) (s : State) (h : (s.chan c).state = .starting ∨ (s.chan c).state = .holding) :
      Moves s (s.enterRunning c)
  | tripTaken (c : Chan) (x : TripCause) (s : State) (h : (s.chan c).state ≠ .tripped) : Moves s (s.tripTaken c x)
  | fallBack (c : Chan) (s : State) : Moves s (s.fallBack c)
  | configure (c : Chan) (cf : ChannelConfig) (s : State) (h : cf.halves = (s.chan c).config.halves) :
      Moves s (s.setChanConfig c cf)
  | stallTime (c : Chan) (n : Nat) (s : State) : Moves s (s.setFeeder c { s.feeder c with stallTime := n })
  | trans {s t u : State} (a : Moves s t) (b : Moves t u) : Moves s u

/-- The events that drive channels in other ways. -/
def Event.drives : Event → Bool
  | .halt _ | .start _ | .startUpEnds | .lineAsserted | .lineDeasserted | .firingPeriod | .windowBoundary _ | .pulse _
  | .stallExpires _ | .trimInterval _ => true
  | .refresh | .saveCompletes _ | .age | .startExpires _ | .supervisionExpires | .holdExpires | .coolerPeriod
  | .flushExpires | .shelvingTick | .shelfEnds _ | .shiftSecond | .closeAccess => false

namespace Moves

variable {s t u : State} {p : Port} {f : List Byte}

theorem refl (s : State) : Moves s s := quiet (.refl _ s)

/-- An operation that touches no driven aspect moves no channel. -/
theorem of {l : List Aspect} (h : Touches l s t) (sub : l ⊆ undriven := by exact of_decide_eq_true rfl) : Moves s t :=
  quiet (h.mono sub)

theorem foldl {α : Type} {f : State → α → State} (h : ∀ s a, Moves s (f s a)) (l : List α) (s : State) :
    Moves s (l.foldl f s) := by
  induction l generalizing s with
  | nil => exact refl s
  | cons a l ih => exact (h s a).trans (ih _)

/-- A state that differs in the alarm table and the shift tally unit alone. -/
theorem records (h : t = { s with alt := t.alt, sht := t.sht }) : Moves s t := by
  rw [h]
  exact quiet .of

/-! ### Holds and trips -/

theorem resume (c : Chan) (s : State) : Moves s (s.resume c) := by
  unfold State.resume
  split
  next h => exact run c s (.inr h.1)
  next => exact refl s

theorem holdAction (c : Chan) (id : Identity) (s : State) : Moves s (s.holdAction c id) :=
  (quiet (.setChan c _ s)).trans (freeze c _)

theorem holdRelease (c : Chan) (id : Identity) (s : State) : Moves s (s.holdRelease c id) := by
  unfold State.holdRelease
  simp only
  split
  · exact (quiet (.setChan c _ s)).trans (resume c _)
  · exact refl s

theorem trip (c : Chan) (x : TripCause) (s : State) : Moves s (s.trip c x) := by
  unfold State.trip
  split
  · exact refl s
  · exact refl s
  all_goals
    next h => exact tripTaken c x s (by simp [h])

theorem tripAction (r : TripRule) (s : State) : Moves s (s.tripAction r) := by
  unfold State.tripAction
  split
  · exact holdAction ..
  · exact trip ..
  · refine foldl (fun s c => ?_) _ s
    split
    · exact trip ..
    · exact refl s
  · exact foldl (fun s c => trip c _ s) _ s

theorem setInForce (e : EntryNo) (b : Bool) (s : State) : Moves s (s.setInForce e b) := records rfl

theorem entryIntoForce (e : EntryNo) (s : State) : Moves s (s.entryIntoForce e) := by
  unfold State.entryIntoForce
  split
  · exact refl s
  · split
    · exact (setInForce ..).trans (tripAction ..)
    · exact refl s

theorem intoForce (id : Identity) (s : State) : Moves s (s.intoForce id) :=
  foldl (fun s e => by
    split
    · exact entryIntoForce e s
    · exact refl s) _ s

theorem entryOutOfForce (e : EntryNo) (s : State) : Moves s (s.entryOutOfForce e) := by
  unfold State.entryOutOfForce
  split
  · exact (setInForce ..).trans (holdRelease ..)
  · exact setInForce ..
  · exact refl s

theorem outOfForce (id : Identity) (s : State) : Moves s (s.outOfForce id) :=
  foldl (fun s e => by
    split
    · exact entryOutOfForce e s
    · exact refl s) _ s

/-! ### Reports -/

theorem settle (s : State) : Moves s s.settle := records rfl

theorem tableFullComes (s : State) : Moves s s.tableFullComes := by
  refine records ?_
  unfold State.tableFullComes
  simp only
  split <;> rfl

theorem comesOnRecords (id : Identity) (k : Condition) (s : State) : Moves s (s.comesOnRecords id k) := by
  unfold State.comesOnRecords
  split
  · split
    · exact records rfl
    · exact refl s
  · split
    · exact records rfl
    · exact (records rfl).trans (tableFullComes _)

theorem goesOnRecords (id : Identity) (k : Condition) (s : State) : Moves s (s.goesOnRecords id k) := by
  have gone : Moves s (s.setAlt (s.alt.setCondition id none)) := records rfl
  unfold State.goesOnRecords
  simp only
  split
  · refine gone.trans (records ?_)
    rw [State.tableFullCheck_alone]
    rfl
  · repeat' split
    · exact gone
    · exact gone
    · exact gone.trans (of (.retire ..))
    · exact gone.trans (records rfl)

theorem cameNotice (x : Priority) (s : State) : Moves s (s.cameNotice x) := records rfl

theorem comesAfresh (id : Identity) (l : Option Level) (x : Priority) (s : State) : Moves s (s.comesAfresh id l x) :=
  (((comesOnRecords ..).trans (intoForce ..)).trans (cameNotice ..)).trans (settle _)

theorem levelOfPresent (id : Identity) (k : Condition) (l : Option Level) (x : Priority) (s : State) :
    Moves s (s.levelOfPresent id k l x) := by
  unfold State.levelOfPresent
  simp only
  refine trans (trans ?_ (intoForce ..)) (settle _)
  repeat' split
  all_goals exact records rfl

theorem comes (id : Identity) (l : Option Level) (x : Priority) (s : State) : Moves s (s.comes id l x) := by
  unfold State.comes
  split
  · exact comesAfresh ..
  · split
    · exact levelOfPresent ..
    · exact records rfl

theorem levelChanges (id : Identity) (l : Option Level) (x : Priority) (s : State) :
    Moves s (s.levelChanges id l x) := by
  unfold State.levelChanges
  split
  · exact comesAfresh ..
  · exact levelOfPresent ..

theorem goes (id : Identity) (s : State) : Moves s (s.goes id) := by
  unfold State.goes
  split
  · exact refl s
  · exact ((goesOnRecords ..).trans (outOfForce ..)).trans (settle _)

theorem comesFixed (id : Identity) (s : State) : Moves s (s.comesFixed id) := comes ..

theorem report (r : Report) (s : State) : Moves s (s.report r) := by
  cases r with
  | comes id l x => exact comes ..
  | goes id => exact goes ..
  | level id l x => exact levelChanges ..

/-! ### Points, trips of every channel -/

theorem reconcile (n : PointNo) (s : State) : Moves s (s.reconcile n) :=
  (of (.setPoint n _ s)).trans (foldl (fun s r => report r s) _ _)

theorem offNotice (c : Chan) (b : Bool) (s : State) : Moves s (s.offNotice c b) := by
  have mark : Touches undriven s { s with ptb := { s.ptb with offMarks := s.ptb.offMarks.put c b } } := .of
  exact (quiet mark).trans (foldl (fun s n => reconcile n s) _ _)

theorem tripEvery (x : TripCause) (s : State) : Moves s (s.tripEvery x) := by
  unfold State.tripEvery
  refine trans (t := allChans.foldl
    (fun s c => if (s.chan c).state = .tripped then s else s.tripTaken c x) s) ?_ ?_
  · refine foldl (fun s c => ?_) _ s
    split
    next => exact refl s
    next h => exact tripTaken c x s h
  · exact foldl (fun s c => offNotice c false s) _ _

theorem tripLineTaken (s : State) : Moves s s.tripLineTaken := (tripEvery .tripLine s).trans (comesFixed ..)

/-! ### Lots -/

theorem setOverdrawn (c : Chan) (b : Bool) (s : State) : Moves s (s.setOverdrawn c b) := by
  have mark : Touches undriven s { s with lrg := { s.lrg with overdrawn := s.lrg.overdrawn.put c b } } := .of
  unfold State.setOverdrawn
  simp only
  split
  · exact refl s
  · split
    · exact (quiet mark).trans (comesFixed ..)
    · exact (quiet mark).trans (goes ..)

theorem evaluateOverdrawn (c : Chan) (s : State) : Moves s (s.evaluateOverdrawn c) := by
  rcases State.evaluateOverdrawn_cases c s with h | h <;> rw [h]
  · exact refl s
  · exact setOverdrawn ..

theorem succession (c : Chan) (x : LotState) (s : State) : Moves s (s.succession c x) := by
  unfold State.succession
  split
  · exact refl s
  · exact (of ((Touches.setLotState ..).trans (Touches.setQueue ..))).trans (evaluateOverdrawn ..)
  · exact (of (((Touches.setLotState ..).trans (Touches.setLotState ..)).trans (Touches.setQueue ..))).trans
      (evaluateOverdrawn ..)

theorem lotRejected (c : Chan) (s : State) : Moves s (s.lotRejected c) :=
  ((trip ..).trans (comesFixed ..)).trans (goes ..)

theorem quarantine (i : LotNo) (s : State) : Moves s (s.quarantine i) := by
  unfold State.quarantine
  split
  · split
    · simp only
      split
      · exact succession ..
      · exact (succession ..).trans (lotRejected ..)
    · exact of (.leaveQueue ..)
  · exact of (.setLotState ..)

theorem charge (c : Chan) (q : List LotNo) (k : Nat) (s : State) : Moves s (State.charge c q k s).2 := by
  induction q generalizing k s with
  | nil => exact setOverdrawn ..
  | cons h rest ih =>
    unfold State.charge
    split
    · exact setOverdrawn ..
    · split
      · exact of (.setLot ..)
      · simp only
        split
        · exact (of (.setLot ..)).trans (setOverdrawn ..)
        · exact ((of (.setLot ..)).trans (succession ..)).trans (ih _ _)

theorem analyse (i : LotNo) (r : LotRecord) (a : Analysis) (s : State) : Moves s (s.analyse i r a) := by
  have written : Moves s (s.setLot i (r.analysed a)) := of (.setLot ..)
  unfold State.analyse
  simp only
  split
  · exact written
  · split
    · exact written.trans (quarantine ..)
    · exact written

theorem amend (i : LotNo) (r : LotRecord) (n : Nat) (s : State) : Moves s (s.amend i r n) := by
  have written : Moves s (s.setLot i { r with remaining := n }) := of (.setLot ..)
  unfold State.amend
  simp only
  repeat' split
  · exact written.trans (setOverdrawn ..)
  · exact written.trans (succession ..)
  · exact written
  · exact written

theorem newHead (c : Chan) (i : LotNo) (s : State) : Moves s (s.newHead c i) :=
  (of ((Touches.setLotState ..).trans (Touches.setQueue ..))).trans (evaluateOverdrawn ..)

theorem enqueue (c : Chan) (i : LotNo) (s : State) : Moves s (s.enqueue c i) := by
  unfold State.enqueue
  repeat' split
  · exact newHead ..
  · exact (of (.setLotState ..)).trans (newHead ..)
  · exact of ((Touches.setLotState ..).trans (Touches.setQueue ..))
  · exact of ((Touches.setLotState ..).trans (Touches.setQueue ..))

/-! ### The control link, the store -/

theorem holdForLoss (c : Chan) (s : State) : Moves s (s.holdForLoss c) := by
  unfold State.holdForLoss
  split
  all_goals first | exact refl s | exact (quiet (.setChan c _ s)).trans (freeze ..)

theorem endLoss (s : State) : Moves s s.endLoss := by
  unfold State.endLoss
  simp only
  refine trans ?_ (foldl (fun s c => resume c s) allChans _)
  refine trans ?_ (goes (.system .controlLost) _)
  refine trans ?_ (foldl (fun s c => of (.clearLoss c s)) allChans _)
  exact of (.setSupervision _ s)

theorem refresh (s : State) : Moves s s.refresh := by
  unfold State.refresh
  split
  · exact of (.setSupervision _ s)
  all_goals exact endLoss s

theorem holdRunsOut (s : State) : Moves s s.holdRunsOut := by
  unfold State.holdRunsOut
  exact (of (.setSupervision _ s)).trans (foldl (fun s c => fallBack c s) _ _)

theorem lossHeld (s : State) : Moves s s.lossHeld := by
  unfold State.lossHeld
  refine trans ?_ (foldl (fun s c => holdForLoss c s) _ _)
  refine trans ?_ (of (.closeAccess _))
  refine trans ?_ (comesFixed (.system .controlLost) _)
  exact of (.setSupervision _ s)

theorem linkLost (s : State) : Moves s s.linkLost := by
  rw [State.linkLost_eq]
  split
  · exact (lossHeld s).trans (holdRunsOut _)
  · exact (lossHeld s).trans (of (.setHoldTimer _ _))

theorem reconcileStore (s : State) : Moves s s.reconcileStore := by
  have field : Touches undriven s { s with sst := { s.sst with reportedFault := !s.sst.imageValid } } := .of
  unfold State.reconcileStore
  simp only
  split
  · exact refl s
  · split
    · exact (quiet field).trans (goes ..)
    · exact (quiet field).trans (comesFixed ..)

theorem reconcileAll (s : State) : Moves s s.reconcileAll := foldl (fun s n => reconcile n s) _ s

theorem resendOverdrawn (s : State) : Moves s s.resendOverdrawn :=
  foldl (fun s c => by
    split
    · exact comesFixed ..
    · exact refl s) _ s

theorem resendTripLine (s : State) : Moves s s.resendTripLine := by
  unfold State.resendTripLine
  split
  · exact tripLineTaken s
  · exact refl s

theorem resendStore (s : State) : Moves s s.resendStore := (quiet .of).trans (reconcileStore _)

theorem resendLocked (s : State) : Moves s s.resendLocked := by
  unfold State.resendLocked
  split
  · exact (of (.setAccess _ s)).trans (comesFixed ..)
  · exact refl s

/-- What a warm restart re-sends, over the blocks as they restarted. -/
theorem warmResent (s : State) : Moves s.blocksWarm s.warmRestart := by
  unfold State.warmRestart
  simp only
  refine trans ?_ (resendLocked _)
  refine trans ?_ (resendStore _)
  refine trans ?_ (resendTripLine _)
  refine trans ?_ (resendOverdrawn _)
  exact (of (.reportNotice ..)).trans (reconcileAll _)

/-! ### The cooler's reports -/

theorem heldReport (s : State) : Moves s s.heldReport := by
  have field : Moves s (s.setCooler { s.clc with reportedHeld := s.clc.mode == .held }) := of (.setCooler _ s)
  unfold State.heldReport
  simp only
  split
  · exact refl s
  · split
    · exact field.trans (comesFixed ..)
    · exact field.trans (goes ..)

theorem flushReport (s : State) : Moves s s.flushReport := by
  have field : Moves s (s.setCooler { s.clc with reportedFlush := s.clc.flushTimer.isSome }) := of (.setCooler _ s)
  unfold State.flushReport
  simp only
  split
  · exact refl s
  · split
    · exact field.trans (comesFixed ..)
    · exact field.trans (goes ..)

theorem airShortReport (s : State) : Moves s s.airShortReport := by
  have field : Moves s (s.setCooler { s.clc with reportedAirShort := s.clc.airShortDue }) := of (.setCooler _ s)
  unfold State.airShortReport
  simp only
  split
  · exact refl s
  · split
    · exact field.trans (comesFixed ..)
    · exact field.trans (goes ..)

theorem enterManual (s : State) : Moves s s.enterManual := by
  unfold State.enterManual
  refine trans (trans ?_ (airShortReport _)) (heldReport _)
  exact of (.setCooler _ s (compartments := fun n => by simp))

theorem coolerPeriod (s : State) : Moves s s.coolerPeriod := by
  unfold State.coolerPeriod
  have ran : Moves s (s.setCooler (s.clc.period s.pressuresRead s.coolerReadings (s.timer s.clc.config.flushTime))) :=
    quiet .of
  simp only
  refine trans (trans (trans ?_ (heldReport _)) (flushReport _)) (airShortReport _)
  split
  · exact ran.trans (of (.flushEntry _))
  · exact ran

theorem flushExpires (s : State) : Moves s s.flushExpires := by
  unfold State.flushExpires State.flushRunsOut
  split
  · simp only
    exact ((of (.setCooler _ s)).trans (of (.flushEnd _))).trans (flushReport _)
  · exact refl s

/-! ### The trip map -/

theorem oldEntryOut (e : EntryNo) (s : State) : Moves s (s.oldEntryOut e) := by
  unfold State.oldEntryOut
  split
  · split
    · exact setInForce ..
    · exact (setInForce ..).trans (holdRelease ..)
  · exact setInForce ..

theorem replaceEntry (e : EntryNo) (x : Option TripRule) (s : State) : Moves s (s.replaceEntry e x) := by
  have written : Moves s ((s.oldEntryOut e).writeEntry e x) := (oldEntryOut e s).trans (records rfl)
  unfold State.replaceEntry
  simp only
  split
  · exact written
  · exact ((written.trans (of (.shelvingEnds ..))).trans (entryIntoForce ..)).trans (settle _)

/-! ### Owners -/

/-- The kinds whose owners drive channels in other ways. -/
abbrev drivingKinds : List Kind := [.startChannel, .stopChannel, .clearTrip, .setFlowLimits, .setCalibration, .warmRestart]

theorem ownerAccessOpen : Moves s (ownerAccessOpen p f s).state := by
  unfold Machine.ownerAccessOpen
  split
  · exact refl s
  · split
    · exact of ((Touches.setAccess _ s).trans (Touches.startOpenTimer _))
    · split
      · exact of (.setAccess _ s)
      · unfold State.lockOut
        exact (of ((Touches.setAccess _ s).trans (Touches.closeAccess _))).trans (comesFixed ..)

theorem ownerSetTripEntry : Moves s (ownerSetTripEntry p f s).state := by
  unfold Machine.ownerSetTripEntry
  split
  · exact refl s
  · split
    · exact (replaceEntry ..).trans (of (.startOpenTimer _))
    · exact refl s

theorem ownerCoolerMode : Moves s (ownerCoolerMode p f s).state := by
  unfold Machine.ownerCoolerMode
  split
  · split
    · exact refl s
    · exact enterManual s
  · split
    · exact of (.setCooler _ s)
    · exact refl s
  · exact refl s

theorem ownerSetChannelFuel : Moves s (ownerSetChannelFuel p f s).state := by
  refine withChan_state (refl s) fun c => ?_
  repeat' split
  any_goals exact refl s
  exact trans (configure c _ s (by rfl)) (of (.startOpenTimer _))

theorem ownerSetLotClLimit : Moves s (ownerSetLotClLimit p f s).state := by
  refine withChan_state (refl s) fun c => ?_
  repeat' split
  any_goals exact refl s
  exact trans (configure c _ s (by rfl)) (of (.startOpenTimer _))

theorem ownerHoldChannel : Moves s (ownerHoldChannel p f s).state := by
  refine withChan_state (refl s) fun c => ?_
  split
  · exact refl s
  · exact (of (.setOperatorHold c true s)).trans (freeze ..)

theorem ownerReleaseHold : Moves s (ownerReleaseHold p f s).state := by
  refine withChan_state (refl s) fun c => ?_
  split
  · exact refl s
  · exact (of (.setOperatorHold c false s)).trans (resume ..)

theorem ownerSetStallTime : Moves s (ownerSetStallTime p f s).state := by
  refine withChan_state (refl s) fun c => ?_
  split
  · exact refl s
  · exact stallTime ..

theorem ownerSetAnalysis : Moves s (ownerSetAnalysis p f s).state := by
  refine withLot_state (refl s) fun i r _ => ?_
  repeat' split
  any_goals exact refl s
  all_goals exact analyse ..

theorem ownerAmendMass : Moves s (ownerAmendMass p f s).state := by
  refine withLot_state (refl s) fun i r _ => ?_
  repeat' split
  any_goals exact refl s
  exact amend ..

theorem ownerQuarantineLot : Moves s (ownerQuarantineLot p f s).state := by
  refine withLot_state (refl s) fun i r _ => ?_
  split
  any_goals exact refl s
  all_goals exact quarantine ..

theorem ownerEnqueueLot : Moves s (ownerEnqueueLot p f s).state := by
  refine withLot_state (refl s) fun i r _ => ?_
  repeat' split
  any_goals exact refl s
  exact enqueue ..

theorem ownerDequeueLot : Moves s (ownerDequeueLot p f s).state := by
  refine withLot_state (refl s) fun i r _ => ?_
  repeat' split
  any_goals exact refl s
  · exact of (.leaveQueue ..)
  · exact succession ..

theorem ownerPointUpdate : Moves s (ownerPointUpdate p f s).state := by
  unfold Machine.ownerPointUpdate
  split
  · exact refl s
  · exact foldl (fun s e => (of (.setPoint _ _ s)).trans (reconcile ..)) _ s

theorem configurePoint (n : PointNo) (r : PointRecord) (s : State) : Moves s ((s.setPoint n r).reconcile n) :=
  (quiet .of).trans (reconcile n _)

theorem ownerSetLimits : Moves s (ownerSetLimits p f s).state := by
  unfold Machine.ownerSetLimits
  simp only
  repeat' split
  any_goals exact refl s
  unfold State.writeLimits taken
  simp only
  split
  · exact (configurePoint ..).trans (of (.startOpenTimer _))
  · exact configurePoint ..

theorem ownerSetPointConfig : Moves s (ownerSetPointConfig p f s).state := by
  unfold Machine.ownerSetPointConfig
  repeat' split
  any_goals exact refl s
  exact configurePoint ..

theorem owner (k : Kind) (p : Port) (f : List Byte) (s : State) (ordinary : k ∉ drivingKinds) :
    Moves s (ownerOf k p f s).state := by
  cases k with
  | accessOpen => exact ownerAccessOpen (p := p) (f := f)
  | setTripEntry => exact ownerSetTripEntry (p := p) (f := f)
  | coolerMode => exact ownerCoolerMode (p := p) (f := f)
  | setChannelFuel => exact ownerSetChannelFuel (p := p) (f := f)
  | setLotClLimit => exact ownerSetLotClLimit (p := p) (f := f)
  | setShare => exact withChan_state (refl s) fun c => configure c _ s rfl
  | emergencyStop => exact tripEvery _ s
  | holdChannel => exact ownerHoldChannel (p := p) (f := f)
  | releaseHold => exact ownerReleaseHold (p := p) (f := f)
  | setStallTime => exact ownerSetStallTime (p := p) (f := f)
  | setAnalysis => exact ownerSetAnalysis (p := p) (f := f)
  | amendMass => exact ownerAmendMass (p := p) (f := f)
  | quarantineLot => exact ownerQuarantineLot (p := p) (f := f)
  | enqueueLot => exact ownerEnqueueLot (p := p) (f := f)
  | dequeueLot => exact ownerDequeueLot (p := p) (f := f)
  | pointUpdate => exact ownerPointUpdate (p := p) (f := f)
  | setLimits => exact ownerSetLimits (p := p) (f := f)
  | setPointConfig => exact ownerSetPointConfig (p := p) (f := f)
  | startChannel | stopChannel | clearTrip | setFlowLimits | setCalibration | warmRestart =>
    exact absurd (of_decide_eq_true rfl) ordinary
  | _ => exact of (.owner _ p f s) (of_decide_eq_true rfl)

/-! ### Events -/

theorem saveCompletes (b : Bool) (s : State) : Moves s (s.saveCompletes b) := by
  unfold State.saveCompletes
  split
  · exact refl s
  · exact (quiet .of).trans (reconcileStore _)

theorem age (s : State) : Moves s s.age := by
  unfold State.age
  refine trans (quiet .of) (foldl (fun s n => ?_) _ _)
  unfold State.staleCheck
  split
  · exact (of (.setPoint _ _ s)).trans (reconcile ..)
  · exact refl s

theorem event (e : Event) (s : State) (ordinary : e.drives = false) : Moves s (e.run s) := by
  cases e with
  | refresh => exact refresh s
  | saveCompletes b => exact saveCompletes b s
  | age => exact age s
  | startExpires c =>
    show Moves s (s.startExpires c)
    unfold State.startExpires
    split
    next h => exact run c s (.inl h.1)
    next => exact refl s
  | supervisionExpires =>
    show Moves s s.supervisionExpires
    unfold State.supervisionExpires
    split
    · exact linkLost s
    · exact refl s
  | holdExpires =>
    show Moves s s.holdExpires
    unfold State.holdExpires
    split
    · exact holdRunsOut s
    · exact refl s
  | coolerPeriod => exact coolerPeriod s
  | flushExpires => exact flushExpires s
  | shelvingTick => exact of (.shelvingTick s)
  | shelfEnds i => exact of (.shelfEnds i s)
  | shiftSecond => exact of (.shiftSecond s)
  | closeAccess => exact of (.closeAccess s)
  | _ => exact absurd ordinary nofun

end Moves

end Sys2Proof.Machine
end

section
/-!
Proofs. The promise of the trip line (R53, R54, R57): `TripsStayInForce`.
-/
set_option Elab.async false

namespace Sys2Proof.Machine

/-! ### Channel by channel -/

/-- An operation on one channel, folded over channels without repeats, acts once on each of them. -/
theorem foldl_chans {α : Type} (view : State → Chan → α) (f : State → Chan → State) (g : Chan → α → α)
    (h : ∀ s c d, view (f s c) d = if d = c then g c (view s c) else view s d) (l : List Chan) (once : l.Nodup)
    (s : State) (d : Chan) : view (l.foldl f s) d = if d ∈ l then g d (view s d) else view s d := by
  induction l generalizing s with
  | nil => simp
  | cons c l ih =>
    obtain ⟨out, once⟩ := List.nodup_cons.mp once
    rw [List.foldl_cons, ih once, h]
    by_cases e : d = c
    · subst e
      simp [out]
    · simp [e]

theorem allChans_nodup : allChans.Nodup := List.nodup_finRange 6

/-! ### What the moves write -/

theorem State.freeze_chan (c d : Chan) (s : State) : (s.freeze c).chan d
    = if d = c ∧ ((s.chan c).state = .starting ∨ (s.chan c).state = .running) then
        { s.chan c with state := .holding, startTimer := none }
      else s.chan d := by
  unfold State.freeze
  split
  all_goals
    next h => simp [h, State.setChan_chan]

@[simp] theorem State.freeze_fsc (c : Chan) (s : State) : (s.freeze c).fsc = s.fsc := by
  unfold State.freeze
  split <;> rfl

@[simp] theorem State.freeze_fdi (c : Chan) (s : State) : (s.freeze c).fdi = s.fdi := by
  unfold State.freeze
  split <;> rfl

theorem State.enterRunning_chan (c d : Chan) (s : State) : (s.enterRunning c).chan d
    = if d = c then { s.chan c with state := .running, startTimer := none } else s.chan d := by
  unfold State.enterRunning
  split
  · rw [State.drive_chan, State.setChan_chan]
  · rw [State.setChan_chan]

@[simp] theorem State.enterRunning_target (c : Chan) (s : State) : (s.enterRunning c).fsc.target = s.fsc.target := by
  unfold State.enterRunning
  split <;> rfl

theorem State.enterRunning_setpoint (c d : Chan) (s : State) : (s.enterRunning c).setpoint d
    = if d = c then max (s.setpoint c) (s.chan c).minFlow else s.setpoint d := by
  unfold State.enterRunning
  split
  next below =>
    split
    next e => rw [e, State.drive_setpoint_self]; omega
    next ne => rw [State.drive_setpoint_ne ne, State.setChan_setpoint]
  next above =>
    rw [State.setChan_setpoint]
    split
    next e => rw [e]; omega
    next => rfl

theorem State.enterRunning_feeder (c d : Chan) (s : State) : (s.enterRunning c).feeder d
    = if d = c ∧ s.setpoint c < (s.chan c).minFlow then
        { s.feeder c with pendingRate := rateOf (s.feeder c) (s.chan c).minFlow }
      else s.feeder d := by
  unfold State.enterRunning
  split
  next below =>
    by_cases e : d = c
    · subst e
      simp [below]
    · simp [e, State.drive_feeder_ne e]
  next above => simp [above]

theorem State.tripTaken_chan (c d : Chan) (x : TripCause) (s : State) : (s.tripTaken c x).chan d
    = if d = c then { s.chan c with state := .tripped, tripCause := some x, startTimer := none } else s.chan d :=
  State.setChan_chan c d _ s

theorem State.tripTaken_setpoint (c d : Chan) (x : TripCause) (s : State) :
    (s.tripTaken c x).setpoint d = if d = c then 0 else s.setpoint d := Tbl.get_put ..

theorem State.tripTaken_target (c d : Chan) (x : TripCause) (s : State) :
    (s.tripTaken c x).fsc.target.get d = if d = c then 0 else s.fsc.target.get d := Tbl.get_put ..

theorem State.tripTaken_feeder (c d : Chan) (x : TripCause) (s : State) :
    (s.tripTaken c x).feeder d = if d = c then (s.feeder c).zeroed else s.feeder d := Tbl.get_put ..

theorem State.drive_setpoint (c d : Chan) (v : Nat) (s : State) :
    (s.drive c v).setpoint d = if d = c then v else s.setpoint d := Tbl.get_put ..

theorem State.drive_feeder (c d : Chan) (v : Nat) (s : State) : (s.drive c v).feeder d
    = if d = c then { s.feeder c with pendingRate := rateOf (s.feeder c) v } else s.feeder d := Tbl.get_put ..

@[simp] theorem State.fallBack_chan (c d : Chan) (s : State) : (s.fallBack c).chan d = s.chan d := by
  unfold State.fallBack
  simp only
  split <;> rfl

/-! ### The phase, the line and the trips in the moves -/

namespace Moves

variable {s t : State}

theorem phase_line (h : Moves s t) : t.phase = s.phase ∧ t.tripLine = s.tripLine := by
  induction h with
  | quiet h => exact ⟨h.phase, h.line⟩
  | freeze c s =>
    have h := Touches.freeze c s
    exact ⟨h.phase, h.line⟩
  | run c s on =>
    have h := Touches.enterRunning c s (by rcases on with h | h <;> simp [h])
    exact ⟨h.phase, h.line⟩
  | tripTaken c x s _ => exact ⟨rfl, rfl⟩
  | fallBack c s =>
    have h := Touches.fallBack c s
    exact ⟨h.phase, h.line⟩
  | configure => exact ⟨rfl, rfl⟩
  | stallTime => exact ⟨rfl, rfl⟩
  | trans _ _ a b => exact ⟨b.1.trans a.1, b.2.trans a.2⟩

/-- No move takes a channel out of CH_TRIPPED. -/
theorem tripped (h : Moves s t) {d : Chan} (on : (s.chan d).state = .tripped) : (t.chan d).state = .tripped := by
  induction h with
  | quiet h => rw [(h.runs (of_decide_eq_true rfl) d).1]; exact on
  | freeze c s =>
    rw [State.freeze_chan]
    split
    next h =>
      obtain ⟨rfl, h | h⟩ := h <;> rw [h] at on <;> cases on
    next => exact on
  | run c s h =>
    rw [State.enterRunning_chan]
    split
    next e =>
      subst e
      rcases h with h | h <;> rw [h] at on <;> cases on
    next => exact on
  | tripTaken c x s _ =>
    rw [State.tripTaken_chan]
    split
    · rfl
    · exact on
  | fallBack c s => rw [State.fallBack_chan]; exact on
  | configure c cf s _ =>
    unfold State.setChanConfig
    rw [State.setChan_chan]
    split
    next e => rw [← e]; exact on
    next => exact on
  | stallTime => exact on
  | trans _ _ a b => exact b (a on)

end Moves

/-- The trip of every channel, before the channel-off notices (R53). -/
theorem tripAll_tripped (x : TripCause) (s : State) (d : Chan) : ((allChans.foldl
    (fun s c => if (s.chan c).state = .tripped then s else s.tripTaken c x) s).chan d).state = .tripped := by
  rw [foldl_chans (fun s d => (s.chan d).state) _ (fun _ _ => .tripped) ?_ _ allChans_nodup, if_pos (by simp)]
  intro s c d
  split
  next h => split <;> simp_all
  next =>
    rw [State.tripTaken_chan]
    split <;> rfl

theorem tripEvery_tripped (x : TripCause) (s : State) (d : Chan) : ((s.tripEvery x).chan d).state = .tripped :=
  Moves.tripped (Moves.foldl (fun s c => Moves.offNotice c false s) _ _) (tripAll_tripped x s d)

theorem tripLineTaken_tripped (s : State) (d : Chan) : (s.tripLineTaken.chan d).state = .tripped :=
  (Moves.comesFixed ..).tripped (tripEvery_tripped ..)

/-! ### A channel that is not driven -/

/-- What TripsHold says of one channel, the trip line apart. -/
structure State.Stands (s : State) (c : Chan) : Prop where
  cause  : (s.chan c).tripCause.isSome = true ↔ (s.chan c).state = .tripped
  idle   : (s.chan c).state = .off ∨ (s.chan c).state = .tripped → s.setpoint c = 0
  silent : (s.chan c).state = .tripped →
             s.fsc.target.get c = 0 ∧ (s.feeder c).pendingRate = 0 ∧ (s.feeder c).appliedRate = 0

theorem State.tripsHold_iff {s : State} : s.TripsHold ↔
    (s.phase = .running → s.tripLine = true → ∀ c, (s.chan c).state = .tripped) ∧ ∀ c, s.Stands c :=
  ⟨fun h => ⟨h.line, fun c => ⟨h.cause c, h.idle c, h.silent c⟩⟩,
    fun ⟨line, h⟩ => ⟨line, fun c => (h c).cause, fun c => (h c).idle, fun c => (h c).silent⟩⟩

namespace State.Stands

variable {s t : State} {c d : Chan}

theorem congr (h : s.Stands d) (run : (t.chan d).state = (s.chan d).state ∧ (t.chan d).tripCause = (s.chan d).tripCause)
    (setpoint : t.setpoint d = s.setpoint d) (target : t.fsc.target.get d = s.fsc.target.get d)
    (rates : (t.feeder d).pendingRate = (s.feeder d).pendingRate
      ∧ (t.feeder d).appliedRate = (s.feeder d).appliedRate) : t.Stands d := by
  obtain ⟨state, cause⟩ := run
  obtain ⟨pending, applied⟩ := rates
  refine ⟨?_, ?_, ?_⟩
  · rw [state, cause]; exact h.cause
  · rw [state, setpoint]; exact h.idle
  · rw [state, target, pending, applied]; exact h.silent

/-- A channel that was active and is: only its cause is asked for. -/
theorem active (h : s.Stands d) (was : (s.chan d).state.active) (is : (t.chan d).state.active)
    (cause : (t.chan d).tripCause = (s.chan d).tripCause) : t.Stands d := by
  have off {x : ChannelState} (hx : x.active) : x ≠ .off ∧ x ≠ .tripped := by cases x <;> simp_all [ChannelState.active]
  have none : ¬ (s.chan d).tripCause.isSome = true := fun e => (off was).2 (h.cause.mp e)
  refine ⟨?_, fun e => ?_, fun e => absurd e (off is).2⟩
  · rw [cause]
    exact ⟨fun e => absurd e none, fun e => absurd e (off is).2⟩
  · exact absurd e (by simp [off is])

theorem moves (h : Moves s t) (hs : s.Stands d) : t.Stands d := by
  induction h with
  | quiet h =>
    exact hs.congr (h.runs (of_decide_eq_true rfl) d) (by unfold State.setpoint; rw [h.flows.2]) (by rw [h.flows.1])
      (by unfold State.feeder; rw [h.feeders]; exact ⟨rfl, rfl⟩)
  | freeze c s =>
    by_cases on : d = c ∧ ((s.chan c).state = .starting ∨ (s.chan c).state = .running)
    · have chan := State.freeze_chan c d s
      rw [if_pos on] at chan
      obtain ⟨rfl, on⟩ := on
      exact hs.active (by rcases on with h | h <;> rw [h] <;> rfl) (by rw [chan]; rfl) (by rw [chan])
    · have chan := State.freeze_chan c d s
      rw [if_neg on] at chan
      exact hs.congr (by rw [chan]; exact ⟨rfl, rfl⟩) (by simp [State.setpoint]) (by simp)
        (by simp [State.feeder])
  | run c s on =>
    have chan := State.enterRunning_chan c d s
    by_cases e : d = c
    · rw [if_pos e] at chan
      subst e
      exact hs.active (by rcases on with h | h <;> rw [h] <;> rfl) (by rw [chan]; rfl) (by rw [chan])
    · rw [if_neg e] at chan
      refine hs.congr (by rw [chan]; exact ⟨rfl, rfl⟩) ?_ (by simp) ?_
      · rw [State.enterRunning_setpoint, if_neg e]
      · rw [State.enterRunning_feeder, if_neg fun h => e h.1]
        exact ⟨rfl, rfl⟩
  | tripTaken c x s _ =>
    have chan := State.tripTaken_chan c d x s
    have setpoint := State.tripTaken_setpoint c d x s
    have target := State.tripTaken_target c d x s
    have feeder := State.tripTaken_feeder c d x s
    by_cases e : d = c
    · rw [if_pos e] at chan setpoint target feeder
      exact ⟨by rw [chan]; simp, fun _ => setpoint, fun _ => ⟨target, by rw [feeder]; exact ⟨rfl, rfl⟩⟩⟩
    · rw [if_neg e] at chan setpoint target feeder
      exact hs.congr (by rw [chan]; exact ⟨rfl, rfl⟩) setpoint target (by rw [feeder]; exact ⟨rfl, rfl⟩)
  | fallBack c s =>
    unfold State.fallBack
    simp only
    split
    next held =>
      by_cases e : d = c
      · subst e
        exact hs.active (by rw [held.1]; rfl) (by rw [State.drive_chan, held.1]; rfl) rfl
      · exact hs.congr ⟨rfl, rfl⟩ (State.drive_setpoint_ne e ..) rfl (by rw [State.drive_feeder_ne e]; exact ⟨rfl, rfl⟩)
    next => exact hs
  | configure c cf s _ =>
    refine hs.congr ?_ rfl rfl ⟨rfl, rfl⟩
    unfold State.setChanConfig
    rw [State.setChan_chan]
    split
    next e => rw [e]; exact ⟨rfl, rfl⟩
    next => exact ⟨rfl, rfl⟩
  | stallTime c n s =>
    refine hs.congr ⟨rfl, rfl⟩ rfl rfl ?_
    rw [State.setFeeder_feeder]
    split
    next e => rw [e]; exact ⟨rfl, rfl⟩
    next => exact ⟨rfl, rfl⟩
  | trans _ _ a b => exact b (a hs)

/-- A channel off: not driven, and without a cause. -/
theorem enterOff (h : s.Stands d) (c : Chan) (idle : s.setpoint c = 0) : (s.enterOff c).Stands d := by
  refine moves (Moves.offNotice c true _) ?_
  by_cases e : d = c
  · subst e
    refine ⟨?_, fun _ => idle, fun e => ?_⟩
    · rw [State.setChan_chan_self]; simp
    · rw [State.setChan_chan_self] at e; cases e
  · exact h.congr (by rw [State.setChan_chan_ne e]; exact ⟨rfl, rfl⟩) rfl rfl ⟨rfl, rfl⟩

end State.Stands

/-! ### A firing period -/

/-- The stages taken, and every setpoint handed (R70). -/
def State.periodHanded (s : State) : State := allChans.foldl (fun s c => s.handPeriod c (s.setpoint c)) s.takeStages

theorem State.firingPeriod_eq (s : State) :
    s.firingPeriod = (allChans.foldl (fun s c => s.stopEnds c) s.periodHanded).deficitMain.deficitCalc.clLimited := by
  simp only [State.firingPeriod, State.periodHanded]

/-- What the hand-over of a period writes: a feeder's pending rate and expected sum. -/
theorem State.handPeriod_eq (c : Chan) (v : Nat) (s : State) : s.handPeriod c v = s.setFeeder c { s.feeder c with
    pendingRate := rateOf (s.feeder c) v, expectedSum := (s.feeder c).expectedSum + v } := by
  unfold State.handPeriod State.handOver
  simp

theorem foldl_handPeriod_alone (l : List Chan) (s : State) :
    l.foldl (fun s c => s.handPeriod c (s.setpoint c)) s
      = { s with fdi := (l.foldl (fun s c => s.handPeriod c (s.setpoint c)) s).fdi } := by
  induction l generalizing s with
  | nil => rfl
  | cons c l ih =>
    rw [List.foldl_cons, ih, State.handPeriod_eq]
    rfl

/-- Outside the feeders nothing changes in the hand-over. -/
theorem State.periodHanded_alone (s : State) : s.periodHanded = { s.takeStages with fdi := s.periodHanded.fdi } :=
  foldl_handPeriod_alone ..

@[simp] theorem State.periodHanded_chan (s : State) (c : Chan) : s.periodHanded.chan c = s.chan c := by
  rw [State.periodHanded_alone]; rfl

@[simp] theorem State.periodHanded_fsc (s : State) : s.periodHanded.fsc = s.takeStages.fsc := by
  rw [State.periodHanded_alone]

theorem State.periodHanded_setpoint (s : State) (c : Chan) : s.periodHanded.setpoint c = s.takeStages.setpoint c := by
  unfold State.setpoint
  rw [State.periodHanded_fsc]

theorem State.periodHanded_feeder (s : State) (c : Chan) : s.periodHanded.feeder c = { s.feeder c with
    pendingRate := rateOf (s.feeder c) (s.takeStages.setpoint c)
    expectedSum := (s.feeder c).expectedSum + s.takeStages.setpoint c } := by
  have both := foldl_chans (fun s d => (s.feeder d, s.setpoint d)) (fun s c => s.handPeriod c (s.setpoint c))
    (fun _ x => ({ x.1 with pendingRate := rateOf x.1 x.2, expectedSum := x.1.expectedSum + x.2 }, x.2))
    (fun s c d => by
      rw [State.handPeriod_eq, State.setFeeder_feeder, State.setFeeder_setpoint]
      split
      next e => rw [e]
      next => rfl) allChans allChans_nodup s.takeStages c
  rw [if_pos (by simp)] at both
  exact congrArg Prod.fst both

/-- The setpoint and the target that stage 8 leaves a channel (R78, R79). -/
theorem State.takeStages_setpoint (s : State) (c : Chan) : s.takeStages.setpoint c
    = (s.view c).newSetpoint ((periodResult s.views s.correction s.fsc.config.ceiling).targets.get c) := by
  simp [State.takeStages, Firing.withPeriod, State.setpoint, periodResult, State.views]

theorem State.takeStages_target (s : State) (c : Chan) : s.takeStages.fsc.target.get c
    = (s.view c).newTarget ((periodResult s.views s.correction s.fsc.config.ceiling).targets.get c) := by
  simp [State.takeStages, Firing.withPeriod, State.views]

/-- A channel off or tripped is left undriven by stage 8 (R79). -/
theorem stage8_undriven {v : ChanView} (h : v.state = .off ∨ v.state = .tripped) (n : Nat) :
    v.newSetpoint n = 0 ∧ v.newTarget n = 0 := by
  unfold ChanView.newSetpoint ChanView.newTarget
  rcases h with h | h <;> rw [h] <;> exact ⟨rfl, rfl⟩

theorem rateOf_zero (b : FeederBlock) : rateOf b 0 = 0 := by
  unfold rateOf
  split <;> simp

theorem Moves.deficitMain (s : State) : Moves s s.deficitMain := by
  unfold State.deficitMain
  simp only
  split
  · exact (quiet .of).trans (comesFixed (.firing .heatDeficitMain) _)
  · split
    · exact (quiet .of).trans (goes (.firing .heatDeficitMain) _)
    · exact quiet .of

theorem Moves.deficitCalc (s : State) : Moves s s.deficitCalc := by
  unfold State.deficitCalc
  simp only
  split
  · exact (quiet .of).trans (comesFixed (.firing .heatDeficitCalc) _)
  · split
    · exact (quiet .of).trans (goes (.firing .heatDeficitCalc) _)
    · exact quiet .of

theorem Moves.clLimited (s : State) : Moves s s.clLimited := by
  unfold State.clLimited
  simp only
  repeat' split
  · exact quiet .of
  · exact (quiet .of).trans (comesFixed (.firing .clLimited) _)
  · exact (quiet .of).trans (goes (.firing .clLimited) _)
  · exact quiet .of
  · exact quiet .of

/-- What follows the ends of the stops in a period. -/
theorem Moves.periodReports (s : State) : Moves s s.deficitMain.deficitCalc.clLimited :=
  ((deficitMain _).trans (deficitCalc _)).trans (clLimited _)

namespace State.Stands

variable {s : State} {d : Chan}

theorem periodHanded (h : s.Stands d) : s.periodHanded.Stands d := by
  have target : s.periodHanded.fsc.target.get d = s.takeStages.fsc.target.get d := by rw [State.periodHanded_fsc]
  have quietly (hd : (s.chan d).state = .off ∨ (s.chan d).state = .tripped) :
      s.takeStages.setpoint d = 0 ∧ s.takeStages.fsc.target.get d = 0 := by
    rw [State.takeStages_setpoint, State.takeStages_target]
    exact stage8_undriven hd _
  refine ⟨?_, fun hd => ?_, fun hd => ?_⟩
  · rw [State.periodHanded_chan]; exact h.cause
  · rw [State.periodHanded_chan] at hd
    rw [State.periodHanded_setpoint]
    exact (quietly hd).1
  · rw [State.periodHanded_chan] at hd
    rw [target, State.periodHanded_feeder, (quietly (.inr hd)).1]
    exact ⟨(quietly (.inr hd)).2, rateOf_zero _, (h.silent hd).2.2⟩

theorem firingPeriod (h : ∀ d, s.Stands d) (d : Chan) : s.firingPeriod.Stands d := by
  rw [State.firingPeriod_eq]
  refine moves (Moves.periodReports _) ?_
  refine foldl_holds (P := fun s : State => ∀ d, s.Stands d) (fun s c hs => ?_) allChans (fun d => (h d).periodHanded) d
  intro d
  unfold State.stopEnds
  split
  next stopped => exact (hs d).enterOff c stopped.2
  next => exact hs d

end State.Stands

/-! ### The commands -/

/-- A start that no reason refuses finds the trip line not asserted and the channel off (R47). -/
theorem startRefusal_none {c : Chan} {s : State} (may : s.startRefusal c = none) :
    s.tripLine = false ∧ (s.chan c).state = .off := by
  unfold State.startRefusal at may
  split at may
  · cases may
  next line =>
    split at may
    · cases may
    · split at may
      · cases may
      next off => exact ⟨by simpa using line, by simpa using off⟩

namespace State.TripsHold

variable {s t : State}

/-- While a channel is not tripped, the trip line of a running part is not asserted. -/
theorem notAsserted (h : s.TripsHold) {c : Chan} (on : (s.chan c).state ≠ .tripped) (run : s.phase = .running) :
    s.tripLine = false := by
  by_contra line
  exact on (h.line run (by simpa using line) c)

theorem of_moves (h : Moves s t) (hs : s.TripsHold) : t.TripsHold := by
  obtain ⟨phase, line⟩ := h.phase_line
  obtain ⟨all, stands⟩ := State.tripsHold_iff.mp hs
  refine State.tripsHold_iff.mpr ⟨fun run asserted c => ?_, fun c => (stands c).moves h⟩
  rw [phase] at run
  rw [line] at asserted
  exact h.tripped (all run asserted c)

/-- Where the trip line is not asserted each channel is looked at on its own. -/
theorem of_stands (line : t.phase = .running → t.tripLine = false) (h : ∀ c, t.Stands c) : t.TripsHold :=
  State.tripsHold_iff.mpr ⟨fun run asserted => (by rw [line run] at asserted; cases asserted), h⟩

/-- All channels tripped. -/
theorem of_tripped (all : ∀ c, (t.chan c).state = .tripped) (h : ∀ c, t.Stands c) : t.TripsHold :=
  State.tripsHold_iff.mpr ⟨fun _ _ => all, h⟩

theorem startChannel (h : s.TripsHold) {c : Chan} (may : s.startRefusal c = none) : (s.startChannel c).TripsHold := by
  obtain ⟨line, off⟩ := startRefusal_none may
  obtain ⟨-, stands⟩ := State.tripsHold_iff.mp h
  unfold State.startChannel
  have none : (s.chan c).tripCause = none := by
    by_contra some
    have := (stands c).cause.mp (Option.isSome_iff_ne_none.mpr some)
    rw [off] at this
    cases this
  refine of_moves (Moves.offNotice c false _) (of_stands (fun _ => line) fun d => ?_)
  by_cases e : d = c
  · subst e
    have chan : ((State.drive d (s.chan d).minFlow (s.setChan d { s.chan d with
        state := .starting, startTimer := some (s.timer Config.startHold) })).chan d).state = .starting := by simp
    refine ⟨?_, fun h => ?_, fun h => ?_⟩
    · simp [none]
    · rw [chan] at h; simp at h
    · rw [chan] at h; cases h
  · refine (stands d).congr ?_ (State.drive_setpoint_ne e ..) rfl ?_
    · rw [State.drive_chan, State.setChan_chan_ne e]
      exact ⟨rfl, rfl⟩
    · rw [State.drive_feeder_ne e]
      exact ⟨rfl, rfl⟩

theorem enterOff (h : s.TripsHold) {c : Chan} (idle : s.setpoint c = 0)
    (line : s.phase = .running → s.tripLine = false) : (s.enterOff c).TripsHold := by
  have touched := Touches.enterOff c s
  refine of_stands (fun run => ?_) fun d => ((State.tripsHold_iff.mp h).2 d).enterOff c idle
  rw [touched.line]
  exact line (touched.phase ▸ run)

theorem stopChannel (h : s.TripsHold) {c : Chan} (on : (s.chan c).state.active) : (s.stopChannel c).TripsHold := by
  have notTripped : (s.chan c).state ≠ .tripped := fun e => by rw [e] at on; cases on
  have line := h.notAsserted notTripped
  obtain ⟨-, stands⟩ := State.tripsHold_iff.mp h
  unfold State.stopChannel
  split
  · refine enterOff (s := s.drive c 0) (of_stands line fun d => ?_) (State.drive_setpoint_self ..) line
    by_cases e : d = c
    · subst e
      exact (stands d).active on on rfl
    · exact (stands d).congr ⟨rfl, rfl⟩ (State.drive_setpoint_ne e ..) rfl
        (by rw [State.drive_feeder_ne e]; exact ⟨rfl, rfl⟩)
  · split
    next idle => exact h.enterOff idle line
    next =>
      refine of_stands line fun d => ?_
      by_cases e : d = c
      · subst e
        exact (stands d).active on (by rw [State.setChan_chan_self]; rfl) (by rw [State.setChan_chan_self])
      · exact (stands d).congr (by rw [State.setChan_chan_ne e]; exact ⟨rfl, rfl⟩) rfl rfl ⟨rfl, rfl⟩

theorem clearTrip (h : s.TripsHold) {c : Chan} (may : s.clearRefusal c = none) : (s.enterOff c).TripsHold := by
  unfold State.clearRefusal at may
  split at may
  · cases may
  next tripped =>
    split at may
    · cases may
    next line => exact h.enterOff (h.idle c (.inr (by simpa using tripped))) fun _ => by simpa using line

/-- A pairing leaves an idle channel undriven. -/
theorem pair (h : s.TripsHold) (c : Chan) (l : FlowLimits) (k : Calibration) : (s.pair c l k).TripsHold := by
  obtain ⟨all, stands⟩ := State.tripsHold_iff.mp h
  have chan (d : Chan) : ((s.pair c l k).chan d).state = (s.chan d).state
      ∧ ((s.pair c l k).chan d).tripCause = (s.chan d).tripCause := (Touches.pair c l k s).runs (of_decide_eq_true rfl) d
  have touched := Touches.pair c l k s
  refine State.tripsHold_iff.mpr ⟨fun run asserted d => ?_, fun d => ?_⟩
  · rw [(chan d).1]
    exact all (touched.phase ▸ run) (touched.line ▸ asserted) d
  · by_cases e : d = c
    · subst e
      have feeder : (s.pair d l k).feeder d = { (s.feeder d).recalibrated k with
          pendingRate := rateOf ((s.feeder d).recalibrated k) ((s.pair d l k).setpoint d) } := by
        simp only [State.pair, State.drive_feeder_self, State.drive_setpoint_self, State.setFeeder_feeder_self]
        rfl
      have target : (s.pair d l k).fsc.target.get d = min (s.fsc.target.get d) l.maxFlow := Tbl.get_put_self ..
      have idle (off : (s.chan d).state = .off ∨ (s.chan d).state = .tripped) : (s.pair d l k).setpoint d = 0 := by
        have same : (s.pair d l k).setpoint d = min (s.setpoint d) l.maxFlow := by
          refine (State.drive_setpoint_self ..).trans ?_
          unfold pairedSetpoint
          rcases off with off | off <;> rw [off]
        rw [same, (stands d).idle off, Nat.zero_min]
      refine ⟨?_, fun off => idle ((chan d).1 ▸ off), fun tripped => ?_⟩
      · rw [(chan d).1, (chan d).2]
        exact (stands d).cause
      · rw [(chan d).1] at tripped
        obtain ⟨noTarget, -, applied⟩ := (stands d).silent tripped
        rw [target, noTarget, feeder, idle (.inr tripped), rateOf_zero]
        exact ⟨Nat.zero_min _, rfl, applied⟩
    · refine (stands d).congr (chan d) (State.drive_setpoint_ne e ..) (Tbl.get_put_ne e ..) ?_
      have feeder : (s.pair c l k).feeder d = s.feeder d := (State.drive_feeder_ne e ..).trans (State.setFeeder_feeder_ne e ..)
      rw [feeder]
      exact ⟨rfl, rfl⟩

/-- A half staged writes no more than that. -/
theorem staged (h : s.TripsHold) (c : Chan) (x : Option FlowLimits) (y : Option Calibration) :
    (s.setChan c { s.chan c with stagedLimits := x, stagedCalibration := y }).TripsHold := by
  have touched : Touches [.staged] s (s.setChan c { s.chan c with stagedLimits := x, stagedCalibration := y }) :=
    .setChan c _ s
  have runs := touched.runs
  obtain ⟨all, stands⟩ := State.tripsHold_iff.mp h
  exact State.tripsHold_iff.mpr ⟨fun run asserted d => by rw [(runs d).1]; exact all run asserted d,
    fun d => (stands d).congr (runs d) rfl rfl ⟨rfl, rfl⟩⟩

theorem setFlowLimits {p : Port} {f : List Byte} (h : s.TripsHold) : (ownerSetFlowLimits p f s).state.TripsHold := by
  refine withChan_state (P := State.TripsHold) h fun c => ?_
  simp only
  repeat' split
  any_goals exact h
  refine of_moves (Moves.of (.startOpenTimer _)) ?_
  unfold State.writeLimitsHalf
  split
  · exact h.pair ..
  · exact h.staged c _ _

theorem setCalibration {p : Port} {f : List Byte} (h : s.TripsHold) : (ownerSetCalibration p f s).state.TripsHold := by
  refine withChan_state (P := State.TripsHold) h fun c => ?_
  simp only
  repeat' split
  any_goals exact h
  refine of_moves (Moves.of (.startOpenTimer _)) ?_
  unfold State.writeCalibrationHalf
  split
  · exact h.pair ..
  · exact h.staged c _ _

end State.TripsHold

/-- The blocks as a warm restart leaves them drive no channel. -/
theorem blocksWarm_stands (s : State) (c : Chan) : s.blocksWarm.Stands c := by
  have off : (s.blocksWarm.chan c).state = .off ∧ (s.blocksWarm.chan c).tripCause = none := by
    simp [State.blocksWarm, State.chan, ChannelController.warm, ChannelRecord.warm]
  refine ⟨by rw [off.1, off.2]; simp, fun _ => ?_, fun h => by rw [off.1] at h; cases h⟩
  simp [State.blocksWarm, State.setpoint, Firing.warm]

/-- The state in which a warm restart sees to the trip line. -/
theorem tripsHold_warmRestart (s : State) : s.warmRestart.TripsHold := by
  unfold State.warmRestart
  simp only
  refine .of_moves (Moves.resendLocked _) (.of_moves (Moves.resendStore _) ?_)
  generalize hu : State.resendOverdrawn _ = u
  have stands (c : Chan) : u.Stands c := by
    rw [← hu]
    exact .moves ((Moves.of (.reportNotice ..)).trans ((Moves.reconcileAll _).trans (Moves.resendOverdrawn _)))
      (blocksWarm_stands s c)
  unfold State.resendTripLine
  split
  · exact .of_tripped (tripLineTaken_tripped u) fun c => (stands c).moves (Moves.tripLineTaken u)
  next line => exact .of_stands (fun _ => by simpa using line) stands

theorem fresh_stands (x : ResetCause) (s : State) (c : Chan) : (s.fresh x).Stands c := by
  have off : ((s.fresh x).chan c).state = .off ∧ ((s.fresh x).chan c).tripCause = none := by
    simp [State.fresh, State.chan, ChannelController.start, ChannelRecord.start]
  refine ⟨by rw [off.1, off.2]; simp, fun _ => ?_, fun h => by rw [off.1] at h; cases h⟩
  simp [State.fresh, State.setpoint, Firing.start]

theorem Moves.started (x : ResetCause) (s : State) : Moves (s.fresh x) (s.start x) :=
  (Moves.reconcileAll _).trans (Moves.reconcileStore _)

theorem Moves.feed (c : Chan) (k : Nat) (s : State) :
    Moves (s.setFeeder c { s.feeder c with countedMass := (s.feeder c).countedMass + k }) (s.feed c k) := by
  unfold State.feed
  simp only
  refine Moves.trans (t := State.setFeeder c _ (s.setChan c _)) ?_
    (Moves.trans (charge ..) (foldl (fun s p => of (.takePart c _ p s)) _ _))
  exact quiet (.setChan c { s.chan c with fed := (s.chan c).fed + k } (s.setFeeder c _))

theorem State.Stands.setFeeder {s : State} {d : Chan} (h : s.Stands d) (c : Chan) {b : FeederBlock}
    (rates : b.pendingRate = (s.feeder c).pendingRate ∧ b.appliedRate = (s.feeder c).appliedRate) :
    (s.setFeeder c b).Stands d := by
  refine h.congr ⟨rfl, rfl⟩ rfl rfl ?_
  rw [State.setFeeder_feeder]
  split
  next e => rw [e]; exact rates
  next => exact ⟨rfl, rfl⟩

theorem State.TripsHold.setFeeder {s : State} (h : s.TripsHold) (c : Chan) {b : FeederBlock}
    (rates : b.pendingRate = (s.feeder c).pendingRate ∧ b.appliedRate = (s.feeder c).appliedRate) :
    (s.setFeeder c b).TripsHold := by
  obtain ⟨all, stands⟩ := State.tripsHold_iff.mp h
  exact State.tripsHold_iff.mpr ⟨all, fun d => (stands d).setFeeder c rates⟩

theorem tripsHold_pulse (c : Chan) {s : State} (h : s.TripsHold) : (s.pulse c).TripsHold := by
  have counted := h.setFeeder c (b := (s.feeder c).pulsed (s.timer (s.feeder c).stallTime)) ⟨rfl, rfl⟩
  unfold State.pulse State.weigh
  simp only
  split
  · exact counted
  next k _ =>
    have weighed (n : Nat) := counted.setFeeder c (b := { State.feeder (s.setFeeder c _) c with residue := n }) ⟨rfl, rfl⟩
    split
    · exact weighed _
    · exact .of_moves (Moves.feed ..) ((weighed _).setFeeder c ⟨rfl, rfl⟩)

theorem firingPeriod_tripped {s : State} {d : Chan} (on : (s.chan d).state = .tripped) :
    (s.firingPeriod.chan d).state = .tripped := by
  rw [State.firingPeriod_eq]
  refine (Moves.periodReports _).tripped ?_
  refine foldl_holds (P := fun s : State => (s.chan d).state = .tripped) (fun s c hs => ?_) allChans
    (by rw [State.periodHanded_chan]; exact on)
  unfold State.stopEnds
  split
  next stopping =>
    refine (Moves.offNotice c true _).tripped ?_
    rw [State.setChan_chan]
    split
    next e =>
      subst e
      rw [hs] at stopping
      exact absurd stopping.1 nofun
    next => exact hs
  next => exact hs

theorem tripsHold_firingPeriod {s : State} (h : s.TripsHold) : s.firingPeriod.TripsHold := by
  obtain ⟨all, stands⟩ := State.tripsHold_iff.mp h
  have touched := Touches.firingPeriod s
  refine State.tripsHold_iff.mpr ⟨fun run asserted c => ?_, State.Stands.firingPeriod stands⟩
  rw [touched.phase] at run
  rw [touched.line] at asserted
  exact firingPeriod_tripped (all run asserted c)

theorem State.windowBoundary_feeder (c d : Chan) (s : State) : (s.windowBoundary c).feeder d
    = if d = c then (s.feeder c).boundary (s.timer (s.feeder c).stallTime) else s.feeder d := State.setFeeder_feeder ..

theorem tripsHold_windowBoundary (c : Chan) {s : State} (h : s.TripsHold) : (s.windowBoundary c).TripsHold := by
  obtain ⟨all, stands⟩ := State.tripsHold_iff.mp h
  refine State.tripsHold_iff.mpr ⟨all, fun d => ?_⟩
  refine ⟨(stands d).cause, (stands d).idle, fun tripped => ?_⟩
  obtain ⟨target, pending, applied⟩ := (stands d).silent tripped
  refine ⟨target, ?_⟩
  rw [State.windowBoundary_feeder]
  split
  next e =>
    subst e
    exact ⟨pending, pending⟩
  next => exact ⟨pending, applied⟩

theorem tripsHold_event (e : Event) {s : State} (h : s.TripsHold) (due : e.due s) (driven : e.drives = true) :
    (e.run s).TripsHold := by
  obtain ⟨all, stands⟩ := State.tripsHold_iff.mp h
  cases e with
  | halt ph =>
    refine .of_stands (t := s.halt ph) (fun run => ?_) fun c => ?_
    · rcases due with off | held
      · exact absurd (off.symm.trans run) nofun
      · exact absurd (held.symm.trans run) nofun
    · have feeder : (s.halt ph).feeder c = { s.feeder c with appliedRate := 0 } := Tbl.get_map ..
      exact ⟨(stands c).cause, (stands c).idle,
        fun tripped => ⟨((stands c).silent tripped).1, by rw [feeder]; exact ⟨((stands c).silent tripped).2.1, rfl⟩⟩⟩
  | start x => exact .of_moves (Moves.started x s) (.of_stands nofun (fresh_stands x s))
  | startUpEnds =>
    show s.startUpEnds.TripsHold
    unfold State.startUpEnds
    have began (c : Chan) : (State.setSupervision { s.chc.supervision with
        link := .live, supervisionTimer := some (s.timer s.chc.supervision.supervisionTime), holdTimer := none }
        { s with phase := .running }).Stands c := (stands c).congr ⟨rfl, rfl⟩ rfl rfl ⟨rfl, rfl⟩
    simp only
    split
    · exact .of_tripped (tripLineTaken_tripped _) fun c => (began c).moves (Moves.tripLineTaken _)
    next line => exact .of_stands (fun _ => by simpa using line) began
  | lineAsserted =>
    show (State.whileRunning State.tripLineTaken { s with tripLine := true }).TripsHold
    have marked (c : Chan) : ({ s with tripLine := true } : State).Stands c :=
      (stands c).congr ⟨rfl, rfl⟩ rfl rfl ⟨rfl, rfl⟩
    unfold State.whileRunning
    split
    · exact .of_tripped (tripLineTaken_tripped _) fun c => (marked c).moves (Moves.tripLineTaken _)
    next runs => exact .of_stands (fun run => absurd (by simpa [State.runs] using run) runs) marked
  | lineDeasserted =>
    show (State.whileRunning (State.goes (.system .tripIn)) { s with tripLine := false }).TripsHold
    have marked : ({ s with tripLine := false } : State).TripsHold :=
      .of_stands (fun _ => rfl) fun c => (stands c).congr ⟨rfl, rfl⟩ rfl rfl ⟨rfl, rfl⟩
    unfold State.whileRunning
    split
    · exact .of_moves (Moves.goes ..) marked
    · exact marked
  | firingPeriod =>
    show s.firingPeriod.TripsHold
    exact tripsHold_firingPeriod h
  | windowBoundary c => exact tripsHold_windowBoundary c h
  | pulse c =>
    show (s.pulse c).TripsHold
    exact tripsHold_pulse c h
  | stallExpires c =>
    show (s.stallExpires c).TripsHold
    unfold State.stallExpires State.stalls
    have stopped := h.setFeeder c (b := { s.feeder c with stallWindow := none }) ⟨rfl, rfl⟩
    split
    · simp only
      split
      · exact .of_moves (((Moves.trip ..).trans (Moves.comesFixed ..)).trans (Moves.goes ..)) stopped
      · exact stopped
    · exact h
  | trimInterval c =>
    show (s.setFeeder c (s.feeder c).intervalEnds).TripsHold
    exact h.setFeeder c ⟨rfl, rfl⟩
  | _ => cases driven

theorem kept_tripsHold : Kept State.TripsHold where
  ports s t same h := by rw [same]; exact ⟨h.line, h.cause, h.idle, h.silent⟩
  owner k p f s _ h := by
    have ordinary (out : k ∉ Moves.drivingKinds) : (ownerOf k p f s).state.TripsHold :=
      .of_moves (Moves.owner k p f s out) h
    cases k with
    | startChannel =>
      refine withChan_state (P := State.TripsHold) h fun c => ?_
      split
      · exact h
      next may => exact h.startChannel may
    | stopChannel =>
      refine withChan_state (P := State.TripsHold) h fun c => ?_
      split
      any_goals exact h
      all_goals exact h.stopChannel (by simp [*, ChannelState.active])
    | clearTrip =>
      refine withChan_state (P := State.TripsHold) h fun c => ?_
      split
      · exact h
      next may => exact h.clearTrip may
    | setFlowLimits => exact .setFlowLimits (p := p) h
    | setCalibration => exact .setCalibration (p := p) h
    | warmRestart =>
      show (ownerWarmRestart p f s).state.TripsHold
      simp only [ownerWarmRestart, taken]
      exact tripsHold_warmRestart s
    | _ => exact ordinary (of_decide_eq_true rfl)
  event e s due h := by
    cases driven : e.drives with
    | false => exact .of_moves (Moves.event e s driven) h
    | true => exact tripsHold_event e h due driven

/-- Settles O50: nothing but a clearing takes a channel out of CH_TRIPPED, and the line asserted refuses it. -/
theorem tripsStayInForce : Obligations.TripsStayInForce := fun _ _ h stepped => kept_tripsHold.step h stepped

end Sys2Proof.Machine
end

section
/-!
Proofs. The bounds of targets and setpoints (R79): `FlowsStayBounded`.
-/
set_option Elab.async false

namespace Sys2Proof.Machine

/-! ### The settings in the store -/

/-- A condition on settings that those of the image meet, and those that a save in flight will write. -/
structure State.StoreHolds (Q : Settings → Prop) (s : State) : Prop where
  stored : Q s.sst.image.settings
  saving : ∀ st, s.sst.inFlight = some st → Q st

namespace State.StoreHolds

variable {Q : Settings → Prop} {s t : State}

theorem congr (h : s.StoreHolds Q) (image : t.sst.image = s.sst.image) (saving : t.sst.inFlight = s.sst.inFlight) :
    t.StoreHolds Q := ⟨by rw [image]; exact h.stored, by rw [saving]; exact h.saving⟩

/-- Nothing in flight, and the image as it was. -/
theorem idle (h : s.StoreHolds Q) (image : t.sst.image = s.sst.image) (none : t.sst.inFlight = none) :
    t.StoreHolds Q := ⟨by rw [image]; exact h.stored, fun st e => by rw [none] at e; cases e⟩

end State.StoreHolds

theorem reconcileStore_image (s : State) : s.reconcileStore.sst.image = s.sst.image := by
  unfold State.reconcileStore
  simp only
  repeat' split
  · rfl
  · rw [(Touches.goes (.system .storeFault) _).store]
  · rw [(Touches.comesFixed (.system .storeFault) _).store]

theorem warmRestart_image (s : State) : s.warmRestart.sst.image = s.sst.image := by
  have resent (u : State) : u.resendStore.sst.image = u.sst.image :=
    reconcileStore_image { u with sst := { u.sst with reportedFault := false } }
  unfold State.warmRestart
  simp only
  rw [(Touches.resendLocked _).store, resent, (Touches.resendTripLine _).store, (Touches.resendOverdrawn _).store,
    (Touches.reconcileAll _).store]
  rfl

theorem start_image (x : ResetCause) (s : State) : (s.start x).sst.image = s.sst.image := by
  unfold State.start
  rw [reconcileStore_image, (Touches.reconcileAll _).store]
  rfl

theorem Image.settings_written {Q : Settings → Prop} {st : Settings} (written : Q st) (default : Q .default)
    (check : BitVec 16) : Q (Image.settings (.written st check)) := by
  simp only [Image.settings]
  split
  · exact written
  · exact default

namespace State.StoreHolds

variable {Q : Settings → Prop} {s t : State}

theorem owner (k : Kind) (p : Port) (f : List Byte) (inForce : Q s.settings) (h : s.StoreHolds Q) :
    (ownerOf k p f s).state.StoreHolds Q := by
  have untouched (out : .store ∉ touchedBy k) : (ownerOf k p f s).state.StoreHolds Q := by
    have same := (Touches.owner k p f s).store out
    exact h.congr (by rw [same]) (by rw [same])
  cases k with
  | saveSettings => exact ⟨h.stored, fun st e => Option.some.inj e ▸ inForce⟩
  | warmRestart =>
    show (ownerWarmRestart p f s).state.StoreHolds Q
    simp only [ownerWarmRestart, taken]
    exact h.congr (warmRestart_image s) (warmRestart_inFlight s)
  | _ => exact untouched (of_decide_eq_true rfl)

theorem halt (ph : Phase) (default : Q .default) (h : s.StoreHolds Q) : (s.halt ph).StoreHolds Q := by
  refine ⟨?_, nofun⟩
  show Q (if s.sst.saving then Image.spoiled else s.sst.image).settings
  split
  · exact default
  · exact h.stored

theorem saveCompletes (b : Bool) (default : Q .default) (h : s.StoreHolds Q) : (s.saveCompletes b).StoreHolds Q := by
  have idle := saveCompletes_inFlight b s
  refine ⟨?_, fun st e => by rw [idle] at e; cases e⟩
  unfold State.saveCompletes
  split
  · exact h.stored
  next st saving =>
    rw [reconcileStore_image]
    cases b with
    | false => exact default
    | true =>
      exact Image.settings_written (h.saving st saving) default st.check

theorem event (e : Event) (default : Q .default) (h : s.StoreHolds Q) : (e.run s).StoreHolds Q := by
  have untouched (out : .store ∉ e.touched) : (e.run s).StoreHolds Q := by
    have same := (Touches.event e s).store out
    exact h.congr (by rw [same]) (by rw [same])
  cases e with
  | halt ph =>
    show (s.halt ph).StoreHolds Q
    exact h.halt ph default
  | start x =>
    show (s.start x).StoreHolds Q
    exact h.idle (start_image x s) (start_inFlight x s)
  | saveCompletes b =>
    show (s.saveCompletes b).StoreHolds Q
    exact h.saveCompletes b default
  | _ => exact untouched (of_decide_eq_true rfl)

end State.StoreHolds

/-! ### The stages of a firing period -/

/-- A reading whose min flow does not exceed its max flow. -/
def ChanView.Ordered (v : ChanView) : Prop := v.minFlow ≤ v.maxFlow

theorem clampedTargets_le {vs : Views} (t : Flows) {c : Chan} (h : (vs.get c).Ordered) :
    (clampedTargets vs t).get c ≤ (vs.get c).maxFlow := by
  unfold ChanView.Ordered at h
  simp only [clampedTargets, Tbl.get_make]
  split
  · omega
  · exact Nat.zero_le _

/-- The chlorine stage takes nothing above the target it finds (R76). -/
theorem chlorineStage_le (vs : Views) (ceiling : Option Nat) (t : Flows) (c : Chan) :
    (chlorineStage vs ceiling t).targets.get c ≤ t.get c := by
  unfold chlorineStage
  split
  · exact le_refl _
  next g =>
    simp only
    split
    · exact le_refl _
    next above =>
      simp only [Tbl.get_make]
      split
      · unfold scaled
        split
        · exact Nat.zero_le _
        next allowed =>
          have le : t.get c * ((g * 1000 : Nat) - (fixedChlorine vs : Int)).toNat / runningChlorine vs t ≤ t.get c := by
            refine Nat.div_le_of_le_mul ?_
            rw [Nat.mul_comm (runningChlorine vs t)]
            exact Nat.mul_le_mul_left _ (by omega)
          split
          · exact Nat.zero_le _
          · exact le
      · exact le_refl _

theorem handedTargets_le {vs : Views} {before after : Flows} {c : Chan} (h : after.get c ≤ (vs.get c).maxFlow) :
    (handedTargets vs before after).get c ≤ (vs.get c).maxFlow := by
  simp only [handedTargets, Tbl.get_make]
  split
  · exact Nat.min_le_left ..
  · exact h

/-- No stage takes a target above the max flow in force (R75 to R77). -/
theorem periodResult_targets_le {vs : Views} (k : Correction) (ceiling : Option Nat) {c : Chan}
    (h : (vs.get c).Ordered) : (periodResult vs k ceiling).targets.get c ≤ (vs.get c).maxFlow :=
  handedTargets_le ((chlorineStage_le ..).trans (clampedTargets_le _ h))

theorem newSetpoint_le {v : ChanView} (h : v.Ordered) (setpoint : v.setpoint ≤ v.maxFlow) {n : Nat}
    (target : n ≤ v.maxFlow) : v.newSetpoint n ≤ v.maxFlow := by
  unfold ChanView.Ordered at h
  have ramped : v.ramped n ≤ v.maxFlow := by
    unfold ChanView.ramped
    have start : (if v.setpoint < v.minFlow ∧ n ≠ 0 then v.minFlow else v.setpoint) ≤ v.maxFlow := by
      split
      · exact h
      · exact setpoint
    simp only
    generalize (if v.setpoint < v.minFlow ∧ n ≠ 0 then v.minFlow else v.setpoint) = p at start
    split
    · exact (Nat.min_le_left ..).trans target
    · split
      · exact target
      · omega
  unfold ChanView.newSetpoint
  split
  · exact ramped
  · omega
  · split
    · omega
    · exact setpoint
  · exact setpoint
  · exact Nat.zero_le _
  · exact Nat.zero_le _

theorem newTarget_le {v : ChanView} (h : v.Ordered) (setpoint : v.setpoint ≤ v.maxFlow) {n : Nat}
    (target : n ≤ v.maxFlow) : v.newTarget n ≤ v.maxFlow := by
  unfold ChanView.newTarget
  split
  · exact target
  · exact newSetpoint_le h setpoint target
  · exact newSetpoint_le h setpoint target
  all_goals exact Nat.zero_le _

/-! ### One channel -/

theorem minFlow_le_maxFlow {r : ChannelRecord} (h : halvesOrdered r.config.halves) : r.minFlow ≤ r.maxFlow := by
  unfold ChannelRecord.minFlow ChannelRecord.maxFlow ChannelRecord.limits
  split
  · exact le_refl _
  next x e => exact h x e

theorem maxFlow_congr {r x : ChannelRecord} (h : r.config.halves = x.config.halves) : r.maxFlow = x.maxFlow := by
  unfold ChannelRecord.maxFlow ChannelRecord.limits
  rw [h]

/-- What FlowsBounded says of one channel, the store apart. -/
structure State.FlowsAt (s : State) (c : Chan) : Prop where
  ordered  : halvesOrdered (s.chan c).config.halves
  staged   : ∀ l, (s.chan c).stagedLimits = some l → l.minFlow ≤ l.maxFlow
  setpoint : s.setpoint c ≤ (s.chan c).maxFlow
  target   : s.fsc.target.get c ≤ (s.chan c).maxFlow

/-- Settings whose pairs in force are ordered. -/
def Settings.FlowsOrdered (st : Settings) : Prop := ∀ c, halvesOrdered (st.channels.get c).halves

theorem State.flowsBounded_iff {s : State} :
    s.FlowsBounded ↔ (∀ c, s.FlowsAt c) ∧ s.StoreHolds Settings.FlowsOrdered :=
  ⟨fun h => ⟨fun c => ⟨h.ordered c, h.staged c, h.setpoint c, h.target c⟩, h.stored, h.saving⟩,
    fun ⟨h, store⟩ => ⟨fun c => (h c).ordered, fun c => (h c).staged, store.stored, store.saving,
      fun c => (h c).setpoint, fun c => (h c).target⟩⟩

theorem Settings.flowsOrdered_default : Settings.default.FlowsOrdered := fun c x e => by
  simp [Settings.default, ChannelConfig.default] at e

theorem State.settings_flowsOrdered {s : State} (h : ∀ c, s.FlowsAt c) : s.settings.FlowsOrdered := fun c => by
  simpa [State.settings] using (h c).ordered

namespace State.FlowsAt

variable {s t : State} {c d : Chan}

theorem min_le_max (h : s.FlowsAt d) : (s.chan d).minFlow ≤ (s.chan d).maxFlow := minFlow_le_maxFlow h.ordered

/-- Limits and staged halves as they were, flows within them. -/
theorem of_flows (h : s.FlowsAt d) (halves : (t.chan d).config.halves = (s.chan d).config.halves)
    (staged : (t.chan d).stagedLimits = (s.chan d).stagedLimits) (setpoint : t.setpoint d ≤ (s.chan d).maxFlow)
    (target : t.fsc.target.get d ≤ (s.chan d).maxFlow) : t.FlowsAt d where
  ordered := by rw [halves]; exact h.ordered
  staged := by rw [staged]; exact h.staged
  setpoint := by rw [maxFlow_congr halves]; exact setpoint
  target := by rw [maxFlow_congr halves]; exact target

theorem congr (h : s.FlowsAt d) (halves : (t.chan d).config.halves = (s.chan d).config.halves)
    (staged : (t.chan d).stagedLimits = (s.chan d).stagedLimits) (setpoint : t.setpoint d = s.setpoint d)
    (target : t.fsc.target.get d = s.fsc.target.get d) : t.FlowsAt d :=
  h.of_flows halves staged (setpoint ▸ h.setpoint) (target ▸ h.target)

/-- An operation that keeps configuration, staged halves and flows keeps the bounds. -/
theorem untouched {l : List Aspect} (h : s.FlowsAt d) (touched : Touches l s t)
    (fuels : .fuels ∉ l := by exact of_decide_eq_true rfl) (staged : .staged ∉ l := by exact of_decide_eq_true rfl)
    (flows : .flows ∉ l := by exact of_decide_eq_true rfl) : t.FlowsAt d :=
  h.congr (by rw [touched.fuels fuels d]) (touched.staged staged d).1
    (by unfold State.setpoint; rw [(touched.flows flows).2]) (by rw [(touched.flows flows).1])

/-- A setpoint driven within the max flow. -/
theorem drive (h : s.FlowsAt d) (c : Chan) {v : Nat} (le : v ≤ (s.chan c).maxFlow) : (s.drive c v).FlowsAt d := by
  refine h.of_flows rfl rfl ?_ h.target
  rw [State.drive_setpoint]
  split
  next e => rw [e]; exact le
  next => exact h.setpoint

theorem moves (h : Moves s t) (hs : s.FlowsAt d) : t.FlowsAt d := by
  induction h with
  | quiet h => exact hs.untouched h
  | freeze c s => exact hs.untouched (Touches.freeze c s)
  | run c s on =>
    have same := Touches.enterRunning c s (by rcases on with h | h <;> simp [h])
    refine hs.of_flows (by rw [same.fuels]) ((same.staged (of_decide_eq_true rfl) d).1) ?_ (by simpa using hs.target)
    rw [State.enterRunning_setpoint]
    split
    next e => rw [← e]; exact max_le hs.setpoint hs.min_le_max
    next => exact hs.setpoint
  | tripTaken c x s _ =>
    have same := Touches.tripTaken c x s
    refine hs.of_flows (by rw [same.fuels]) ((same.staged (of_decide_eq_true rfl) d).1) ?_ ?_
    · rw [State.tripTaken_setpoint]
      split
      · exact Nat.zero_le _
      · exact hs.setpoint
    · rw [State.tripTaken_target]
      split
      · exact Nat.zero_le _
      · exact hs.target
  | fallBack c s =>
    unfold State.fallBack
    simp only
    split
    next held =>
      refine hs.of_flows rfl rfl ?_ hs.target
      rw [State.drive_setpoint]
      split
      next e => rw [← e]; exact hs.min_le_max
      next => exact hs.setpoint
    next => exact hs
  | configure c cf s same =>
    have chan : ((s.setChanConfig c cf).chan d).config.halves = (s.chan d).config.halves
        ∧ ((s.setChanConfig c cf).chan d).stagedLimits = (s.chan d).stagedLimits := by
      unfold State.setChanConfig
      rw [State.setChan_chan]
      split
      next e => rw [e]; exact ⟨same, rfl⟩
      next => exact ⟨rfl, rfl⟩
    exact hs.congr chan.1 chan.2 rfl rfl
  | stallTime => exact hs.congr rfl rfl rfl rfl
  | trans _ _ a b => exact b (a hs)

theorem enterOff (h : s.FlowsAt d) (c : Chan) : (s.enterOff c).FlowsAt d := by
  refine moves (Moves.offNotice c true _) (h.untouched (l := [.runs, .offs]) ?_)
  exact Touches.setChan c _ s

theorem startChannel (h : ∀ d, s.FlowsAt d) (c d : Chan) : (s.startChannel c).FlowsAt d := by
  have started (d : Chan) : (s.setChan c { s.chan c with
      state := .starting, startTimer := some (s.timer Config.startHold) }).FlowsAt d :=
    (h d).untouched (l := [.runs, .offs]) (Touches.setChan c _ s)
  refine moves (Moves.offNotice c false _) ((started d).drive c ?_)
  rw [State.setChan_chan_self]
  exact (h c).min_le_max

theorem stopChannel (h : s.FlowsAt d) (c : Chan) : (s.stopChannel c).FlowsAt d := by
  unfold State.stopChannel
  split
  · exact (h.drive c (Nat.zero_le _)).enterOff c
  · split
    · exact h.enterOff c
    · exact h.untouched (l := [.runs, .offs]) (Touches.setChan c _ s)

theorem pairedSetpoint_le (r : ChannelRecord) {l : FlowLimits} (le : l.minFlow ≤ l.maxFlow) (b : Bool) (v : Nat) :
    pairedSetpoint r l b v ≤ l.maxFlow := by
  unfold pairedSetpoint
  split
  · exact le
  · split
    · exact Nat.min_le_right ..
    · omega
  all_goals exact Nat.min_le_right ..

/-- The pair enters force, and target and setpoint are brought within it (R46). -/
theorem pair (h : s.FlowsAt d) (c : Chan) {l : FlowLimits} (le : l.minFlow ≤ l.maxFlow) (k : Calibration) :
    (s.pair c l k).FlowsAt d := by
  have chan : (s.pair c l k).chan d = if d = c then { s.chan c with
      config := { (s.chan c).config with halves := some { limits := l, calibration := k } }
      stagedLimits := none, stagedCalibration := none } else s.chan d := State.setChan_chan ..
  have setpoint : (s.pair c l k).setpoint d = if d = c then
      pairedSetpoint (s.chan c) l (s.fsc.clZeroed.get c && s.fsc.target.get c == 0) (s.setpoint c)
      else s.setpoint d := Tbl.get_put ..
  have target : (s.pair c l k).fsc.target.get d = if d = c then min (s.fsc.target.get c) l.maxFlow
      else s.fsc.target.get d := Tbl.get_put ..
  by_cases e : d = c
  · rw [if_pos e] at chan setpoint target
    have max : ((s.pair c l k).chan d).maxFlow = l.maxFlow := by rw [chan]; rfl
    refine ⟨fun x hx => ?_, fun x hx => ?_, ?_, ?_⟩
    · rw [chan] at hx
      cases hx
      exact le
    · rw [chan] at hx
      cases hx
    · rw [setpoint, max]
      exact pairedSetpoint_le _ le ..
    · rw [target, max]
      exact Nat.min_le_right ..
  · rw [if_neg e] at chan setpoint target
    exact h.congr (by rw [chan]) (by rw [chan]) setpoint target

theorem writeLimitsHalf (h : s.FlowsAt d) (c : Chan) {l : FlowLimits} (le : l.minFlow ≤ l.maxFlow) :
    (s.writeLimitsHalf c l).FlowsAt d := by
  unfold State.writeLimitsHalf
  split
  · exact h.pair c le _
  · by_cases e : d = c
    · subst e
      refine ⟨?_, fun x hx => ?_, ?_, ?_⟩
      · rw [State.setChan_chan_self]; exact h.ordered
      · rw [State.setChan_chan_self] at hx
        cases hx
        exact le
      · rw [State.setChan_chan_self]; exact h.setpoint
      · rw [State.setChan_chan_self]; exact h.target
    · exact h.congr (by rw [State.setChan_chan_ne e]) (by rw [State.setChan_chan_ne e]) rfl rfl

theorem writeCalibrationHalf (h : ∀ d, s.FlowsAt d) (c d : Chan) (k : Calibration) :
    (s.writeCalibrationHalf c k).FlowsAt d := by
  unfold State.writeCalibrationHalf
  split
  next l staged => exact (h d).pair c ((h c).staged l staged) k
  next =>
    have chan : ((s.setChan c { s.chan c with stagedCalibration := some k }).chan d).config.halves = (s.chan d).config.halves
        ∧ ((s.setChan c { s.chan c with stagedCalibration := some k }).chan d).stagedLimits
          = (s.chan d).stagedLimits := by
      rw [State.setChan_chan]
      split
      next e => rw [e]; exact ⟨rfl, rfl⟩
      next => exact ⟨rfl, rfl⟩
    exact (h d).congr chan.1 chan.2 rfl rfl

theorem view_ordered (h : s.FlowsAt d) : (s.view d).Ordered := h.min_le_max

theorem takeStages (h : s.FlowsAt d) : s.takeStages.FlowsAt d := by
  have view : s.views.get d = s.view d := Tbl.get_make ..
  have targets : (periodResult s.views s.correction s.fsc.config.ceiling).targets.get d ≤ (s.view d).maxFlow := by
    rw [← view]
    exact periodResult_targets_le _ _ (view ▸ h.view_ordered)
  refine h.of_flows rfl rfl ?_ ?_
  · rw [State.takeStages_setpoint]
    exact newSetpoint_le h.view_ordered h.setpoint targets
  · rw [State.takeStages_target]
    exact newTarget_le h.view_ordered h.setpoint targets

theorem firingPeriod (h : s.FlowsAt d) : s.firingPeriod.FlowsAt d := by
  have handed : s.periodHanded.FlowsAt d := h.takeStages.congr (by rw [State.periodHanded_chan]; rfl)
    (by rw [State.periodHanded_chan]; rfl) (State.periodHanded_setpoint ..) (by rw [State.periodHanded_fsc])
  rw [State.firingPeriod_eq]
  refine moves (Moves.periodReports _) ?_
  refine foldl_holds (P := fun s : State => s.FlowsAt d) (fun s c hs => ?_) allChans handed
  unfold State.stopEnds
  split
  · exact hs.enterOff c
  · exact hs

theorem setFeeder (h : s.FlowsAt d) (c : Chan) (b : FeederBlock) : (s.setFeeder c b).FlowsAt d :=
  h.congr rfl rfl rfl rfl

theorem pulse (h : s.FlowsAt d) (c : Chan) : (s.pulse c).FlowsAt d := by
  unfold State.pulse State.weigh
  simp only
  split
  · exact h.setFeeder ..
  · split
    · exact (h.setFeeder ..).setFeeder ..
    · exact moves (Moves.feed ..) (((h.setFeeder ..).setFeeder ..).setFeeder ..)

theorem fresh (x : ResetCause) (c : Chan) (h : s.sst.image.settings.FlowsOrdered) : (s.fresh x).FlowsAt c := by
  have chan : (s.fresh x).chan c = .start (s.sst.image.settings.channels.get c) := by
    simp [State.fresh, State.chan, ChannelController.start]
  refine ⟨by rw [chan]; exact h c, fun l e => ?_, ?_, ?_⟩
  · rw [chan] at e
    cases e
  · simp [State.fresh, State.setpoint, Firing.start]
  · simp [State.fresh, Firing.start]

theorem blocksWarm (h : s.FlowsAt c) : s.blocksWarm.FlowsAt c := by
  have touched := Touches.blocksWarm s
  refine h.of_flows (by rw [touched.fuels]) (touched.staged (of_decide_eq_true rfl) c).1 ?_ ?_
  · simp [State.blocksWarm, State.setpoint, Firing.warm]
  · simp [State.blocksWarm, Firing.warm]

theorem event (e : Event) (h : ∀ d, s.FlowsAt d) (store : s.StoreHolds Settings.FlowsOrdered) (d : Chan) :
    (e.run s).FlowsAt d := by
  have untouched (fuels : .fuels ∉ e.touched) (staged : .staged ∉ e.touched) (flows : .flows ∉ e.touched) :
      (e.run s).FlowsAt d := (h d).untouched (Touches.event e s) fuels staged flows
  cases e with
  | start x =>
    show (s.start x).FlowsAt d
    exact moves (Moves.started x s) (fresh x d store.stored)
  | startUpEnds =>
    show s.startUpEnds.FlowsAt d
    have began : (State.setSupervision { s.chc.supervision with
        link := .live, supervisionTimer := some (s.timer s.chc.supervision.supervisionTime), holdTimer := none }
        { s with phase := .running }).FlowsAt d := (h d).congr rfl rfl rfl rfl
    unfold State.startUpEnds
    simp only
    split
    · exact moves (Moves.tripLineTaken _) began
    · exact began
  | lineAsserted =>
    show (State.whileRunning State.tripLineTaken { s with tripLine := true }).FlowsAt d
    have marked : ({ s with tripLine := true } : State).FlowsAt d := (h d).congr rfl rfl rfl rfl
    unfold State.whileRunning
    split
    · exact moves (Moves.tripLineTaken _) marked
    · exact marked
  | lineDeasserted =>
    show (State.whileRunning (State.goes (.system .tripIn)) { s with tripLine := false }).FlowsAt d
    have marked : ({ s with tripLine := false } : State).FlowsAt d := (h d).congr rfl rfl rfl rfl
    unfold State.whileRunning
    split
    · exact moves (Moves.goes ..) marked
    · exact marked
  | firingPeriod =>
    show s.firingPeriod.FlowsAt d
    exact (h d).firingPeriod
  | pulse c =>
    show (s.pulse c).FlowsAt d
    exact (h d).pulse c
  | stallExpires c =>
    show (s.stallExpires c).FlowsAt d
    unfold State.stallExpires State.stalls
    split
    · simp only
      split
      · exact moves (((Moves.trip ..).trans (Moves.comesFixed ..)).trans (Moves.goes ..)) ((h d).setFeeder ..)
      · exact (h d).setFeeder ..
    · exact h d
  | halt | windowBoundary | trimInterval =>
    exact untouched (of_decide_eq_true rfl) (of_decide_eq_true rfl) (of_decide_eq_true rfl)
  | _ => exact moves (Moves.event _ s rfl) (h d)

theorem owner (k : Kind) (p : Port) (f : List Byte) (h : ∀ d, s.FlowsAt d) (d : Chan) :
    (ownerOf k p f s).state.FlowsAt d := by
  have ordinary (out : k ∉ Moves.drivingKinds) : (ownerOf k p f s).state.FlowsAt d :=
    moves (Moves.owner k p f s out) (h d)
  cases k with
  | startChannel =>
    refine withChan_state (P := fun t : State => t.FlowsAt d) (h d) fun c => ?_
    split
    · exact h d
    · exact startChannel h c d
  | stopChannel =>
    refine withChan_state (P := fun t : State => t.FlowsAt d) (h d) fun c => ?_
    split
    any_goals exact h d
    all_goals exact (h d).stopChannel c
  | clearTrip =>
    refine withChan_state (P := fun t : State => t.FlowsAt d) (h d) fun c => ?_
    split
    · exact h d
    · exact (h d).enterOff c
  | setFlowLimits =>
    refine withChan_state (P := fun t : State => t.FlowsAt d) (h d) fun c => ?_
    simp only
    repeat' split
    any_goals exact h d
    next ordered =>
      refine moves (Moves.of (.startOpenTimer _)) ?_
      exact (h d).writeLimitsHalf c (Nat.le_of_not_lt ordered)
  | setCalibration =>
    refine withChan_state (P := fun t : State => t.FlowsAt d) (h d) fun c => ?_
    simp only
    repeat' split
    any_goals exact h d
    exact moves (Moves.of (.startOpenTimer _)) (writeCalibrationHalf h c d _)
  | warmRestart =>
    show (ownerWarmRestart p f s).state.FlowsAt d
    simp only [ownerWarmRestart, taken]
    exact moves (Moves.warmResent s) (h d).blocksWarm
  | _ => exact ordinary (of_decide_eq_true rfl)

end State.FlowsAt

theorem kept_flowsBounded : Kept State.FlowsBounded where
  ports s t same h := by
    rw [same]
    exact ⟨h.ordered, h.staged, h.stored, h.saving, h.setpoint, h.target⟩
  owner k p f s _ h := by
    obtain ⟨flows, store⟩ := State.flowsBounded_iff.mp h
    exact State.flowsBounded_iff.mpr ⟨State.FlowsAt.owner k p f flows,
      store.owner k p f (State.settings_flowsOrdered flows)⟩
  event e s _ h := by
    obtain ⟨flows, store⟩ := State.flowsBounded_iff.mp h
    exact State.flowsBounded_iff.mpr ⟨State.FlowsAt.event e flows store,
      store.event e Settings.flowsOrdered_default⟩

/-- Settles O52: every stage stays within the max flow, and so does every setpoint driven between the periods. -/
theorem flowsStayBounded : Obligations.FlowsStayBounded := fun _ _ h stepped => kept_flowsBounded.step h stepped

end Sys2Proof.Machine
end

section
/-!
Proofs. The ranges of the channel blocks (Table 5.2, R96): `FeedersStayBounded`.
-/
set_option Elab.async false

namespace Sys2Proof.Machine

/-- What FeedersBounded says of one channel block, in a part that is linked or not. -/
structure FeederBlock.Bounded (linked : Bool) (b : FeederBlock) : Prop where
  trim    : Config.trimMin ≤ b.trim ∧ b.trim ≤ Config.trimMax
  rates   : b.pendingRate ≤ Config.rateMax ∧ b.appliedRate ≤ Config.rateMax
  residue : b.residue < 1000
  counts  : b.pulses < Config.pulseModulus ∧ b.uncalibratedPulses < Config.pulseModulus
  window  : linked = true → b.stallWindow.isSome = true → Config.stallRate ≤ b.appliedRate

theorem State.feedersBounded_iff {s : State} : s.FeedersBounded ↔ ∀ c, (s.feeder c).Bounded s.linked :=
  ⟨fun h c => ⟨h.trim c, h.rates c, h.residue c, h.counts c, fun l => h.window l c⟩,
    fun h => ⟨fun c => (h c).trim, fun c => (h c).rates, fun c => (h c).residue, fun c => (h c).counts,
      fun l c => (h c).window l⟩⟩

theorem rateOf_le (b : FeederBlock) (v : Nat) : rateOf b v ≤ Config.rateMax := by
  unfold rateOf
  split
  · exact Nat.zero_le _
  · exact Nat.min_le_left ..

theorem trimNominal_inRange : Config.trimMin ≤ Config.trimNominal ∧ Config.trimNominal ≤ Config.trimMax := by decide

namespace FeederBlock.Bounded

variable {linked : Bool} {b : FeederBlock}

theorem handed (h : b.Bounded linked) {n : Nat} (le : n ≤ Config.rateMax) :
    { b with pendingRate := n }.Bounded linked := ⟨h.trim, ⟨le, h.rates.2⟩, h.residue, h.counts, h.window⟩

theorem zeroed (h : b.Bounded linked) : b.zeroed.Bounded linked :=
  ⟨h.trim, ⟨Nat.zero_le _, Nat.zero_le _⟩, h.residue, h.counts, fun _ => nofun⟩

theorem recalibrated (h : b.Bounded linked) (k : Calibration) : (b.recalibrated k).Bounded linked :=
  ⟨trimNominal_inRange, h.rates, h.residue, h.counts, h.window⟩

/-- The stall window starts only where the applied rate reaches 500 Hz (R96). -/
theorem boundary (h : b.Bounded linked) (x : Timer) : (b.boundary x).Bounded linked := by
  refine ⟨h.trim, ⟨h.rates.1, h.rates.1⟩, h.residue, h.counts, fun _ running => ?_⟩
  simp only [FeederBlock.boundary] at running ⊢
  split at running
  · cases running
  · omega

theorem pulsed (h : b.Bounded linked) (x : Timer) : (b.pulsed x).Bounded linked := by
  have modulus : 0 < Config.pulseModulus := by decide
  refine ⟨h.trim, h.rates, h.residue, ⟨Nat.mod_lt _ modulus, ?_⟩, fun l running => ?_⟩
  · simp only [FeederBlock.pulsed]
    split
    · exact Nat.mod_lt _ modulus
    · exact h.counts.2
  · simp only [FeederBlock.pulsed, Option.isSome_map] at running
    exact h.window l running

theorem intervalEnds (h : b.Bounded linked) : b.intervalEnds.Bounded linked := by
  have range : Config.trimMin ≤ Config.trimMax := by decide
  refine ⟨?_, h.rates, h.residue, h.counts, h.window⟩
  simp only [FeederBlock.intervalEnds, adaptedTrim]
  split
  · omega
  · exact h.trim

theorem start (cal : Option Calibration) : (FeederBlock.start cal).Bounded linked :=
  ⟨trimNominal_inRange, ⟨Nat.zero_le _, Nat.zero_le _⟩, Nat.succ_pos _, ⟨Nat.two_pow_pos 32, Nat.two_pow_pos 32⟩, fun _ => nofun⟩

end FeederBlock.Bounded

namespace State.FeedersBounded

variable {s t : State} {p : Port} {f : List Byte}

theorem congr (h : s.FeedersBounded) (phase : t.phase = s.phase) (feeders : t.fdi = s.fdi) : t.FeedersBounded := by
  have block := State.feedersBounded_iff.mp h
  refine State.feedersBounded_iff.mpr fun c => ?_
  unfold State.feeder State.linked
  rw [feeders, phase]
  exact block c

/-- One block replaced by a block within the ranges. -/
theorem setFeeder (h : s.FeedersBounded) (c : Chan) {b : FeederBlock}
    (hb : (s.feeder c).Bounded s.linked → b.Bounded s.linked) : (s.setFeeder c b).FeedersBounded := by
  have block := State.feedersBounded_iff.mp h
  refine State.feedersBounded_iff.mpr fun d => ?_
  rw [State.setFeeder_feeder]
  split
  · exact hb (block c)
  · exact block d

theorem drive (h : s.FeedersBounded) (c : Chan) (v : Nat) : (s.drive c v).FeedersBounded :=
  setFeeder (s := s.setSetpoint c v) (h.congr rfl rfl) c fun hb => hb.handed (rateOf_le ..)

theorem moves (h : Moves s t) (hs : s.FeedersBounded) : t.FeedersBounded := by
  induction h with
  | quiet h => exact hs.congr h.phase h.feeders
  | freeze c s => exact hs.congr (Touches.freeze c s).phase (State.freeze_fdi c s)
  | run c s _ =>
    unfold State.enterRunning
    split
    · refine drive ?_ c _
      exact hs.congr rfl rfl
    · exact hs.congr rfl rfl
  | tripTaken c x s _ =>
    have stopped : (s.setFeeder c (s.feeder c).zeroed).FeedersBounded := hs.setFeeder c fun hb => hb.zeroed
    exact stopped.congr rfl rfl
  | fallBack c s =>
    unfold State.fallBack
    simp only
    split
    · exact hs.drive c _
    · exact hs
  | configure => exact hs.congr rfl rfl
  | stallTime c n s => exact hs.setFeeder c fun hb => ⟨hb.trim, hb.rates, hb.residue, hb.counts, hb.window⟩
  | trans _ _ a b => exact b (a hs)

theorem enterOff (h : s.FeedersBounded) (c : Chan) : (s.enterOff c).FeedersBounded :=
  moves (Moves.offNotice c true _) (h.congr rfl rfl)

theorem stopChannel (h : s.FeedersBounded) (c : Chan) : (s.stopChannel c).FeedersBounded := by
  unfold State.stopChannel
  split
  · exact (h.drive c 0).enterOff c
  · split
    · exact h.enterOff c
    · exact h.congr rfl rfl

theorem pair (h : s.FeedersBounded) (c : Chan) (l : FlowLimits) (k : Calibration) : (s.pair c l k).FeedersBounded := by
  unfold State.pair
  refine drive (setFeeder ?_ c fun hb => hb.recalibrated k) c _
  exact h.congr rfl rfl

theorem setFlowLimits (h : s.FeedersBounded) : (ownerSetFlowLimits p f s).state.FeedersBounded := by
  refine withChan_state (P := State.FeedersBounded) h fun c => ?_
  simp only
  repeat' split
  any_goals exact h
  refine moves (Moves.of (.startOpenTimer _)) ?_
  unfold State.writeLimitsHalf
  split
  · exact h.pair ..
  · exact h.congr rfl rfl

theorem setCalibration (h : s.FeedersBounded) : (ownerSetCalibration p f s).state.FeedersBounded := by
  refine withChan_state (P := State.FeedersBounded) h fun c => ?_
  simp only
  repeat' split
  any_goals exact h
  refine moves (Moves.of (.startOpenTimer _)) ?_
  unfold State.writeCalibrationHalf
  split
  · exact h.pair ..
  · exact h.congr rfl rfl

theorem blocksWarm (h : s.FeedersBounded) : s.blocksWarm.FeedersBounded := by
  refine State.feedersBounded_iff.mpr fun c => ?_
  have block : s.blocksWarm.feeder c = (s.feeder c).zeroed := Tbl.get_map ..
  rw [block]
  exact (State.feedersBounded_iff.mp h c).zeroed

theorem owner (k : Kind) (p : Port) (f : List Byte) (h : s.FeedersBounded) : (ownerOf k p f s).state.FeedersBounded := by
  have ordinary (out : k ∉ Moves.drivingKinds) : (ownerOf k p f s).state.FeedersBounded :=
    moves (Moves.owner k p f s out) h
  cases k with
  | startChannel =>
    refine withChan_state (P := State.FeedersBounded) h fun c => ?_
    split
    · exact h
    · refine moves (Moves.offNotice c false _) (drive ?_ c _)
      exact h.congr rfl rfl
  | stopChannel =>
    refine withChan_state (P := State.FeedersBounded) h fun c => ?_
    split
    any_goals exact h
    all_goals exact h.stopChannel c
  | clearTrip =>
    refine withChan_state (P := State.FeedersBounded) h fun c => ?_
    split
    · exact h
    · exact h.enterOff c
  | setFlowLimits => exact h.setFlowLimits (p := p)
  | setCalibration => exact h.setCalibration (p := p)
  | warmRestart =>
    show (ownerWarmRestart p f s).state.FeedersBounded
    simp only [ownerWarmRestart, taken]
    exact moves (Moves.warmResent s) h.blocksWarm
  | _ => exact ordinary (of_decide_eq_true rfl)

/-! ### Events -/

theorem firingPeriod (h : s.FeedersBounded) : s.firingPeriod.FeedersBounded := by
  have handed : s.periodHanded.FeedersBounded := by
    have same : s.periodHanded.phase = s.phase := by rw [State.periodHanded_alone]; rfl
    refine State.feedersBounded_iff.mpr fun c => ?_
    have block := State.feedersBounded_iff.mp h c
    unfold State.linked
    rw [same, State.periodHanded_feeder]
    exact ⟨block.trim, ⟨rateOf_le .., block.rates.2⟩, block.residue, block.counts, block.window⟩
  rw [State.firingPeriod_eq]
  refine moves (Moves.periodReports _) ?_
  refine foldl_holds (P := State.FeedersBounded) (fun s c hs => ?_) allChans handed
  unfold State.stopEnds
  split
  · exact hs.enterOff c
  · exact hs

theorem pulse (h : s.FeedersBounded) (c : Chan) : (s.pulse c).FeedersBounded := by
  have counted := h.setFeeder c fun hb => hb.pulsed (s.timer (s.feeder c).stallTime)
  unfold State.pulse State.weigh
  simp only
  split
  · exact counted
  next k _ =>
    have weighed (n : Nat) := counted.setFeeder c (b := { State.feeder (s.setFeeder c _) c with residue := n % 1000 })
      fun hb => ⟨hb.trim, hb.rates, Nat.mod_lt _ (by decide), hb.counts, hb.window⟩
    split
    · exact weighed _
    · refine moves (Moves.feed ..) ((weighed _).setFeeder c fun hb => ?_)
      exact ⟨hb.trim, hb.rates, hb.residue, hb.counts, hb.window⟩

theorem halt (h : s.FeedersBounded) {ph : Phase} (dark : ph = .off ∨ ph = .held) : (s.halt ph).FeedersBounded := by
  refine State.feedersBounded_iff.mpr fun c => ?_
  have block := State.feedersBounded_iff.mp h c
  have feeder : (s.halt ph).feeder c = { s.feeder c with appliedRate := 0 } := Tbl.get_map ..
  rw [feeder]
  refine ⟨block.trim, ⟨block.rates.1, Nat.zero_le _⟩, block.residue, block.counts, fun linked => ?_⟩
  exfalso
  have := ((s.halt ph).linked_iff.mp linked)
  rcases dark with rfl | rfl <;> exact this.elim nofun nofun

theorem fresh (x : ResetCause) (s : State) : (s.fresh x).FeedersBounded := by
  refine State.feedersBounded_iff.mpr fun c => ?_
  have block : (s.fresh x).feeder c = .start ((s.sst.image.settings.channels.get c).halves.map (·.calibration)) := by
    simp [State.fresh, State.feeder, feedersStart]
  rw [block]
  exact .start _

theorem event (e : Event) (due : e.due s) (h : s.FeedersBounded) : (e.run s).FeedersBounded := by
  cases e with
  | halt ph =>
    show (s.halt ph).FeedersBounded
    exact h.halt due
  | start x =>
    show (s.start x).FeedersBounded
    exact moves (Moves.started x s) (fresh x s)
  | startUpEnds =>
    show s.startUpEnds.FeedersBounded
    have linked : s.linked = true := s.linked_iff.mpr (.inl due)
    have began : (State.setSupervision { s.chc.supervision with
        link := .live, supervisionTimer := some (s.timer s.chc.supervision.supervisionTime), holdTimer := none }
        { s with phase := .running }).FeedersBounded :=
      State.feedersBounded_iff.mpr fun c => by
        have block := State.feedersBounded_iff.mp h c
        rw [linked] at block
        exact block
    unfold State.startUpEnds
    simp only
    split
    · exact moves (Moves.tripLineTaken _) began
    · exact began
  | lineAsserted =>
    show (State.whileRunning State.tripLineTaken { s with tripLine := true }).FeedersBounded
    have marked : ({ s with tripLine := true } : State).FeedersBounded := h.congr rfl rfl
    unfold State.whileRunning
    split
    · exact moves (Moves.tripLineTaken _) marked
    · exact marked
  | lineDeasserted =>
    show (State.whileRunning (State.goes (.system .tripIn)) { s with tripLine := false }).FeedersBounded
    have marked : ({ s with tripLine := false } : State).FeedersBounded := h.congr rfl rfl
    unfold State.whileRunning
    split
    · exact moves (Moves.goes ..) marked
    · exact marked
  | firingPeriod =>
    show s.firingPeriod.FeedersBounded
    exact h.firingPeriod
  | windowBoundary c =>
    show (s.windowBoundary c).FeedersBounded
    exact h.setFeeder c fun hb => hb.boundary _
  | pulse c =>
    show (s.pulse c).FeedersBounded
    exact h.pulse c
  | stallExpires c =>
    show (s.stallExpires c).FeedersBounded
    have stopped := h.setFeeder c (b := { s.feeder c with stallWindow := none })
      fun hb => ⟨hb.trim, hb.rates, hb.residue, hb.counts, fun _ => nofun⟩
    unfold State.stallExpires State.stalls
    split
    · simp only
      split
      · exact moves (((Moves.trip ..).trans (Moves.comesFixed ..)).trans (Moves.goes ..)) stopped
      · exact stopped
    · exact h
  | trimInterval c =>
    show (s.trimInterval c).FeedersBounded
    exact h.setFeeder c fun hb => hb.intervalEnds
  | _ => exact moves (Moves.event _ s rfl) h

end State.FeedersBounded

theorem kept_feedersBounded : Kept State.FeedersBounded where
  ports s t same h := h.congr (by rw [same]) (by rw [same])
  owner k p f s _ h := h.owner k p f
  event e s due h := h.event e due

/-- Settles O53: each write of a block stays in its ranges, and a window starts only at a rate of 500 Hz or more. -/
theorem feedersStayBounded : Obligations.FeedersStayBounded := fun _ _ h stepped => kept_feedersBounded.step h stepped

end Sys2Proof.Machine
end

section
/-!
Proofs. The bounds of fan and grate speeds (section 6.2): `CoolerStaysBounded`.
-/
set_option Elab.async false

namespace Sys2Proof.Machine

/-- What CoolerBounded says of one compartment, in a mode. -/
structure Compartment.Sound (mode : CoolerMode) (x : Compartment) : Prop where
  config : x.config.Bounded
  speed  : x.speed ≤ Config.speedMax
  auto   : x.config.control = .auto → x.config.minSpeed ≤ x.speed
  manual : mode = .manual → x.config.control = .auto → x.manualSpeed = x.speed

/-- What CoolerBounded says of the cooler, the store apart. -/
structure Cooler.Sound (k : Cooler) : Prop where
  comp   : ∀ n, (k.compartments.get n).Sound k.mode
  grates : k.config.grateMin ≤ k.config.grateMax
  grate  : k.config.grateMin ≤ k.grate ∧ k.grate ≤ k.config.grateMax
  manual : k.config.grateMin ≤ k.manualGrate ∧ k.manualGrate ≤ k.config.grateMax

theorem State.coolerBounded_iff {s : State} :
    s.CoolerBounded ↔ s.clc.Sound ∧ s.StoreHolds Settings.CoolerBounded :=
  ⟨fun h => ⟨⟨fun n => ⟨h.config n, h.speed n, h.auto n, fun m => h.manual m n⟩, h.grates, h.grate, h.manualGrate⟩,
      h.stored, h.saving⟩,
    fun ⟨h, store⟩ => ⟨fun n => (h.comp n).config, h.grates, store.stored, store.saving, fun n => (h.comp n).speed,
      fun n => (h.comp n).auto, fun m n => (h.comp n).manual m, h.grate, h.manual⟩⟩

theorem Settings.coolerBounded_default : Settings.default.CoolerBounded :=
  ⟨fun n => by
    rw [show Settings.default.compartments.get n = .default from Tbl.get_all ..]
    exact ⟨Nat.le_of_ble_eq_true rfl, Nat.zero_le _⟩, Nat.le_of_ble_eq_true rfl⟩

theorem State.settings_coolerBounded {s : State} (h : s.clc.Sound) : s.settings.CoolerBounded :=
  ⟨fun n => by simpa [State.settings] using (h.comp n).config, h.grates⟩

/-! ### One compartment -/

namespace Compartment.Sound

variable {m : CoolerMode} {x : Compartment}

/-- Out of CM_MANUAL nothing is asked of the manual speed. -/
theorem mode {m' : CoolerMode} (h : x.Sound m) (other : m' ≠ .manual) : x.Sound m' :=
  ⟨h.config, h.speed, h.auto, fun e => absurd e other⟩

theorem configured {a b minSpeed : Nat} (h : x.Sound m) (le : minSpeed ≤ Config.speedMax) :
    (x.configured m a b minSpeed).Sound m := by
  unfold Compartment.configured
  simp only
  refine ⟨⟨le, h.config.2⟩, ?_, fun auto => ?_, fun manual auto => ?_⟩
  · simp only
    split
    · exact le
    · exact h.speed
  · simp only at auto ⊢
    split
    · exact le_refl _
    next raised =>
      rw [auto] at raised
      simpa using raised
  · simp only at auto ⊢
    rw [h.manual manual auto, manual]
    simp

theorem controlled (h : x.Sound m) (k : CompControl) {n : Nat} (le : n ≤ Config.speedMax) :
    (x.controlled m k n).Sound m := by
  unfold Compartment.controlled
  simp only
  split
  · exact ⟨⟨h.config.1, le⟩, h.speed, nofun, fun _ => nofun⟩
  next auto => exact ⟨⟨h.config.1, le⟩, h.speed, fun _ => h.auto auto, fun manual _ => h.manual manual auto⟩
  · refine ⟨⟨h.config.1, le⟩, max_le h.config.1 h.speed, fun _ => Nat.le_max_left .., fun manual _ => ?_⟩
    simp only
    rw [if_pos manual]

theorem handed (h : x.Sound m) (v : Nat) :
    { x with speed := x.config.manualBound v, manualSpeed := x.config.manualBound v }.Sound m :=
  ⟨h.config, Nat.min_le_left .., fun _ => le_min h.config.1 (Nat.le_max_left ..), fun _ _ => rfl⟩

theorem warm (h : x.config.Bounded) : x.warm.Sound m := by
  have idle : x.config.idleSpeed ≤ Config.speedMax := by
    unfold CompartmentConfig.idleSpeed
    split
    · exact h.1
    · exact h.2
  refine ⟨h, idle, fun auto => ?_, fun _ _ => rfl⟩
  simp only [Compartment.warm] at auto ⊢
  unfold CompartmentConfig.idleSpeed
  rw [auto]

theorem start {c : CompartmentConfig} (h : c.Bounded) : (Compartment.start c).Sound m := by
  have idle : c.idleSpeed ≤ Config.speedMax := by
    unfold CompartmentConfig.idleSpeed
    split
    · exact h.1
    · exact h.2
  refine ⟨h, idle, fun auto => ?_, fun _ _ => rfl⟩
  simp only [Compartment.start] at auto ⊢
  unfold CompartmentConfig.idleSpeed
  rw [auto]

/-- A FIXED compartment takes its fixed speed (R108). -/
theorem fixedTaken (h : x.Sound m) : x.fixedTaken.Sound m := by
  unfold Compartment.fixedTaken
  split
  next fixed =>
    exact ⟨h.config, h.config.2, fun auto => by simp [fixed] at auto, fun _ auto => by simp [fixed] at auto⟩
  next => exact h

theorem flagCleared (h : x.Sound m) : x.flagCleared.Sound m := ⟨h.config, h.speed, h.auto, h.manual⟩

theorem distributed (h : x.Sound m) (other : m ≠ .manual) (rest weights : Nat) : (x.distributed rest weights).Sound m := by
  unfold Compartment.distributed
  split
  · exact h
  · exact ⟨h.config, Nat.min_le_left .., fun _ => le_min h.config.1 (Nat.le_max_left ..), fun e => absurd e other⟩

/-- An AUTO compartment takes a speed within its bounds. -/
theorem autoTakes (h : x.Sound m) {v : Nat}
    (bounds : x.config.control = .auto → x.config.minSpeed ≤ v ∧ v ≤ Config.speedMax)
    (manual : m = .manual → x.config.control = .auto → x.manualSpeed = v) : (x.autoTakes v).Sound m := by
  unfold Compartment.autoTakes
  split
  next auto => exact ⟨h.config, (bounds auto).2, fun _ => (bounds auto).1, manual⟩
  next => exact h

end Compartment.Sound

/-- The compartments after step 3 of a period, from those of the same mode class (Table 6.6). -/
theorem outputs_sound {m : CoolerMode} {cs : Tbl Compartment 8} (air : Nat) (rate : Int)
    (h : ∀ n, (cs.get n).Sound m) (n : Comp) : ((outputs m air rate cs).get n).Sound m := by
  have shared (other : m ≠ .manual) (n : Comp) : ((distribution air rate cs).get n).Sound m := by
    simp only [distribution, Tbl.get_map]
    exact (h n).distributed other ..
  unfold outputs
  rw [Tbl.get_map]
  refine Compartment.Sound.fixedTaken ?_
  cases m with
  | idle =>
    simp only [Tbl.get_map]
    exact ((h n).autoTakes (fun _ => ⟨le_refl _, (h n).config.1⟩) nofun).flagCleared
  | normal => exact shared nofun n
  | flush =>
    simp only [Tbl.get_make]
    split
    · exact (shared nofun n).autoTakes (fun _ => ⟨(shared nofun n).config.1, le_refl _⟩) nofun
    · exact shared nofun n
  | held => exact h n
  | manual =>
    simp only [Tbl.get_map]
    refine ((h n).autoTakes (fun auto => ?_) fun _ _ => rfl).flagCleared
    rw [(h n).manual rfl auto]
    exact ⟨(h n).auto auto, (h n).speed⟩

/-! ### The cooler -/

theorem CoolerConfig.bound_inRange {c : CoolerConfig} (h : c.grateMin ≤ c.grateMax) (n : Nat) :
    c.grateMin ≤ c.bound n ∧ c.bound n ≤ c.grateMax := by
  unfold CoolerConfig.bound
  omega

/-- CM_MANUAL is kept by a period and by no other mode led to (Table 6.5). -/
theorem Cooler.nextMode_manual_iff (k : Cooler) (r : CoolerReadings) : k.nextMode r = .manual ↔ k.mode = .manual := by
  unfold Cooler.nextMode
  split
  case h_5 m => simp [m]
  all_goals
    next m => rw [m]; (repeat' split) <;> simp

namespace Cooler.Sound

variable {k : Cooler}

/-- One compartment replaced by one within its bounds. -/
theorem setCompartment (h : k.Sound) (n : Comp) {x : Compartment} (hx : x.Sound k.mode) :
    { k with compartments := k.compartments.put n x }.Sound :=
  ⟨fun m => by
    simp only [Tbl.get_put]
    split
    · exact hx
    · exact h.comp m, h.grates, h.grate, h.manual⟩

theorem configured {c : CoolerConfig} (h : k.Sound) (ordered : c.grateMin ≤ c.grateMax) : (k.configured c).Sound :=
  ⟨h.comp, ordered, CoolerConfig.bound_inRange ordered _, CoolerConfig.bound_inRange ordered _⟩

theorem nextGrate (h : k.Sound) (m : CoolerMode) (r : CoolerReadings) :
    k.config.grateMin ≤ k.nextGrate m r ∧ k.nextGrate m r ≤ k.config.grateMax := by
  unfold Cooler.nextGrate
  split
  · exact ⟨le_refl _, h.grates⟩
  · exact CoolerConfig.bound_inRange h.grates _
  · exact ⟨h.grates, le_refl _⟩
  · exact h.grate
  · exact h.manual

theorem period (h : k.Sound) {cs : Tbl Compartment 8} (read : ∀ n, (cs.get n).Sound k.mode) (r : CoolerReadings)
    (x : Timer) : (k.period cs r x).Sound := by
  refine ⟨outputs_sound _ _ fun n => ?_, h.grates, h.nextGrate .., h.manual⟩
  show (cs.get n).Sound (k.nextMode r)
  by_cases m : k.nextMode r = .manual
  · rw [m, ← (k.nextMode_manual_iff r).mp m]
    exact read n
  · exact (read n).mode m

end Cooler.Sound

/-! ### The commands -/

namespace State.CoolerBounded

variable {s t : State} {p : Port} {f : List Byte}

theorem flags {k : Cooler} (h : k.Sound) (a b c : Bool) :
    { k with reportedFlush := a, reportedAirShort := b, reportedHeld := c }.Sound := ⟨h.comp, h.grates, h.grate, h.manual⟩

theorem heldReport (h : s.clc.Sound) : s.heldReport.clc.Sound := by
  unfold State.heldReport
  simp only
  split
  · exact h
  · split
    · rw [(Touches.comesFixed (.cooler .held) _).cooler]
      exact flags h ..
    · rw [(Touches.goes (.cooler .held) _).cooler]
      exact flags h ..

theorem flushReport (h : s.clc.Sound) : s.flushReport.clc.Sound := by
  unfold State.flushReport
  simp only
  split
  · exact h
  · split
    · rw [(Touches.comesFixed (.cooler .flush) _).cooler]
      exact flags h ..
    · rw [(Touches.goes (.cooler .flush) _).cooler]
      exact flags h ..

theorem airShortReport (h : s.clc.Sound) : s.airShortReport.clc.Sound := by
  unfold State.airShortReport
  simp only
  split
  · exact h
  · split
    · rw [(Touches.comesFixed (.cooler .airShort) _).cooler]
      exact flags h ..
    · rw [(Touches.goes (.cooler .airShort) _).cooler]
      exact flags h ..

theorem enterManual (h : s.clc.Sound) : s.enterManual.clc.Sound := by
  refine heldReport (airShortReport ⟨fun n => ?_, h.grates, h.grate, h.grate⟩)
  simp only [State.setCooler_clc, Tbl.get_map]
  exact ⟨(h.comp n).config, (h.comp n).speed, (h.comp n).auto, fun _ _ => rfl⟩

theorem coolerMode (h : s.clc.Sound) : (ownerCoolerMode p f s).state.clc.Sound := by
  unfold ownerCoolerMode
  split
  · split
    · exact h
    · exact enterManual h
  · split
    · have other : s.automaticMode ≠ .manual := by
        unfold State.automaticMode
        split <;> exact nofun
      exact ⟨fun n => (h.comp n).mode other, h.grates, h.grate, h.manual⟩
    · exact h
  · exact h

theorem warmRestart (h : s.clc.Sound) : s.warmRestart.clc.Sound := by
  rw [(warmRestart_resent s).cooler]
  refine ⟨fun n => ?_, h.grates, ⟨le_refl _, h.grates⟩, ⟨le_refl _, h.grates⟩⟩
  have comp : s.blocksWarm.clc.compartments.get n = (s.clc.compartments.get n).warm := Tbl.get_map ..
  rw [comp]
  exact .warm (h.comp n).config

theorem owner (k : Kind) (p : Port) (f : List Byte) (h : s.clc.Sound) : (ownerOf k p f s).state.clc.Sound := by
  have untouched (out : .cooler ∉ touchedBy k) : (ownerOf k p f s).state.clc.Sound := by
    rw [(Touches.owner k p f s).cooler out]
    exact h
  cases k with
  | setCompartment =>
    refine withComp_state (P := fun t : State => t.clc.Sound) h fun n => ?_
    split
    · exact h
    next range =>
      have le : Config.minSpeedMax ≤ Config.speedMax := by decide
      exact h.setCompartment n ((h.comp n).configured (by omega))
  | setCompartmentControl =>
    refine withComp_state (P := fun t : State => t.clc.Sound) h fun n => ?_
    split
    · exact h
    · exact h.setCompartment n ((h.comp n).controlled _ (Nat.min_le_left ..))
  | setCoolerConfig =>
    show (ownerSetCoolerConfig p f s).state.clc.Sound
    unfold ownerSetCoolerConfig
    simp only
    split
    · exact h
    · split
      · exact h
      next ordered => exact h.configured (Nat.le_of_not_lt ordered)
  | setManualSpeed =>
    refine withComp_state (P := fun t : State => t.clc.Sound) h fun n => ?_
    simp only
    split
    · exact h
    · exact h.setCompartment n ((h.comp n).handed _)
  | setManualGrate =>
    show (ownerSetManualGrate p f s).state.clc.Sound
    unfold ownerSetManualGrate
    simp only
    split
    · exact h
    · exact ⟨h.comp, h.grates, CoolerConfig.bound_inRange h.grates _, CoolerConfig.bound_inRange h.grates _⟩
  | coolerMode => exact coolerMode (p := p) h
  | warmRestart =>
    show (ownerWarmRestart p f s).state.clc.Sound
    simp only [ownerWarmRestart, taken]
    exact warmRestart h
  | _ => exact untouched (of_decide_eq_true rfl)

theorem coolerPeriod (h : s.clc.Sound) : s.coolerPeriod.clc.Sound := by
  have read (n : Comp) : (s.pressuresRead.get n).Sound s.clc.mode := by
    simp only [State.pressuresRead, Tbl.get_make]
    exact ⟨(h.comp n).config, (h.comp n).speed, (h.comp n).auto, (h.comp n).manual⟩
  have ran := h.period read s.coolerReadings (s.timer s.clc.config.flushTime)
  unfold State.coolerPeriod
  refine airShortReport (flushReport (heldReport ?_))
  split
  · exact ran
  · exact ran

theorem flushExpires (h : s.clc.Sound) : s.flushExpires.clc.Sound := by
  unfold State.flushExpires State.flushRunsOut
  split
  · refine flushReport (s := State.flushEnd _) ⟨fun n => ?_, h.grates, h.grate, h.manual⟩
    show (s.clc.compartments.get n).Sound (if s.clc.mode = .flush then .normal else s.clc.mode)
    split
    · exact (h.comp n).mode nofun
    · exact h.comp n
  · exact h

theorem start (x : ResetCause) (h : s.sst.image.settings.CoolerBounded) : (s.start x).clc.Sound := by
  have same : (s.start x).clc = .start s.sst.image.settings := by
    unfold State.start
    rw [(Touches.reconcileStore _).cooler, (Touches.reconcileAll _).cooler]
    rfl
  rw [same]
  refine ⟨fun n => ?_, h.2, ⟨le_refl _, h.2⟩, ⟨le_refl _, h.2⟩⟩
  simp only [Cooler.start, Tbl.get_make]
  exact .start (h.1 n)

theorem event (e : Event) (h : s.clc.Sound) (store : s.StoreHolds Settings.CoolerBounded) : (e.run s).clc.Sound := by
  have untouched (out : .cooler ∉ e.touched) : (e.run s).clc.Sound := by
    rw [(Touches.event e s).cooler out]
    exact h
  cases e with
  | start x =>
    show (s.start x).clc.Sound
    exact start x store.stored
  | coolerPeriod =>
    show s.coolerPeriod.clc.Sound
    exact coolerPeriod h
  | flushExpires =>
    show s.flushExpires.clc.Sound
    exact flushExpires h
  | _ => exact untouched (of_decide_eq_true rfl)

end State.CoolerBounded

theorem kept_coolerBounded : Kept State.CoolerBounded where
  ports s t same h := by
    obtain ⟨cooler, store⟩ := State.coolerBounded_iff.mp h
    refine State.coolerBounded_iff.mpr ⟨?_, store.congr ?_ ?_⟩ <;> rw [same]
    exact cooler
  owner k p f s _ h := by
    obtain ⟨cooler, store⟩ := State.coolerBounded_iff.mp h
    exact State.coolerBounded_iff.mpr ⟨State.CoolerBounded.owner k p f cooler,
      store.owner k p f (State.settings_coolerBounded cooler)⟩
  event e s _ h := by
    obtain ⟨cooler, store⟩ := State.coolerBounded_iff.mp h
    exact State.coolerBounded_iff.mpr ⟨State.CoolerBounded.event e cooler store,
      store.event e Settings.coolerBounded_default⟩

/-- Settles O54: each mode's outputs and each write of a setting or a manual value lie in the bounds. -/
theorem coolerStaysBounded : Obligations.CoolerStaysBounded := fun _ _ h stepped => kept_coolerBounded.step h stepped

end Sys2Proof.Machine
end

section
/-!
Proofs. Which conditions the reports leave present, and that points report what is due: `PointsStayReported`.
-/
set_option Elab.async false

namespace Sys2Proof.Machine

/-! ### The presence of the condition reported -/

/-- The live record that the slot of an identity holds. -/
theorem AlarmTable.record_of_slotOf {a : AlarmTable} {id : Identity} {i : SlotNo} (h : a.slotOf id = some i) :
    ∃ r, a.record i = some r ∧ r.identity = id := by
  have found := List.find?_some h
  cases held : a.record i with
  | none => simp [held] at found
  | some r => exact ⟨r, rfl, by simpa [held] using found⟩

theorem AlarmTable.isPresent_of_condition {a : AlarmTable} {id : Identity} {k : Condition}
    (h : a.condition id = some k) : a.isPresent id = true := by rw [isPresent, h]; rfl

theorem AlarmTable.isPresent_of_offMap {a b : AlarmTable} (h : b.offMap = a.offMap) (id : Identity) :
    b.isPresent id = a.isPresent id := by
  rw [isPresent, isPresent, condition_of_offMap h]

@[simp] theorem AlarmTable.isPresent_settled (a : AlarmTable) (id : Identity) :
    a.settled.isPresent id = a.isPresent id := rfl

theorem AlarmTable.isPresent_setCondition_self (a : AlarmTable) (id : Identity) (k : Option Condition) :
    (a.setCondition id k).isPresent id = k.isSome := by rw [isPresent, setCondition_condition_self]

section presence
variable {id : Identity} (ordinary : id ≠ .system .tableFull)
include ordinary

theorem State.comesOnRecords_present (k : Condition) (s : State) :
    (s.comesOnRecords id k).alt.isPresent id = true := by
  unfold State.comesOnRecords
  split
  next i found =>
    obtain ⟨r, held, -⟩ := AlarmTable.record_of_slotOf found
    rw [held]
    exact AlarmTable.isPresent_setCondition_self ..
  next =>
    split
    · exact AlarmTable.isPresent_setCondition_self ..
    · rw [AlarmTable.OthersStand.tableFullComes (id := .system .tableFull) _ id ordinary ordinary]
      exact AlarmTable.isPresent_setCondition_self ..

theorem State.comesAfresh_present (l : Option Level) (p : Priority) (s : State) :
    (s.comesAfresh id l p).alt.isPresent id = true := by
  rw [State.comesAfresh, State.settle_alt, State.cameNotice_alt, AlarmTable.isPresent_settled,
    AlarmTable.isPresent_of_offMap (State.intoForce_offMap id _)]
  exact State.comesOnRecords_present ordinary _ s

omit ordinary in
theorem State.levelOfPresent_present (k : Condition) (l : Option Level) (p : Priority) (s : State) :
    (s.levelOfPresent id k l p).alt.isPresent id = true := by
  unfold State.levelOfPresent
  simp only
  rw [State.settle_alt, AlarmTable.isPresent_settled, AlarmTable.isPresent_of_offMap (State.intoForce_offMap id _)]
  repeat' split
  all_goals exact AlarmTable.isPresent_setCondition_self ..

theorem State.comes_present (l : Option Level) (p : Priority) (s : State) :
    (s.comes id l p).alt.isPresent id = true := by
  unfold State.comes
  split
  · exact State.comesAfresh_present ordinary l p s
  · split
    · exact State.levelOfPresent_present _ l p s
    · exact AlarmTable.isPresent_setCondition_self ..

theorem State.levelChanges_present (l : Option Level) (p : Priority) (s : State) :
    (s.levelChanges id l p).alt.isPresent id = true := by
  unfold State.levelChanges
  split
  · exact State.comesAfresh_present ordinary l p s
  · exact State.levelOfPresent_present _ l p s

theorem State.goesOnRecords_present (k : Condition) (s : State) :
    (s.goesOnRecords id k).alt.isPresent id = false := by
  have gone : (s.setAlt (s.alt.setCondition id none)).alt.isPresent id = false :=
    AlarmTable.isPresent_setCondition_self ..
  unfold State.goesOnRecords
  simp only
  split
  · rw [AlarmTable.OthersStand.tableFullCheck (id := .system .tableFull) _ id ordinary ordinary]
    exact gone
  · repeat' split
    · exact gone
    · exact gone
    · rw [AlarmTable.OthersStand.retire (id := .system .tableFull) _ _ id ordinary ordinary]
      exact gone
    · exact gone

theorem State.goes_present (s : State) : (s.goes id).alt.isPresent id = false := by
  unfold State.goes
  split
  next absent => rw [AlarmTable.isPresent, absent]; rfl
  next =>
    rw [State.settle_alt, AlarmTable.isPresent_settled, AlarmTable.isPresent_of_offMap (State.outOfForce_offMap id _)]
    exact State.goesOnRecords_present ordinary _ s

end presence

/-- The identity a report is on. -/
def Report.identity : Report → Identity
  | .comes id _ _ | .goes id | .level id _ _ => id

/-- Whether a report leaves its identity present. -/
def Report.leaves : Report → Bool
  | .comes _ _ _ | .level _ _ _ => true
  | .goes _ => false

/-- Whether an identity is present after a report, from whether it was. -/
def Report.presence (id : Identity) (b : Bool) (r : Report) : Bool := if r.identity = id then r.leaves else b

theorem State.report_present {id : Identity} (ordinary : id ≠ .system .tableFull) (r : Report) (s : State) :
    (s.report r).alt.isPresent id = r.presence id (s.alt.isPresent id) := by
  unfold Report.presence
  split
  next e =>
    subst e
    cases r with
    | comes j l x => exact State.comes_present ordinary l x s
    | goes j => exact State.goes_present ordinary s
    | level j l x => exact State.levelChanges_present ordinary l x s
  next ne =>
    cases r with
    | comes j l x => exact AlarmTable.OthersStand.comes l x s id (Ne.symm ne) ordinary
    | goes j => exact AlarmTable.OthersStand.goes s id (Ne.symm ne) ordinary
    | level j l x => exact AlarmTable.OthersStand.levelChanges l x s id (Ne.symm ne) ordinary

theorem State.reports_present {id : Identity} (ordinary : id ≠ .system .tableFull) (rs : List Report) (s : State) :
    (s.reports rs).alt.isPresent id = rs.foldl (Report.presence id) (s.alt.isPresent id) := by
  induction rs generalizing s with
  | nil => rfl
  | cons r rs ih =>
    rw [List.foldl_cons, ← State.report_present ordinary]
    exact ih _

/-! ### The reports of a reconciliation -/

section parts
variable {id i : Identity} {prio : Level → Priority} {b : Bool}

theorem presence_goesPart (old new : Option Level) :
    (goesPart i old new).foldl (Report.presence id) b = if i = id ∧ old.isSome ∧ new.isNone then false else b := by
  unfold goesPart
  split
  next h => by_cases e : i = id <;> simp [Report.presence, Report.identity, Report.leaves, h, e]
  next h => rw [if_neg fun e => h e.2]; rfl

theorem presence_levelPart (old new : Option Level) : (levelPart i prio old new).foldl (Report.presence id) b
    = if i = id ∧ old.isSome ∧ new.isSome ∧ old ≠ new then true else b := by
  unfold levelPart
  split
  next x y =>
    by_cases same : x = y <;> by_cases e : i = id <;>
      simp [Report.presence, Report.identity, Report.leaves, same, e]
  next h =>
    rw [if_neg]
    · rfl
    · rintro ⟨-, a, c, -⟩
      obtain ⟨x, rfl⟩ := Option.isSome_iff_exists.mp a
      obtain ⟨y, rfl⟩ := Option.isSome_iff_exists.mp c
      exact h x y rfl rfl

theorem presence_comesPart (old new : Option Level) : (comesPart i prio old new).foldl (Report.presence id) b
    = if i = id ∧ old.isNone ∧ new.isSome then true else b := by
  unfold comesPart
  split
  · by_cases e : i = id <;> simp [Report.presence, Report.identity, Report.leaves, e]
  next h =>
    rw [if_neg]
    · rfl
    · rintro ⟨-, a, c⟩
      rw [Option.isNone_iff_eq_none] at a
      obtain ⟨y, rfl⟩ := Option.isSome_iff_exists.mp c
      exact h y a rfl

theorem presence_ite (c : Prop) [Decidable c] (r : Report) :
    (if c then [r] else []).foldl (Report.presence id) b = if c ∧ r.identity = id then r.leaves else b := by
  by_cases h : c <;> simp [h, Report.presence]

end parts

/-- The reports of a point leave another identity as present as it was. -/
theorem PointTable.reports_presence_other (t : PointTable) {p : PointNo} {id : Identity}
    (other : ∀ k, .point p k ≠ id) (b : Bool) : (t.reports p).foldl (Report.presence id) b = b := by
  have lo := other .loSide
  have hi := other .hiSide
  have quality := other .quality
  simp only [PointTable.reports, List.foldl_append, presence_goesPart, presence_levelPart, presence_comesPart,
    presence_ite, Report.identity, lo, hi, quality, false_and, and_false, if_false]

/-- The reports of a point bring its conditions from what was reported to what is due. -/
theorem PointTable.reports_presence_lo (t : PointTable) (p : PointNo) :
    (t.reports p).foldl (Report.presence (.point p .loSide)) (t.points.get p).reportedLo.isSome
      = (t.dueLo p).isSome := by
  simp only [PointTable.reports, List.foldl_append, presence_goesPart, presence_levelPart, presence_comesPart,
    presence_ite, Report.identity, Identity.point.injEq, reduceCtorEq, and_false, false_and, if_false, true_and]
  cases (t.points.get p).reportedLo <;> cases t.dueLo p <;> simp

theorem PointTable.reports_presence_hi (t : PointTable) (p : PointNo) :
    (t.reports p).foldl (Report.presence (.point p .hiSide)) (t.points.get p).reportedHi.isSome
      = (t.dueHi p).isSome := by
  simp only [PointTable.reports, List.foldl_append, presence_goesPart, presence_levelPart, presence_comesPart,
    presence_ite, Report.identity, Identity.point.injEq, reduceCtorEq, and_false, false_and, if_false, true_and]
  cases (t.points.get p).reportedHi <;> cases t.dueHi p <;> simp

theorem PointTable.reports_presence_quality (t : PointTable) (p : PointNo) :
    (t.reports p).foldl (Report.presence (.point p .quality)) (t.points.get p).reportedQuality = t.dueQuality p := by
  simp only [PointTable.reports, List.foldl_append, presence_goesPart, presence_levelPart, presence_comesPart,
    presence_ite, Report.identity, Identity.point.injEq, reduceCtorEq, and_false, false_and, if_false, Report.leaves]
  cases (t.points.get p).reportedQuality <;> cases t.dueQuality p <;> simp

/-! ### One point -/

/-- A point has reported what is due. -/
structure PointTable.Reported (t : PointTable) (p : PointNo) : Prop where
  lo      : (t.points.get p).reportedLo = t.dueLo p
  hi      : (t.points.get p).reportedHi = t.dueHi p
  quality : (t.points.get p).reportedQuality = t.dueQuality p

/-- The condition list holds what a point has reported. -/
structure State.Listed (s : State) (p : PointNo) : Prop where
  lo      : s.alt.isPresent (.point p .loSide) = (s.point p).reportedLo.isSome
  hi      : s.alt.isPresent (.point p .hiSide) = (s.point p).reportedHi.isSome
  quality : s.alt.isPresent (.point p .quality) = (s.point p).reportedQuality

/-- Every point has reported what is due, and the condition list holds it. -/
structure State.PointsSound (s : State) : Prop where
  listed   : ∀ p, s.Listed p
  reported : ∀ p, s.ptb.Reported p

/-- The channel-off view is that of the channels. -/
def State.Marked (s : State) : Prop := ∀ c, s.ptb.offMarks.get c = true ↔ (s.chan c).state = .off

theorem State.pointsAgree_iff {s : State} : s.PointsAgree ↔ s.Marked ∧ s.PointsSound :=
  ⟨fun h => ⟨h.marks, fun p => ⟨h.loList p, h.hiList p, h.qualityList p⟩, fun p => ⟨h.lo p, h.hi p, h.quality p⟩⟩,
    fun ⟨marks, h⟩ => ⟨marks, fun p => (h.reported p).lo, fun p => (h.reported p).hi, fun p => (h.reported p).quality,
      fun p => (h.listed p).lo, fun p => (h.listed p).hi, fun p => (h.listed p).quality⟩⟩

/-- What a point's conditions are due by: its band, its quality, its configuration and its channel's mark (R9). -/
theorem PointTable.due_congr {t u : PointTable} {p : PointNo}
    (record : (u.points.get p).band = (t.points.get p).band ∧ (u.points.get p).quality = (t.points.get p).quality)
    (config : (u.points.get p).config.associated = (t.points.get p).config.associated
      ∧ (u.points.get p).config.qualityAlarm = (t.points.get p).config.qualityAlarm)
    (mark : ∀ c, (t.points.get p).config.associated = some c → u.offMarks.get c = t.offMarks.get c) :
    u.dueLo p = t.dueLo p ∧ u.dueHi p = t.dueHi p ∧ u.dueQuality p = t.dueQuality p := by
  obtain ⟨band, quality⟩ := record
  obtain ⟨associated, enabled⟩ := config
  have suppressed : u.suppressed p = t.suppressed p := by
    unfold PointTable.suppressed
    rw [associated]
    cases h : (t.points.get p).config.associated with
    | none => rfl
    | some c => exact mark c h
  simp only [PointTable.dueLo, PointTable.dueHi, PointTable.dueQuality, suppressed, band, quality, enabled, true_and]

/-- A record with every reported field as due. -/
def PointTable.matched (t : PointTable) (p : PointNo) : PointRecord :=
  { t.points.get p with reportedLo := t.dueLo p, reportedHi := t.dueHi p, reportedQuality := t.dueQuality p }

theorem State.reconcile_ptb (p : PointNo) (s : State) :
    (s.reconcile p).ptb = { s.ptb with points := s.ptb.points.put p (s.ptb.matched p) } :=
  (Touches.reports _ _).points

@[simp] theorem State.reconcile_offMarks (p : PointNo) (s : State) : (s.reconcile p).ptb.offMarks = s.ptb.offMarks := by
  rw [State.reconcile_ptb]

theorem State.reconcile_point (p q : PointNo) (s : State) :
    (s.reconcile p).point q = if q = p then s.ptb.matched p else s.point q := by
  unfold State.point
  rw [State.reconcile_ptb, Tbl.get_put]

theorem State.reconcile_due (p q : PointNo) (s : State) : (s.reconcile p).ptb.dueLo q = s.ptb.dueLo q
    ∧ (s.reconcile p).ptb.dueHi q = s.ptb.dueHi q ∧ (s.reconcile p).ptb.dueQuality q = s.ptb.dueQuality q := by
  have record := State.reconcile_point p q s
  unfold State.point at record
  refine PointTable.due_congr ?_ ?_ fun c _ => by rw [State.reconcile_offMarks]
  all_goals
    rw [record]
    split
    next e => subst e; exact ⟨rfl, rfl⟩
    next => exact ⟨rfl, rfl⟩

theorem State.Listed.reconcile {s : State} {q : PointNo} (h : s.Listed q) (p : PointNo) : (s.reconcile p).Listed q := by
  have present (k : PointCond) : (s.reconcile p).alt.isPresent (.point q k)
      = (s.ptb.reports p).foldl (Report.presence (.point q k)) (s.alt.isPresent (.point q k)) :=
    State.reports_present (id := .point q k) nofun (s.ptb.reports p) _
  have record := State.reconcile_point p q s
  by_cases e : q = p
  · subst e
    rw [if_pos rfl] at record
    refine ⟨?_, ?_, ?_⟩ <;> rw [present, record]
    · rw [h.lo]; exact s.ptb.reports_presence_lo q
    · rw [h.hi]; exact s.ptb.reports_presence_hi q
    · rw [h.quality]; exact s.ptb.reports_presence_quality q
  · rw [if_neg e] at record
    have other (k k' : PointCond) : Identity.point p k ≠ .point q k' := fun x => e (by cases x; rfl)
    refine ⟨?_, ?_, ?_⟩ <;> rw [present, record, PointTable.reports_presence_other _ fun k => other k _]
    · exact h.lo
    · exact h.hi
    · exact h.quality

theorem PointTable.Reported.reconcile {s : State} {p q : PointNo} (h : q = p ∨ s.ptb.Reported q) :
    (s.reconcile p).ptb.Reported q := by
  have record := State.reconcile_point p q s
  unfold State.point at record
  obtain ⟨lo, hi, quality⟩ := State.reconcile_due p q s
  by_cases e : q = p
  · subst e
    rw [if_pos rfl] at record
    refine ⟨?_, ?_, ?_⟩ <;> rw [record]
    · rw [lo]; rfl
    · rw [hi]; rfl
    · rw [quality]; rfl
  · rw [if_neg e] at record
    have h := h.resolve_left e
    refine ⟨?_, ?_, ?_⟩ <;> rw [record]
    · rw [lo]; exact h.lo
    · rw [hi]; exact h.hi
    · rw [quality]; exact h.quality

/-- Points reconciled one after another: those of the list have then reported what is due. -/
theorem State.PointsSound.reconciled {s : State} (l : List PointNo) (listed : ∀ q, s.Listed q)
    (reported : ∀ q, q ∈ l ∨ s.ptb.Reported q) : (l.foldl (fun s p => s.reconcile p) s).PointsSound := by
  induction l generalizing s with
  | nil => exact ⟨listed, fun q => (reported q).resolve_left (by simp)⟩
  | cons p l ih =>
    refine ih (fun q => (listed q).reconcile p) fun q => ?_
    rcases reported q with h | h
    · rcases List.mem_cons.mp h with e | h
      · exact .inr (.reconcile (.inl e))
      · exact .inl h
    · exact .inr (.reconcile (.inr h))

/-! ### Writes of points, channel-off notices -/

section points
variable {s t : State}

theorem State.PointsSound.congr (h : s.PointsSound) (points : t.ptb = s.ptb) (alarms : Aspect.pointAlarms.same s t) :
    t.PointsSound :=
  ⟨fun p => ⟨by rw [alarms, State.point, points]; exact (h.listed p).lo,
      by rw [alarms, State.point, points]; exact (h.listed p).hi,
      by rw [alarms, State.point, points]; exact (h.listed p).quality⟩,
    fun p => by rw [points]; exact h.reported p⟩

theorem State.Marked.congr (h : s.Marked) (marks : t.ptb.offMarks = s.ptb.offMarks) (offs : Aspect.offs.same s t) :
    t.Marked := fun c => by rw [marks, offs c]; exact h c

theorem State.PointsAgree.of_touches {l : List Aspect} (h : s.PointsAgree) (touches : Touches l s t)
    (points : .points ∉ l := by exact of_decide_eq_true rfl)
    (alarms : .pointAlarms ∉ l := by exact of_decide_eq_true rfl)
    (offs : .offs ∉ l := by exact of_decide_eq_true rfl) : t.PointsAgree := by
  obtain ⟨marks, sound⟩ := State.pointsAgree_iff.mp h
  exact State.pointsAgree_iff.mpr ⟨marks.congr (by rw [touches.points points]) (touches.offs offs),
    sound.congr (touches.points points) (touches.pointAlarms alarms)⟩

/-- A point's record written, its reported fields kept: the list holds it, and other points are as due as before. -/
theorem State.PointsSound.setPoint (h : s.PointsSound) (p : PointNo) (r : PointRecord)
    (lo : r.reportedLo = (s.point p).reportedLo := by rfl) (hi : r.reportedHi = (s.point p).reportedHi := by rfl)
    (quality : r.reportedQuality = (s.point p).reportedQuality := by rfl) :
    (∀ q, (s.setPoint p r).Listed q) ∧ ∀ q, q ≠ p → (s.setPoint p r).ptb.Reported q := by
  have written (q : PointNo) : (s.setPoint p r).point q = if q = p then r else s.point q := Tbl.get_put ..
  refine ⟨fun q => ?_, fun q e => ?_⟩
  · have stands := h.listed q
    have w := written q
    split at w
    next e =>
      subst e
      exact ⟨by rw [w, lo]; exact stands.lo, by rw [w, hi]; exact stands.hi, by rw [w, quality]; exact stands.quality⟩
    next => exact ⟨by rw [w]; exact stands.lo, by rw [w]; exact stands.hi, by rw [w]; exact stands.quality⟩
  · have w := written q
    rw [if_neg e] at w
    unfold State.point at w
    obtain ⟨dueLo, dueHi, dueQuality⟩ := PointTable.due_congr (t := s.ptb) (u := (s.setPoint p r).ptb) (p := q)
      (by rw [w]; exact ⟨rfl, rfl⟩) (by rw [w]; exact ⟨rfl, rfl⟩) fun _ _ => rfl
    exact ⟨by rw [w, dueLo]; exact (h.reported q).lo, by rw [w, dueHi]; exact (h.reported q).hi,
      by rw [w, dueQuality]; exact (h.reported q).quality⟩

/-- A point's record written, its reported fields kept, and the point reconciled. -/
theorem State.PointsAgree.rewritten (h : s.PointsAgree) (p : PointNo) (r : PointRecord)
    (lo : r.reportedLo = (s.point p).reportedLo := by rfl) (hi : r.reportedHi = (s.point p).reportedHi := by rfl)
    (quality : r.reportedQuality = (s.point p).reportedQuality := by rfl) :
    ((s.setPoint p r).reconcile p).PointsAgree := by
  obtain ⟨marks, sound⟩ := State.pointsAgree_iff.mp h
  obtain ⟨listed, reported⟩ := sound.setPoint p r lo hi quality
  refine State.pointsAgree_iff.mpr ⟨?_, .reconciled [p] listed fun q => ?_⟩
  · exact marks.congr (by rw [State.reconcile_offMarks]; rfl) ((Touches.reconcile p (s.setPoint p r)).offs)
  · by_cases e : q = p
    · exact .inl (by simp [e])
    · exact .inr (reported q e)

/-- A point's record written in fields that its conditions are not due by. -/
theorem State.PointsAgree.annotated (h : s.PointsAgree) (p : PointNo) (r : PointRecord)
    (lo : r.reportedLo = (s.point p).reportedLo := by rfl) (hi : r.reportedHi = (s.point p).reportedHi := by rfl)
    (quality : r.reportedQuality = (s.point p).reportedQuality := by rfl)
    (record : r.band = (s.point p).band ∧ r.quality = (s.point p).quality := by exact ⟨rfl, rfl⟩)
    (config : r.config.associated = (s.point p).config.associated
      ∧ r.config.qualityAlarm = (s.point p).config.qualityAlarm := by exact ⟨rfl, rfl⟩) :
    (s.setPoint p r).PointsAgree := by
  obtain ⟨marks, sound⟩ := State.pointsAgree_iff.mp h
  obtain ⟨listed, reported⟩ := sound.setPoint p r lo hi quality
  refine State.pointsAgree_iff.mpr ⟨marks, listed, fun q => ?_⟩
  by_cases e : q = p
  · subst e
    have w : (s.setPoint q r).ptb.points.get q = r := Tbl.get_put_self ..
    obtain ⟨dueLo, dueHi, dueQuality⟩ := PointTable.due_congr (t := s.ptb) (u := (s.setPoint q r).ptb) (p := q)
      (by rw [w]; exact record) (by rw [w]; exact config) fun _ _ => rfl
    exact ⟨by rw [w, dueLo, lo]; exact (sound.reported q).lo, by rw [w, dueHi, hi]; exact (sound.reported q).hi,
      by rw [w, dueQuality, quality]; exact (sound.reported q).quality⟩
  · exact reported q e

theorem PointTable.mem_associatedWith {t : PointTable} {c : Chan} {p : PointNo} :
    p ∈ t.associatedWith c ↔ (t.points.get p).config.associated = some c := by
  simp [PointTable.associatedWith]

theorem State.offNotice_offMarks (c : Chan) (b : Bool) (s : State) :
    (s.offNotice c b).ptb.offMarks = s.ptb.offMarks.put c b :=
  foldl_keeps (fun s => s.ptb.offMarks) (fun s p => State.reconcile_offMarks p s) _ _

theorem State.PointsSound.offNotice (h : s.PointsSound) (c : Chan) (b : Bool) : (s.offNotice c b).PointsSound := by
  refine State.PointsSound.reconciled _ (fun q => ⟨(h.listed q).lo, (h.listed q).hi, (h.listed q).quality⟩) fun q => ?_
  by_cases own : (s.ptb.points.get q).config.associated = some c
  · exact .inl (PointTable.mem_associatedWith.mpr own)
  · obtain ⟨lo, hi, quality⟩ := PointTable.due_congr (t := s.ptb) (p := q)
      (u := { s.ptb with offMarks := s.ptb.offMarks.put c b }) ⟨rfl, rfl⟩ ⟨rfl, rfl⟩ fun d associated =>
        Tbl.get_put_ne (by rintro rfl; exact own associated) ..
    have stands := h.reported q
    exact .inr ⟨stands.lo.trans lo.symm, stands.hi.trans hi.symm, stands.quality.trans quality.symm⟩

/-- A notice that carries the channel's own state restores the view. -/
theorem State.Marked.offNotice {c : Chan} {b : Bool} (others : ∀ d, d ≠ c → (s.ptb.offMarks.get d = true ↔
    (s.chan d).state = .off)) (own : b = true ↔ (s.chan c).state = .off) : (s.offNotice c b).Marked := fun d => by
  rw [State.offNotice_offMarks, (Touches.offNotice c b s).offs, Tbl.get_put]
  split
  next e => subst e; exact own
  next ne => exact others d ne

/-- A channel's record written, then the notice of its state. -/
theorem State.PointsAgree.noticed (h : s.PointsAgree) (c : Chan) (b : Bool) (points : t.ptb = s.ptb)
    (alarms : t.alt = s.alt) (others : ∀ d, d ≠ c → (t.chan d).state = (s.chan d).state)
    (own : b = true ↔ (t.chan c).state = .off) : (t.offNotice c b).PointsAgree := by
  obtain ⟨marks, sound⟩ := State.pointsAgree_iff.mp h
  refine State.pointsAgree_iff.mpr ⟨.offNotice (fun d ne => ?_) own, (sound.congr points fun _ _ => by rw [alarms]).offNotice c b⟩
  rw [points, others d ne]
  exact marks d

theorem State.PointsAgree.enterOff (h : s.PointsAgree) (c : Chan) : (s.enterOff c).PointsAgree :=
  h.noticed c true rfl rfl (fun d ne => by rw [State.setChan_chan_ne ne]) (by rw [State.setChan_chan_self]; simp)

theorem State.PointsAgree.startChannel (h : s.PointsAgree) (c : Chan) : (s.startChannel c).PointsAgree :=
  h.noticed c false rfl rfl (fun d ne => by rw [State.drive_chan, State.setChan_chan_ne ne])
    (by rw [State.drive_chan, State.setChan_chan_self]; simp)

theorem foldl_offNotice_offMarks (l : List Chan) (s : State) (d : Chan) :
    (l.foldl (fun s c => s.offNotice c false) s).ptb.offMarks.get d
      = if d ∈ l then false else s.ptb.offMarks.get d := by
  induction l generalizing s with
  | nil => rfl
  | cons c l ih =>
    rw [List.foldl_cons, ih, State.offNotice_offMarks, Tbl.get_put]
    by_cases e : d = c <;> by_cases m : d ∈ l <;> simp [e, m]

theorem State.PointsAgree.tripEvery (h : s.PointsAgree) (x : TripCause) : (s.tripEvery x).PointsAgree := by
  obtain ⟨marks, sound⟩ := State.pointsAgree_iff.mp h
  have kept : ∀ l : List Chan, (l.foldl (fun s c => if (s.chan c).state = .tripped then s else s.tripTaken c x) s).ptb
      = s.ptb ∧ (l.foldl (fun s c => if (s.chan c).state = .tripped then s else s.tripTaken c x) s).alt = s.alt :=
    fun l => ⟨foldl_keeps State.ptb (fun s c => by split <;> rfl) l s,
      foldl_keeps State.alt (fun s c => by split <;> rfl) l s⟩
  refine State.pointsAgree_iff.mpr ⟨fun d => ?_, ?_⟩
  · rw [tripEvery_tripped]
    unfold State.tripEvery
    rw [foldl_offNotice_offMarks, (kept _).1]
    split
    next => simp
    next out => simpa [marks d] using out
  · exact foldl_holds (P := State.PointsSound) (fun s c hs => hs.offNotice c false) _
      (sound.congr (kept _).1 fun _ _ => by rw [(kept _).2])

theorem State.PointsAgree.tripLineTaken (h : s.PointsAgree) : s.tripLineTaken.PointsAgree :=
  (h.tripEvery .tripLine).of_touches (Touches.comesFixed _ _)

/-! ### The commands -/

/-- Fresh or restarted blocks: nothing reported, nothing listed, every channel off. -/
theorem State.PointsAgree.reconcileAll (listed : ∀ p, s.Listed p) (marks : s.Marked) : s.reconcileAll.PointsAgree :=
  State.pointsAgree_iff.mpr ⟨marks.congr (foldl_keeps (fun s => s.ptb.offMarks) (fun s p => State.reconcile_offMarks p s) _ _)
      ((Touches.reconcileAll s).offs),
    .reconciled _ listed fun q => .inl (List.mem_finRange q)⟩

theorem pointsAgree_start (x : ResetCause) (s : State) : (s.start x).PointsAgree := by
  have absent (p : PointNo) (k : PointCond) : (s.fresh x).alt.isPresent (.point p k) = false := by
    simp [AlarmTable.isPresent, AlarmTable.condition, State.fresh, AlarmTable.start]
  unfold State.start
  refine (State.PointsAgree.reconcileAll (fun p => ?_) fun c => ?_).of_touches (Touches.reconcileStore _)
  · refine ⟨?_, ?_, ?_⟩ <;> rw [absent] <;> simp [State.point, State.fresh, PointTable.start]
  · simp [State.fresh, PointTable.start, State.chan, ChannelController.start, ChannelRecord.start]

theorem pointsAgree_warmRestart (s : State) : s.warmRestart.PointsAgree := by
  have absent (p : PointNo) (k : PointCond) :
      (s.blocksWarm.reportNotice s.sht.reportDue).alt.isPresent (.point p k) = false := by
    simp [AlarmTable.isPresent, AlarmTable.condition, State.blocksWarm, AlarmTable.warm, State.reportNotice,
      State.settle, AlarmTable.settled]
  have point (p : PointNo) : (s.blocksWarm.reportNotice s.sht.reportDue).point p = { s.point p with
      reportedLo := none, reportedHi := none, reportedQuality := false } := Tbl.get_map ..
  unfold State.warmRestart
  simp only
  refine (State.PointsAgree.of_touches ?_ (Touches.resendStore _)).of_touches (Touches.resendLocked _)
  have reconciled : (s.blocksWarm.reportNotice s.sht.reportDue).reconcileAll.PointsAgree := by
    refine State.PointsAgree.reconcileAll (fun p => ?_) fun c => ?_
    · refine ⟨?_, ?_, ?_⟩ <;> rw [absent, point] <;> rfl
    · have off : ((s.blocksWarm.reportNotice s.sht.reportDue).chan c).state = .off := by
        have warm : (s.blocksWarm.reportNotice s.sht.reportDue).chan c = (s.chan c).warm := Tbl.get_map ..
        rw [warm]; rfl
      rw [off]
      simp [State.reportNotice, State.settle, State.blocksWarm, PointTable.warm]
  have overdrawn := reconciled.of_touches (Touches.resendOverdrawn _)
  unfold State.resendTripLine
  split
  · exact overdrawn.tripLineTaken
  · exact overdrawn

theorem pointsAgree_stopChannel (h : s.PointsAgree) {c : Chan} (on : (s.chan c).state ≠ .off) :
    (s.stopChannel c).PointsAgree := by
  unfold State.stopChannel
  split
  · exact (h.of_touches (Touches.drive c 0 s)).enterOff c
  · split
    · exact h.enterOff c
    · exact h.of_touches (Touches.setChan (l := [.runs]) c _ s (offs := .inr (by simp [on])))

theorem pointsAgree_owner (k : Kind) (p : Port) (f : List Byte) (h : s.PointsAgree) :
    (ownerOf k p f s).state.PointsAgree := by
  have untouched (points : .points ∉ touchedBy k) (alarms : .pointAlarms ∉ touchedBy k) (offs : .offs ∉ touchedBy k) :
      (ownerOf k p f s).state.PointsAgree := h.of_touches (Touches.owner k p f s) points alarms offs
  cases k with
  | startChannel =>
    refine withChan_state (P := State.PointsAgree) h fun c => ?_
    split
    · exact h
    · exact h.startChannel c
  | stopChannel =>
    refine withChan_state (P := State.PointsAgree) h fun c => ?_
    split
    any_goals exact h
    all_goals exact pointsAgree_stopChannel h (by simp [*])
  | emergencyStop =>
    show (ownerEmergencyStop p f s).state.PointsAgree
    exact h.tripEvery .emergencyStop
  | clearTrip =>
    refine withChan_state (P := State.PointsAgree) h fun c => ?_
    split
    · exact h
    · exact h.enterOff c
  | pointUpdate =>
    show (ownerPointUpdate p f s).state.PointsAgree
    unfold ownerPointUpdate
    split
    · exact h
    · exact foldl_holds (P := State.PointsAgree) (fun s e hs => hs.rewritten e.point _) _ h
  | setLimits =>
    show (ownerSetLimits p f s).state.PointsAgree
    unfold ownerSetLimits
    split
    · exact h
    next n _ =>
      have written (l : LimitSet) : (s.writeLimits n l).PointsAgree := by
        unfold State.writeLimits
        simp only
        split
        · exact (h.rewritten n _).of_touches (Touches.startOpenTimer _)
        · exact h.rewritten n _
      simp only
      repeat' split
      any_goals exact h
      exact written _
  | setPointConfig =>
    show (ownerSetPointConfig p f s).state.PointsAgree
    unfold ownerSetPointConfig
    split
    · exact h
    · split
      · exact h
      · exact h.rewritten _ _
  | setProtectMark =>
    have marked (n : PointNo) (b : Bool) : (s.writeProtect n b).PointsAgree := h.annotated n _
    show (ownerSetProtectMark p f s).state.PointsAgree
    unfold ownerSetProtectMark
    repeat' split
    any_goals exact h
    · exact marked _ _
    · exact (marked _ _).of_touches (Touches.startOpenTimer _)
  | warmRestart =>
    show (ownerWarmRestart p f s).state.PointsAgree
    simp only [ownerWarmRestart, taken]
    exact pointsAgree_warmRestart s
  | _ => exact untouched (of_decide_eq_true rfl) (of_decide_eq_true rfl) (of_decide_eq_true rfl)

theorem pointsAgree_age (h : s.PointsAgree) : s.age.PointsAgree := by
  have aged (p : PointNo) : s.ptb.aged.points.get p = (s.ptb.points.get p).aged := Tbl.get_map ..
  obtain ⟨marks, sound⟩ := State.pointsAgree_iff.mp h
  have older : ({ s with ptb := s.ptb.aged } : State).PointsAgree := by
    refine State.pointsAgree_iff.mpr ⟨marks, fun p => ?_, fun p => ?_⟩
    · have stands := sound.listed p
      have w : ({ s with ptb := s.ptb.aged } : State).point p = (s.point p).aged := aged p
      exact ⟨by rw [w]; exact stands.lo, by rw [w]; exact stands.hi, by rw [w]; exact stands.quality⟩
    · obtain ⟨lo, hi, quality⟩ := PointTable.due_congr (t := s.ptb) (u := s.ptb.aged) (p := p)
        (by rw [aged]; exact ⟨rfl, rfl⟩) (by rw [aged]; exact ⟨rfl, rfl⟩) fun _ _ => rfl
      exact ⟨by rw [aged, lo]; exact (sound.reported p).lo, by rw [aged, hi]; exact (sound.reported p).hi,
        by rw [aged, quality]; exact (sound.reported p).quality⟩
  exact foldl_holds (P := State.PointsAgree) (fun s p hs => by
    unfold State.staleCheck
    split
    · exact hs.rewritten p _
    · exact hs) _ older

theorem pointsAgree_startUpEnds (h : s.PointsAgree) : s.startUpEnds.PointsAgree := by
  unfold State.startUpEnds
  simp only
  have began : (State.setSupervision { s.chc.supervision with
      link := .live, supervisionTimer := some (s.timer s.chc.supervision.supervisionTime), holdTimer := none }
      { s with phase := .running }).PointsAgree := h.of_touches (l := [.phase, .link]) .of
  split
  · exact began.tripLineTaken
  · exact began

theorem pointsAgree_firingPeriod (h : s.PointsAgree) : s.firingPeriod.PointsAgree := by
  rw [State.firingPeriod_eq]
  have handed : s.periodHanded.PointsAgree := by
    rw [State.periodHanded_alone]
    exact h.of_touches (l := [.flows, .feeders]) .of
  have ended := foldl_holds (P := State.PointsAgree) (f := fun s c => s.stopEnds c) (fun s c hs => by
    unfold State.stopEnds
    split
    · exact hs.enterOff c
    · exact hs) allChans handed
  exact ((ended.of_touches (Touches.deficitMain _)).of_touches (Touches.deficitCalc _)).of_touches (Touches.clLimited _)

theorem pointsAgree_event (e : Event) (h : s.PointsAgree) : (e.run s).PointsAgree := by
  have untouched (points : .points ∉ e.touched) (alarms : .pointAlarms ∉ e.touched) (offs : .offs ∉ e.touched) :
      (e.run s).PointsAgree := h.of_touches (Touches.event e s) points alarms offs
  cases e with
  | start x => exact pointsAgree_start x s
  | startUpEnds => exact pointsAgree_startUpEnds h
  | age =>
    show s.age.PointsAgree
    exact pointsAgree_age h
  | lineAsserted =>
    show (State.whileRunning State.tripLineTaken { s with tripLine := true }).PointsAgree
    have marked : ({ s with tripLine := true } : State).PointsAgree := h.of_touches (l := [.line]) .of
    unfold State.whileRunning
    split
    · exact marked.tripLineTaken
    · exact marked
  | firingPeriod =>
    show s.firingPeriod.PointsAgree
    exact pointsAgree_firingPeriod h
  | _ => exact untouched (of_decide_eq_true rfl) (of_decide_eq_true rfl) (of_decide_eq_true rfl)

end points

theorem kept_pointsAgree : Kept State.PointsAgree where
  ports s t same h := by rw [same]; exact ⟨h.marks, h.lo, h.hi, h.quality, h.loList, h.hiList, h.qualityList⟩
  owner k p f s _ h := pointsAgree_owner k p f h
  event e s _ h := pointsAgree_event e h

/-- Settles O55: a reconciliation brings the reported fields and the condition list to what is due, and every
operation that writes a point, a mark or a channel's entry into or out of CH_OFF reconciles the points it concerns. -/
theorem pointsStayReported : Obligations.PointsStayReported := fun _ _ h stepped => kept_pointsAgree.step h stepped

end Sys2Proof.Machine
end

section
/-!
Proofs. How the blocks reach the alarm table: by reports alone.  A condition on the table that every report keeps is
kept by every operation but the alarm requests, the shift reports and the starts.
-/
set_option Elab.async false

namespace Sys2Proof.Machine

/-- The alarm table, the channels' alarm holds and the held report stand. -/
structure Quiet (s t : State) : Prop where
  alarms : t.alt = s.alt
  holds  : ∀ c, (t.chan c).alarmHolds = (s.chan c).alarmHolds ∧ (t.chan c).holds.alarm = (s.chan c).holds.alarm
  held   : t.sht.held = s.sht.held

/-- The second state comes from the first by reports to the alarm table and by changes outside of it. -/
inductive Reporting : State → State → Prop
  | quiet {s t : State} (h : Quiet s t) : Reporting s t
  | comes (id : Identity) (l : Option Level) (p : Priority) (s : State) (ordinary : id ≠ .system .tableFull) :
      Reporting s (s.comes id l p)
  | levelChanges (id : Identity) (l : Option Level) (p : Priority) (s : State) (ordinary : id ≠ .system .tableFull) :
      Reporting s (s.levelChanges id l p)
  | goes (id : Identity) (s : State) (ordinary : id ≠ .system .tableFull) : Reporting s (s.goes id)
  | trans {s t u : State} (a : Reporting s t) (b : Reporting t u) : Reporting s u

theorem Quiet.of {l : List Aspect} {s t : State} (h : Touches l s t)
    (alarms : .alarms ∉ l := by exact of_decide_eq_true rfl)
    (holds : .alarmHolds ∉ l := by exact of_decide_eq_true rfl)
    (held : .tallies ∉ l := by exact of_decide_eq_true rfl) : Quiet s t :=
  ⟨h.alarms alarms, h.alarmHolds holds, (h.tallies held).1⟩

theorem Quiet.tripTaken (c : Chan) (x : TripCause) (s : State) : Quiet s (s.tripTaken c x) :=
  ⟨rfl, fun d => by
    rw [State.tripTaken_chan]
    split
    next e => subst e; exact ⟨rfl, rfl⟩
    next => exact ⟨rfl, rfl⟩, rfl⟩

theorem ShiftUnit.takeDebit_held (c : Chan) (l : Location) (x : FuelClass) (p : Part) (u : ShiftUnit) :
    (u.takeDebit c l x p).held = u.held := by
  unfold ShiftUnit.takeDebit ShiftUnit.contribute
  simp only
  split
  · rfl
  · split <;> rfl

theorem Quiet.takePart (c : Chan) (x : FuelClass) (p : Part) (s : State) : Quiet s (s.takePart c x p) :=
  ⟨(Touches.takePart c x p s).alarms, (Touches.takePart c x p s).alarmHolds, ShiftUnit.takeDebit_held ..⟩

/-- The events that write the alarm table by other means. -/
def Event.rewrites : Event → Bool
  | .halt _ | .start _ | .shelvingTick | .shelfEnds _ | .shiftSecond => true
  | .refresh | .startUpEnds | .saveCompletes _ | .age | .startExpires _ | .lineAsserted | .lineDeasserted
  | .supervisionExpires | .holdExpires | .firingPeriod | .windowBoundary _ | .pulse _ | .stallExpires _
  | .trimInterval _ | .coolerPeriod | .flushExpires | .closeAccess => false

namespace Reporting

variable {s t : State} {p : Port} {f : List Byte}

theorem refl (s : State) : Reporting s s := quiet (.of (.refl [] s))

/-- An operation that touches neither the alarm table nor what stands with it. -/
theorem of {l : List Aspect} (h : Touches l s t) (alarms : .alarms ∉ l := by exact of_decide_eq_true rfl)
    (holds : .alarmHolds ∉ l := by exact of_decide_eq_true rfl)
    (held : .tallies ∉ l := by exact of_decide_eq_true rfl) : Reporting s t := quiet (.of h alarms holds held)

theorem foldl {α : Type} {f : State → α → State} (h : ∀ s a, Reporting s (f s a)) (l : List α) (s : State) :
    Reporting s (l.foldl f s) := by
  induction l generalizing s with
  | nil => exact refl s
  | cons a l ih => exact (h s a).trans (ih _)

theorem comesFixed (id : Identity) (s : State) (ordinary : id ≠ .system .tableFull := by exact nofun) :
    Reporting s (s.comesFixed id) := comes id _ _ s ordinary

/-! ### Trips, points -/

theorem trip (c : Chan) (x : TripCause) (s : State) : Reporting s (s.trip c x) := by
  unfold State.trip
  split
  · exact refl s
  · exact refl s
  all_goals exact quiet (.tripTaken c x s)

theorem report (r : Report) (s : State) (ordinary : r.identity ≠ .system .tableFull) : Reporting s (s.report r) := by
  cases r with
  | comes id l x => exact comes id l x s ordinary
  | goes id => exact goes id s ordinary
  | level id l x => exact levelChanges id l x s ordinary

end Reporting

/-- The reports of a point are on its own conditions. -/
theorem PointTable.reports_identity (t : PointTable) (p : PointNo) :
    ∀ r ∈ t.reports p, ∃ k, r.identity = .point p k := by
  have goes (k : PointCond) (a b : Option Level) : ∀ r ∈ goesPart (.point p k) a b, ∃ k, r.identity = .point p k := by
    unfold goesPart
    split <;> simp [Report.identity]
  have level (k : PointCond) (f : Level → Priority) (a b : Option Level) :
      ∀ r ∈ levelPart (.point p k) f a b, ∃ k, r.identity = .point p k := by
    unfold levelPart
    split
    · split <;> simp [Report.identity]
    · simp
  have comes (k : PointCond) (f : Level → Priority) (a b : Option Level) :
      ∀ r ∈ comesPart (.point p k) f a b, ∃ k, r.identity = .point p k := by
    unfold comesPart
    split <;> simp [Report.identity]
  have single (c : Prop) [Decidable c] (r : Report) (h : ∃ k, r.identity = .point p k) :
      ∀ x ∈ (if c then [r] else []), ∃ k, x.identity = .point p k := by
    split
    · simpa using h
    · simp
  unfold PointTable.reports
  simp only [List.mem_append]
  rintro r (((((((h | h) | h) | h) | h) | h) | h) | h)
  · exact goes _ _ _ r h
  · exact goes _ _ _ r h
  · exact single _ _ ⟨_, rfl⟩ r h
  · exact level _ _ _ _ r h
  · exact level _ _ _ _ r h
  · exact comes _ _ _ _ r h
  · exact comes _ _ _ _ r h
  · exact single _ _ ⟨_, rfl⟩ r h

namespace Reporting

variable {s t : State} {p : Port} {f : List Byte}

theorem reports (rs : List Report) (s : State) (ordinary : ∀ r ∈ rs, r.identity ≠ .system .tableFull) :
    Reporting s (s.reports rs) := by
  induction rs generalizing s with
  | nil => exact refl s
  | cons r rs ih =>
    exact (report r s (ordinary r (by simp))).trans (ih _ fun x hx => ordinary x (by simp [hx]))

theorem reconcile (n : PointNo) (s : State) : Reporting s (s.reconcile n) :=
  (of (.setPoint n _ s)).trans (reports _ _ fun r hr => by
    obtain ⟨k, e⟩ := s.ptb.reports_identity n r hr
    rw [e]
    exact nofun)

theorem offNotice (c : Chan) (b : Bool) (s : State) : Reporting s (s.offNotice c b) := by
  have mark : Quiet s { s with ptb := { s.ptb with offMarks := s.ptb.offMarks.put c b } } := ⟨rfl, fun _ => ⟨rfl, rfl⟩, rfl⟩
  exact (quiet mark).trans (foldl (fun s n => reconcile n s) _ _)

theorem enterOff (c : Chan) (s : State) : Reporting s (s.enterOff c) :=
  trans (of (.setChan (l := [.runs, .offs]) c _ s)) (offNotice c true _)

theorem tripEvery (x : TripCause) (s : State) : Reporting s (s.tripEvery x) := by
  unfold State.tripEvery
  refine trans (t := allChans.foldl
    (fun s c => if (s.chan c).state = .tripped then s else s.tripTaken c x) s) ?_ ?_
  · refine foldl (fun s c => ?_) _ s
    split
    · exact refl s
    · exact quiet (.tripTaken c x s)
  · exact foldl (fun s c => offNotice c false s) _ _

theorem tripLineTaken (s : State) : Reporting s s.tripLineTaken :=
  (tripEvery .tripLine s).trans (comesFixed (.system .tripIn) _)

/-! ### Lots, masses -/

theorem setOverdrawn (c : Chan) (b : Bool) (s : State) : Reporting s (s.setOverdrawn c b) := by
  have mark : Quiet s { s with lrg := { s.lrg with overdrawn := s.lrg.overdrawn.put c b } } := ⟨rfl, fun _ => ⟨rfl, rfl⟩, rfl⟩
  unfold State.setOverdrawn
  simp only
  split
  · exact refl s
  · split
    · exact (quiet mark).trans (comesFixed (.channel c .overdrawn) _)
    · exact (quiet mark).trans (goes (.channel c .overdrawn) _ nofun)

theorem evaluateOverdrawn (c : Chan) (s : State) : Reporting s (s.evaluateOverdrawn c) := by
  rcases State.evaluateOverdrawn_cases c s with h | h <;> rw [h]
  · exact refl s
  · exact setOverdrawn ..

theorem succession (c : Chan) (x : LotState) (s : State) : Reporting s (s.succession c x) := by
  unfold State.succession
  split
  · exact refl s
  · exact (of ((Touches.setLotState ..).trans (Touches.setQueue ..))).trans (evaluateOverdrawn ..)
  · exact (of (((Touches.setLotState ..).trans (Touches.setLotState ..)).trans (Touches.setQueue ..))).trans
      (evaluateOverdrawn ..)

theorem lotRejected (c : Chan) (s : State) : Reporting s (s.lotRejected c) :=
  ((trip ..).trans (comesFixed (.channel c .lotRejected) _)).trans (goes (.channel c .lotRejected) _ nofun)

theorem quarantine (i : LotNo) (s : State) : Reporting s (s.quarantine i) := by
  unfold State.quarantine
  split
  · split
    · simp only
      split
      · exact succession ..
      · exact (succession ..).trans (lotRejected ..)
    · exact of (.leaveQueue ..)
  · exact of (.setLotState ..)

theorem charge (c : Chan) (q : List LotNo) (k : Nat) (s : State) : Reporting s (State.charge c q k s).2 := by
  induction q generalizing k s with
  | nil => exact setOverdrawn ..
  | cons h rest ih =>
    unfold State.charge
    split
    · exact setOverdrawn ..
    · split
      · exact of (.setLot ..)
      · simp only
        split
        · exact (of (.setLot ..)).trans (setOverdrawn ..)
        · exact ((of (.setLot ..)).trans (succession ..)).trans (ih _ _)

theorem analyse (i : LotNo) (r : LotRecord) (a : Analysis) (s : State) : Reporting s (s.analyse i r a) := by
  have written : Reporting s (s.setLot i (r.analysed a)) := of (.setLot ..)
  unfold State.analyse
  simp only
  split
  · exact written
  · split
    · exact written.trans (quarantine ..)
    · exact written

theorem amend (i : LotNo) (r : LotRecord) (n : Nat) (s : State) : Reporting s (s.amend i r n) := by
  have written : Reporting s (s.setLot i { r with remaining := n }) := of (.setLot ..)
  unfold State.amend
  simp only
  repeat' split
  · exact written.trans (setOverdrawn ..)
  · exact written.trans (succession ..)
  · exact written
  · exact written

theorem newHead (c : Chan) (i : LotNo) (s : State) : Reporting s (s.newHead c i) :=
  (of ((Touches.setLotState ..).trans (Touches.setQueue ..))).trans (evaluateOverdrawn ..)

theorem enqueue (c : Chan) (i : LotNo) (s : State) : Reporting s (s.enqueue c i) := by
  unfold State.enqueue
  repeat' split
  · exact newHead ..
  · exact (of (.setLotState ..)).trans (newHead ..)
  · exact of ((Touches.setLotState ..).trans (Touches.setQueue ..))
  · exact of ((Touches.setLotState ..).trans (Touches.setQueue ..))

theorem feed (c : Chan) (k : Nat) (s : State) : Reporting s (s.feed c k) := by
  unfold State.feed
  simp only
  refine trans ?_ (foldl (fun s x => quiet (.takePart c _ x s)) _ _)
  refine trans ?_ (charge ..)
  exact (of (.setChan (l := [.masses]) c _ s)).trans (of (.setFeeder ..))

theorem pulse (c : Chan) (s : State) : Reporting s (s.pulse c) := by
  have counted : Reporting s (s.setFeeder c ((s.feeder c).pulsed (s.timer (s.feeder c).stallTime))) := of (.setFeeder ..)
  unfold State.pulse
  simp only
  split
  · exact counted
  · unfold State.weigh
    simp only
    split
    · exact counted.trans (of (.setFeeder ..))
    · exact (counted.trans (of (.setFeeder ..))).trans (feed ..)

theorem stallExpires (c : Chan) (s : State) : Reporting s (s.stallExpires c) := by
  have stopped : Reporting s (s.setFeeder c { s.feeder c with stallWindow := none }) := of (.setFeeder ..)
  unfold State.stallExpires State.stalls
  split
  · simp only
    split
    · exact ((stopped.trans (trip ..)).trans (comesFixed (.channel c .stall) _)).trans (goes (.channel c .stall) _ nofun)
    · exact stopped
  · exact refl s

/-! ### The control link, the store, a restart -/

theorem endLoss (s : State) : Reporting s s.endLoss := by
  unfold State.endLoss
  simp only
  refine trans ?_ (foldl (fun s c => of (.resume c s)) allChans _)
  refine trans ?_ (goes (.system .controlLost) _ nofun)
  refine trans ?_ (foldl (fun s c => of (.clearLoss c s)) allChans _)
  exact of (.setSupervision _ s)

theorem refresh (s : State) : Reporting s s.refresh := by
  unfold State.refresh
  split
  · exact of (.setSupervision _ s)
  all_goals exact endLoss s

theorem lossHeld (s : State) : Reporting s s.lossHeld := by
  unfold State.lossHeld
  refine trans ?_ (foldl (fun s c => of (.holdForLoss c s)) _ _)
  refine trans ?_ (of (.closeAccess _))
  refine trans ?_ (comesFixed (.system .controlLost) _)
  exact of (.setSupervision _ s)

theorem linkLost (s : State) : Reporting s s.linkLost := by
  rw [State.linkLost_eq]
  split
  · exact (lossHeld s).trans (of (.holdRunsOut _))
  · exact (lossHeld s).trans (of (.setHoldTimer _ _))

theorem reconcileStore (s : State) : Reporting s s.reconcileStore := by
  have field : Touches [.store] s { s with sst := { s.sst with reportedFault := !s.sst.imageValid } } := .of
  unfold State.reconcileStore
  simp only
  split
  · exact refl s
  · split
    · exact (of field).trans (goes (.system .storeFault) _ nofun)
    · exact (of field).trans (comesFixed (.system .storeFault) _)

theorem reconcileAll (s : State) : Reporting s s.reconcileAll := foldl (fun s n => reconcile n s) _ s

theorem resendOverdrawn (s : State) : Reporting s s.resendOverdrawn :=
  foldl (fun s c => by
    split
    · exact comesFixed (.channel c .overdrawn) _
    · exact refl s) _ s

theorem resendTripLine (s : State) : Reporting s s.resendTripLine := by
  unfold State.resendTripLine
  split
  · exact tripLineTaken s
  · exact refl s

theorem resendStore (s : State) : Reporting s s.resendStore := by
  have field : Touches [.store] s { s with sst := { s.sst with reportedFault := false } } := .of
  exact (of field).trans (reconcileStore _)

theorem resendLocked (s : State) : Reporting s s.resendLocked := by
  unfold State.resendLocked
  split
  · exact (of (.setAccess _ s)).trans (comesFixed (.system .accessLocked) _)
  · exact refl s

/-- What a warm restart re-sends, over the restarted blocks with their report notice. -/
theorem warmResent (s : State) : Reporting (s.blocksWarm.reportNotice s.sht.reportDue) s.warmRestart :=
  (((reconcileAll _).trans (resendOverdrawn _)).trans (resendTripLine _)).trans
    ((resendStore _).trans (resendLocked _))

theorem started (x : ResetCause) (s : State) : Reporting (s.fresh x) (s.start x) :=
  (reconcileAll _).trans (reconcileStore _)

/-! ### The cooler, the firing computation -/

theorem heldReport (s : State) : Reporting s s.heldReport := by
  have field : Reporting s (s.setCooler { s.clc with reportedHeld := s.clc.mode == .held }) := of (.setCooler _ s)
  unfold State.heldReport
  simp only
  split
  · exact refl s
  · split
    · exact field.trans (comesFixed (.cooler .held) _)
    · exact field.trans (goes (.cooler .held) _ nofun)

theorem flushReport (s : State) : Reporting s s.flushReport := by
  have field : Reporting s (s.setCooler { s.clc with reportedFlush := s.clc.flushTimer.isSome }) := of (.setCooler _ s)
  unfold State.flushReport
  simp only
  split
  · exact refl s
  · split
    · exact field.trans (comesFixed (.cooler .flush) _)
    · exact field.trans (goes (.cooler .flush) _ nofun)

theorem airShortReport (s : State) : Reporting s s.airShortReport := by
  have field : Reporting s (s.setCooler { s.clc with reportedAirShort := s.clc.airShortDue }) := of (.setCooler _ s)
  unfold State.airShortReport
  simp only
  split
  · exact refl s
  · split
    · exact field.trans (comesFixed (.cooler .airShort) _)
    · exact field.trans (goes (.cooler .airShort) _ nofun)

theorem enterManual (s : State) : Reporting s s.enterManual := by
  unfold State.enterManual
  refine trans (trans ?_ (airShortReport _)) (heldReport _)
  exact of (.setCooler _ s (compartments := fun n => by simp))

theorem coolerPeriod (s : State) : Reporting s s.coolerPeriod := by
  have ran : Quiet s (s.setCooler (s.clc.period s.pressuresRead s.coolerReadings (s.timer s.clc.config.flushTime))) :=
    ⟨rfl, fun _ => ⟨rfl, rfl⟩, rfl⟩
  unfold State.coolerPeriod
  simp only
  refine trans (trans (trans ?_ (heldReport _)) (flushReport _)) (airShortReport _)
  split
  · exact (quiet ran).trans (of (.flushEntry _))
  · exact quiet ran

theorem flushExpires (s : State) : Reporting s s.flushExpires := by
  unfold State.flushExpires State.flushRunsOut
  split
  · simp only
    exact ((of (.setCooler _ s)).trans (of (.flushEnd _))).trans (flushReport _)
  · exact refl s

theorem setFiring (x : Firing) (s : State) : Reporting s { s with fsc := x } := quiet ⟨rfl, fun _ => ⟨rfl, rfl⟩, rfl⟩

theorem deficitMain (s : State) : Reporting s s.deficitMain := by
  unfold State.deficitMain
  simp only
  repeat' split
  · exact (setFiring ..).trans (comesFixed (.firing .heatDeficitMain) _)
  · exact (setFiring ..).trans (goes (.firing .heatDeficitMain) _ nofun)
  · exact setFiring ..

theorem deficitCalc (s : State) : Reporting s s.deficitCalc := by
  unfold State.deficitCalc
  simp only
  repeat' split
  · exact (setFiring ..).trans (comesFixed (.firing .heatDeficitCalc) _)
  · exact (setFiring ..).trans (goes (.firing .heatDeficitCalc) _ nofun)
  · exact setFiring ..

theorem clLimited (s : State) : Reporting s s.clLimited := by
  unfold State.clLimited
  simp only
  repeat' split
  · exact setFiring ..
  · exact (setFiring ..).trans (comesFixed (.firing .clLimited) _)
  · exact (setFiring ..).trans (goes (.firing .clLimited) _ nofun)
  · exact setFiring ..
  · exact setFiring ..

theorem stopEnds (c : Chan) (s : State) : Reporting s (s.stopEnds c) := by
  unfold State.stopEnds
  split
  · exact enterOff c s
  · exact refl s

theorem firingPeriod (s : State) : Reporting s s.firingPeriod := by
  rw [State.firingPeriod_eq]
  refine trans (trans (trans ?_ (deficitMain _)) (deficitCalc _)) (clLimited _)
  refine trans ?_ (foldl (fun s c => stopEnds c s) _ _)
  exact (of (.takeStages s)).trans (foldl (fun s c => of (.handPeriod c _ s)) _ _)

/-! ### Owners -/

/-- The kinds whose owners write the alarm table by other means. -/
abbrev tableKinds : List Kind := [.ackAlarm, .ackAll, .shelve, .unshelve, .silence, .collectAlarms, .setTripEntry,
  .shiftClose, .releaseShift, .correctShift, .readShift, .warmRestart]

theorem ownerAccessOpen : Reporting s (ownerAccessOpen p f s).state := by
  unfold Machine.ownerAccessOpen
  split
  · exact refl s
  · split
    · exact of ((Touches.setAccess _ s).trans (Touches.startOpenTimer _))
    · split
      · exact of (.setAccess _ s)
      · unfold State.lockOut
        exact (of ((Touches.setAccess _ s).trans (Touches.closeAccess _))).trans (comesFixed (.system .accessLocked) _)

theorem ownerCoolerMode : Reporting s (ownerCoolerMode p f s).state := by
  unfold Machine.ownerCoolerMode
  split
  · split
    · exact refl s
    · exact enterManual s
  · split
    · exact of (.setCooler _ s)
    · exact refl s
  · exact refl s

theorem startChannel (c : Chan) (s : State) : Reporting s (s.startChannel c) :=
  trans (trans (of (.setChan (l := [.runs, .offs]) c _ s)) (of (.drive c _ _))) (offNotice c false _)

theorem stopChannel (c : Chan) (s : State) : Reporting s (s.stopChannel c) := by
  unfold State.stopChannel
  split
  · exact (of (.drive c 0 s)).trans (enterOff c _)
  · split
    · exact enterOff c s
    · exact of (.setChan (l := [.runs, .offs]) c _ s)

theorem ownerStopChannel : Reporting s (ownerStopChannel p f s).state := by
  refine withChan_state (refl s) fun c => ?_
  split
  any_goals exact refl s
  all_goals exact stopChannel c s

theorem ownerStartChannel : Reporting s (ownerStartChannel p f s).state := by
  refine withChan_state (refl s) fun c => ?_
  split
  · exact refl s
  · exact startChannel c s

theorem ownerClearTrip : Reporting s (ownerClearTrip p f s).state := by
  refine withChan_state (refl s) fun c => ?_
  split
  · exact refl s
  · exact enterOff c s

theorem ownerSetAnalysis : Reporting s (ownerSetAnalysis p f s).state := by
  refine withLot_state (refl s) fun i r _ => ?_
  repeat' split
  any_goals exact refl s
  all_goals exact analyse ..

theorem ownerAmendMass : Reporting s (ownerAmendMass p f s).state := by
  refine withLot_state (refl s) fun i r _ => ?_
  repeat' split
  any_goals exact refl s
  exact amend ..

theorem ownerQuarantineLot : Reporting s (ownerQuarantineLot p f s).state := by
  refine withLot_state (refl s) fun i r _ => ?_
  split
  any_goals exact refl s
  all_goals exact quarantine ..

theorem ownerEnqueueLot : Reporting s (ownerEnqueueLot p f s).state := by
  refine withLot_state (refl s) fun i r _ => ?_
  repeat' split
  any_goals exact refl s
  exact enqueue ..

theorem ownerDequeueLot : Reporting s (ownerDequeueLot p f s).state := by
  refine withLot_state (refl s) fun i r _ => ?_
  repeat' split
  any_goals exact refl s
  · exact of (.leaveQueue ..)
  · exact succession ..

theorem configurePoint (n : PointNo) (r : PointRecord) (s : State) : Reporting s ((s.setPoint n r).reconcile n) := by
  refine trans ?_ (reconcile n _)
  exact quiet ⟨rfl, fun _ => ⟨rfl, rfl⟩, rfl⟩

theorem ownerPointUpdate : Reporting s (ownerPointUpdate p f s).state := by
  unfold Machine.ownerPointUpdate
  split
  · exact refl s
  · refine foldl (fun s e => ?_) _ s
    unfold State.takeEntry
    exact configurePoint ..

theorem ownerSetLimits : Reporting s (ownerSetLimits p f s).state := by
  unfold Machine.ownerSetLimits
  simp only
  repeat' split
  any_goals exact refl s
  unfold State.writeLimits taken
  simp only
  split
  · exact (configurePoint ..).trans (of (.startOpenTimer _))
  · exact configurePoint ..

theorem ownerSetPointConfig : Reporting s (ownerSetPointConfig p f s).state := by
  unfold Machine.ownerSetPointConfig
  repeat' split
  any_goals exact refl s
  exact configurePoint ..

theorem owner (k : Kind) (p : Port) (f : List Byte) (s : State) (ordinary : k ∉ tableKinds) :
    Reporting s (ownerOf k p f s).state := by
  cases k with
  | accessOpen => exact ownerAccessOpen (p := p) (f := f)
  | coolerMode => exact ownerCoolerMode (p := p) (f := f)
  | startChannel => exact ownerStartChannel (p := p) (f := f)
  | stopChannel => exact ownerStopChannel (p := p) (f := f)
  | emergencyStop => exact tripEvery _ s
  | clearTrip => exact ownerClearTrip (p := p) (f := f)
  | setAnalysis => exact ownerSetAnalysis (p := p) (f := f)
  | amendMass => exact ownerAmendMass (p := p) (f := f)
  | quarantineLot => exact ownerQuarantineLot (p := p) (f := f)
  | enqueueLot => exact ownerEnqueueLot (p := p) (f := f)
  | dequeueLot => exact ownerDequeueLot (p := p) (f := f)
  | pointUpdate => exact ownerPointUpdate (p := p) (f := f)
  | setLimits => exact ownerSetLimits (p := p) (f := f)
  | setPointConfig => exact ownerSetPointConfig (p := p) (f := f)
  | setClock =>
    show Reporting s (ownerSetClock p f s).state
    unfold ownerSetClock
    split
    · exact refl s
    · exact quiet ⟨rfl, fun _ => ⟨rfl, rfl⟩, rfl⟩
  | ackAlarm | ackAll | shelve | unshelve | silence | collectAlarms | setTripEntry | shiftClose | releaseShift
  | correctShift | readShift | warmRestart => exact absurd (of_decide_eq_true rfl) ordinary
  | _ => exact of (.owner _ p f s) (of_decide_eq_true rfl) (of_decide_eq_true rfl) (of_decide_eq_true rfl)

/-! ### Events -/

theorem startUpEnds (s : State) : Reporting s s.startUpEnds := by
  have began : Quiet s (State.setSupervision { s.chc.supervision with
      link := .live, supervisionTimer := some (s.timer s.chc.supervision.supervisionTime), holdTimer := none }
      { s with phase := .running }) := ⟨rfl, fun _ => ⟨rfl, rfl⟩, rfl⟩
  unfold State.startUpEnds
  simp only
  split
  · exact (quiet began).trans (tripLineTaken _)
  · exact quiet began

theorem saveCompletes (b : Bool) (s : State) : Reporting s (s.saveCompletes b) := by
  unfold State.saveCompletes
  split
  · exact refl s
  · refine trans ?_ (reconcileStore _)
    exact quiet ⟨rfl, fun _ => ⟨rfl, rfl⟩, rfl⟩

theorem age (s : State) : Reporting s s.age := by
  unfold State.age
  refine trans ?_ (foldl (fun s n => ?_) _ _)
  · exact quiet ⟨rfl, fun _ => ⟨rfl, rfl⟩, rfl⟩
  · unfold State.staleCheck
    split
    · exact configurePoint ..
    · exact refl s

theorem whileRunning {f : State → State} (h : Reporting s (f s)) : Reporting s (s.whileRunning f) := by
  unfold State.whileRunning
  split
  · exact h
  · exact refl s

theorem event (e : Event) (s : State) (ordinary : e.rewrites = false) : Reporting s (e.run s) := by
  have line (b : Bool) : Quiet s { s with tripLine := b } := ⟨rfl, fun _ => ⟨rfl, rfl⟩, rfl⟩
  cases e with
  | refresh => exact refresh s
  | startUpEnds => exact startUpEnds s
  | saveCompletes b => exact saveCompletes b s
  | age => exact age s
  | startExpires c => exact of (.startExpires c s)
  | lineAsserted => exact (quiet (line true)).trans (whileRunning (tripLineTaken _))
  | lineDeasserted => exact (quiet (line false)).trans (whileRunning (goes (.system .tripIn) _ nofun))
  | supervisionExpires =>
    show Reporting s s.supervisionExpires
    unfold State.supervisionExpires
    split
    · exact linkLost s
    · exact refl s
  | holdExpires => exact of (.holdExpires s)
  | firingPeriod => exact firingPeriod s
  | windowBoundary c => exact of (.setFeeder c _ s)
  | pulse c => exact pulse c s
  | stallExpires c => exact stallExpires c s
  | trimInterval c => exact of (.setFeeder c _ s)
  | coolerPeriod => exact coolerPeriod s
  | flushExpires => exact flushExpires s
  | closeAccess => exact of (.closeAccess s)
  | halt _ | start _ | shelvingTick | shelfEnds _ | shiftSecond => cases ordinary

end Reporting

end Sys2Proof.Machine
end

section
/-!
Proofs. The horn and the attention output (R144, R146, R196): `OutputsStayRight`.
-/
set_option Elab.async false

namespace Sys2Proof.Machine

/-- The outputs are those that the records and the report notice call for. -/
structure AlarmTable.Settled (a : AlarmTable) : Prop where
  horn      : a.horn = a.hornDue
  attention : a.attention = a.attentionDue

theorem AlarmTable.settled_settled (a : AlarmTable) : a.settled.Settled := ⟨rfl, rfl⟩

theorem AlarmTable.Settled.of_offMap {a b : AlarmTable} (h : a.Settled) (same : b.offMap = a.offMap) : b.Settled := by
  have slots := slots_of_offMap same
  have waiting := waiting_of_offMap same
  have horn : b.horn = a.horn := congrArg (·.2.2.2.1) same
  have attention : b.attention = a.attention := congrArg (·.2.2.2.2) same
  constructor
  · rw [horn, h.horn]
    simp only [hornDue, record_of_offMap same]
  · rw [attention, h.attention]
    simp only [attentionDue, slots, waiting]

theorem AlarmTable.Settled.setCondition {a : AlarmTable} (h : a.Settled) (id : Identity) (k : Option Condition) :
    (a.setCondition id k).Settled := ⟨h.horn, h.attention⟩

theorem AlarmTable.Settled.comes {s : State} (h : s.alt.Settled) (id : Identity) (l : Option Level) (p : Priority) :
    (s.comes id l p).alt.Settled := by
  unfold State.comes
  split
  · exact AlarmTable.settled_settled _
  · split
    · exact AlarmTable.settled_settled _
    · exact h.setCondition ..

theorem AlarmTable.Settled.levelChanges (s : State) (id : Identity) (l : Option Level) (p : Priority) :
    (s.levelChanges id l p).alt.Settled := by
  unfold State.levelChanges
  split <;> exact AlarmTable.settled_settled _

theorem AlarmTable.Settled.goes {s : State} (h : s.alt.Settled) (id : Identity) : (s.goes id).alt.Settled := by
  unfold State.goes
  split
  · exact h
  · exact AlarmTable.settled_settled _

/-- What OutputsAgree says of a part whose links take bytes. -/
structure State.OutputsDriven (s : State) : Prop where
  settled : s.alt.Settled
  report  : s.alt.reportWaiting = s.sht.reportDue

namespace State.OutputsDriven

variable {s t : State} {p : Port} {f : List Byte}

theorem congr (h : s.OutputsDriven) (same : t.alt.offMap = s.alt.offMap) (held : t.sht.held = s.sht.held) :
    t.OutputsDriven :=
  ⟨h.settled.of_offMap same, by
    rw [AlarmTable.waiting_of_offMap same, h.report]
    simp only [ShiftUnit.reportDue, held]⟩

/-- Records written, and the outputs settled. -/
theorem settle (h : s.OutputsDriven) (waiting : t.alt.reportWaiting = s.alt.reportWaiting)
    (held : t.sht.held = s.sht.held) : t.settle.OutputsDriven :=
  ⟨AlarmTable.settled_settled _, by
    show t.alt.reportWaiting = t.sht.reportDue
    rw [waiting, h.report]
    simp only [ShiftUnit.reportDue, held]⟩

theorem ofReport (h : s.OutputsDriven) (touch : ReportTouch s t) (settled : t.alt.Settled) : t.OutputsDriven :=
  ⟨settled, by
    rw [touch.waiting, h.report]
    simp only [ShiftUnit.reportDue, touch.held]⟩

theorem reporting (h : Reporting s t) (hs : s.OutputsDriven) : t.OutputsDriven := by
  induction h with
  | quiet h => exact hs.congr (by rw [h.alarms]) h.held
  | comes id l p s _ => exact hs.ofReport (.comes id l p s) (hs.settled.comes id l p)
  | levelChanges id l p s _ => exact hs.ofReport (.levelChanges id l p s) (.levelChanges s id l p)
  | goes id s _ => exact hs.ofReport (.goes id s) (hs.settled.goes id)
  | trans _ _ a b => exact b (a hs)

/-- The report notice of a held slot. -/
theorem reportNotice {b : Bool} (due : s.sht.reportDue = b) : (s.reportNotice b).OutputsDriven :=
  ⟨AlarmTable.settled_settled _, due.symm⟩

/-! ### The alarm requests -/

theorem acknowledge_touch (p : Port) (i : SlotNo) (s : State) : ReportTouch s (s.acknowledge p i) := by
  unfold State.acknowledge
  split
  · exact .refl s
  · split
    · exact .setAlt_map s _ rfl rfl
    · exact .retire i s
    · exact .refl s

theorem ackAlarm (h : s.OutputsDriven) : (ownerAckAlarm p f s).state.OutputsDriven := by
  have done (i : SlotNo) : (s.acknowledge p i).settle.OutputsDriven :=
    h.settle (acknowledge_touch p i s).waiting (acknowledge_touch p i s).held
  refine withAlarm_state h fun i r _ => ?_
  split
  · exact h
  all_goals exact done i

theorem ackAll_touch (s : State) : ReportTouch s s.ackAll := by
  refine ReportTouch.trans (ReportTouch.trans ?_ (.foldl (fun s i => acknowledge_touch .control i s) _ _)) (.settle _)
  refine ReportTouch.trans ?_ (.foldl (fun s i => .promote i s) _ _)
  exact .foldl (fun s i => .setAlt_map s (s.alt.stubbed i) rfl rfl) _ _

theorem ackAll (h : s.OutputsDriven) : (ownerAckAll p f s).state.OutputsDriven := by
  unfold ownerAckAll
  simp only
  split
  · exact h
  · exact h.ofReport (ackAll_touch s) (AlarmTable.settled_settled _)

theorem shelvingEnds_touch (id : Identity) (s : State) : ReportTouch s (s.shelvingEnds id) := by
  unfold State.shelvingEnds
  repeat' split
  any_goals exact .refl s
  exact .setAlt_map s _ rfl rfl

theorem oldEntryOut_offMap (e : EntryNo) (s : State) : (s.oldEntryOut e).alt.offMap = s.alt.offMap := by
  unfold State.oldEntryOut
  split
  · split
    · rfl
    · rw [State.holdRelease_alt]; rfl
  · rfl

theorem oldEntryOut_touch (e : EntryNo) (s : State) : ReportTouch s (s.oldEntryOut e) := by
  unfold State.oldEntryOut
  split
  · split
    · exact .setInForce ..
    · exact (ReportTouch.setInForce ..).trans (.holdRelease ..)
  · exact .setInForce ..

theorem replaceEntry (h : s.OutputsDriven) (e : EntryNo) (x : Option TripRule) : (s.replaceEntry e x).OutputsDriven := by
  have out : ((s.oldEntryOut e).writeEntry e x).OutputsDriven :=
    h.congr (oldEntryOut_offMap e s) (oldEntryOut_touch e s).held
  unfold State.replaceEntry
  simp only
  split
  · exact out
  next r =>
    have touch := (shelvingEnds_touch r.identity ((s.oldEntryOut e).writeEntry e (some r))).trans (.entryIntoForce e _)
    exact out.settle touch.waiting touch.held

theorem setTripEntry (h : s.OutputsDriven) : (ownerSetTripEntry p f s).state.OutputsDriven := by
  unfold ownerSetTripEntry
  repeat' split
  any_goals exact h
  exact (h.replaceEntry _ _).congr rfl rfl

/-! ### The held report -/

theorem closeShift (s : State) : s.closeShift.OutputsDriven := by
  unfold State.closeShift
  exact reportNotice rfl

theorem freeHeld (h : s.OutputsDriven) {t : Tally} (held : s.sht.held = some t) : (s.freeHeld t).OutputsDriven := by
  unfold State.freeHeld
  simp only
  split
  next collected =>
    refine ⟨⟨h.settled.horn, h.settled.attention⟩, h.report.trans ?_⟩
    simp [ShiftUnit.reportDue, held, collected, State.setShift]
  next => exact reportNotice rfl

theorem releaseShift (h : s.OutputsDriven) : (ownerReleaseShift p f s).state.OutputsDriven := by
  unfold ownerReleaseShift
  split
  · exact h
  next held =>
    repeat' split
    · exact h
    · exact closeShift _
    · exact h.freeHeld held

theorem correctShift (h : s.OutputsDriven) : (ownerCorrectShift p f s).state.OutputsDriven := by
  unfold ownerCorrectShift
  split
  · exact h
  next held =>
    repeat' split
    · exact h
    · exact h
    · refine ⟨⟨h.settled.horn, h.settled.attention⟩, h.report.trans ?_⟩
      simp [ShiftUnit.reportDue, held, State.setShift, taken, Tally.clinkerCorrected, Tally.collected]

/-- A mark set takes no report back from collected. -/
theorem collected_read {t : Tally} (part : ShiftPart) (h : t.collected = true) : (t.read part).collected = true := by
  simp only [Tally.collected, Bool.and_eq_true] at h ⊢
  cases part <;> simp [Tally.read, h]

theorem readHeld (h : s.OutputsDriven) {t : Tally} (held : s.sht.held = some t) (part : ShiftPart) :
    (s.readHeld part t).OutputsDriven := by
  unfold State.readHeld
  simp only
  split
  next now =>
    refine reportNotice ?_
    simp [ShiftUnit.reportDue, State.setShift, now.2]
  next same =>
    refine ⟨⟨h.settled.horn, h.settled.attention⟩, h.report.trans ?_⟩
    have due : t.collected = (t.read part).collected := by
      cases before : t.collected
      · simpa [before] using same
      · rw [collected_read part before]
    simp [ShiftUnit.reportDue, held, State.setShift, due]

theorem readShift (h : s.OutputsDriven) : (ownerReadShift p f s).state.OutputsDriven := by
  unfold ownerReadShift
  split
  · exact h
  · split
    · exact h
    next held =>
      split
      · exact h.readHeld held _
      · exact h
  · exact h

theorem sampled_held (s : State) : s.sampled.held = s.sht.held := by
  unfold State.sampled ShiftUnit.clinkerTaken
  split <;> rfl

theorem setShift (h : s.OutputsDriven) {u : ShiftUnit} (held : u.held = s.sht.held) : (s.setShift u).OutputsDriven :=
  h.congr rfl held

theorem shiftSecond (h : s.OutputsDriven) : s.shiftSecond.OutputsDriven := by
  have sampled := h.setShift (sampled_held s)
  unfold State.shiftSecond
  simp only
  split
  · exact sampled
  · split
    · unfold State.boundary
      split
      · exact closeShift _
      · exact (sampled.setShift rfl).setShift rfl
    · exact sampled.setShift rfl

/-! ### Starts -/

theorem warmRestart (s : State) : s.warmRestart.OutputsDriven :=
  reporting (Reporting.warmResent s) (reportNotice rfl)

theorem start (x : ResetCause) (s : State) : (s.start x).OutputsDriven := by
  refine reporting (Reporting.started x s) ⟨⟨?_, ?_⟩, rfl⟩
  · simp [State.fresh, AlarmTable.start, AlarmTable.hornDue, AlarmTable.record]
  · simp [State.fresh, AlarmTable.start, AlarmTable.attentionDue, AlarmSlot.mark]

theorem owner (k : Kind) (p : Port) (f : List Byte) (h : s.OutputsDriven) : (ownerOf k p f s).state.OutputsDriven := by
  have reports (out : k ∉ Reporting.tableKinds) : (ownerOf k p f s).state.OutputsDriven :=
    reporting (Reporting.owner k p f s out) h
  cases k with
  | ackAlarm => exact ackAlarm (p := p) (f := f) h
  | ackAll => exact ackAll (p := p) (f := f) h
  | shelve =>
    refine withAlarm_state (P := State.OutputsDriven) h fun i r _ => ?_
    simp only
    repeat' split
    any_goals exact h
    exact h.settle rfl rfl
  | unshelve =>
    refine withAlarm_state (P := State.OutputsDriven) h fun i r _ => ?_
    split
    · exact h
    · exact h.settle rfl rfl
  | silence =>
    show (ownerSilence p f s).state.OutputsDriven
    unfold ownerSilence
    split
    · exact h.settle rfl rfl
    · exact h
  | collectAlarms =>
    show (s.setAlt (s.alt.collect p)).settle.OutputsDriven
    exact h.settle rfl rfl
  | setTripEntry => exact setTripEntry (p := p) (f := f) h
  | shiftClose =>
    show (ownerShiftClose p f s).state.OutputsDriven
    unfold ownerShiftClose
    split
    · exact h
    · exact closeShift s
  | releaseShift => exact releaseShift (p := p) (f := f) h
  | correctShift => exact correctShift (p := p) (f := f) h
  | readShift => exact readShift (p := p) (f := f) h
  | warmRestart =>
    show (ownerWarmRestart p f s).state.OutputsDriven
    simp only [ownerWarmRestart, taken]
    exact warmRestart s
  | _ => exact reports (of_decide_eq_true rfl)

end State.OutputsDriven

/-! ### The invariant -/

namespace State.OutputsAgree

variable {s t : State}

theorem outputsDriven (h : s.OutputsAgree) (linked : s.linked = true) : s.OutputsDriven :=
  ⟨⟨(h.driven linked).1, (h.driven linked).2⟩, h.report⟩

theorem of_driven (h : s.OutputsDriven) (linked : s.linked = true) : s.OutputsAgree :=
  ⟨fun _ => ⟨h.settled.horn, h.settled.attention⟩, fun e => absurd (linked.symm.trans e) nofun,
    fun e => absurd (linked.symm.trans e) nofun, h.report⟩

theorem linked_of_phase (same : t.phase = s.phase) : t.linked = s.linked := by simp only [State.linked, same]

theorem running_linked (run : s.phase = .running) : s.linked = true := s.linked_iff.mpr (.inr run)

theorem halt (h : s.OutputsAgree) {ph : Phase} (dark : ph = .off ∨ ph = .held) : (s.halt ph).OutputsAgree := by
  have unlinked : (s.halt ph).linked = false := by
    rcases dark with rfl | rfl <;> rfl
  refine ⟨fun e => absurd (unlinked.symm.trans e) nofun, fun _ => ⟨rfl, rfl, fun c => ?_⟩, fun _ => rfl, h.report⟩
  have feeder : (s.halt ph).feeder c = { s.feeder c with appliedRate := 0 } := Tbl.get_map ..
  rw [feeder]

theorem shelfEnds (h : s.OutputsDriven) (i : SlotNo) : (s.shelfEnds i).OutputsDriven := by
  unfold State.shelfEnds
  repeat' split
  any_goals exact h
  exact h.settle rfl rfl

theorem saveCompletes (h : s.OutputsAgree) (b : Bool) : (s.saveCompletes b).OutputsAgree := by
  by_cases linked : s.linked = true
  · refine of_driven ((h.outputsDriven linked).reporting (Reporting.saveCompletes b s)) ?_
    rw [linked_of_phase (Touches.saveCompletes b s).phase]
    exact linked
  · unfold State.saveCompletes
    rw [h.noSave (by simpa using linked)]
    exact h

/-- The line's level written, then an event of running blocks. -/
theorem onLine (h : s.OutputsAgree) (b : Bool) {f : State → State} (reports : ∀ s, Reporting s (f s))
    (phase : ∀ s, (f s).phase = s.phase) : (State.whileRunning f { s with tripLine := b }).OutputsAgree := by
  have marked : ({ s with tripLine := b } : State).OutputsAgree := ⟨h.driven, h.dark, h.noSave, h.report⟩
  unfold State.whileRunning
  split
  next runs =>
    have run : s.phase = .running := by simpa [State.runs] using runs
    refine of_driven ((marked.outputsDriven (running_linked run)).reporting (reports _)) (running_linked ?_)
    rw [phase]
    exact run
  next => exact marked

theorem event (e : Event) (due : e.due s) (h : s.OutputsAgree) : (e.run s).OutputsAgree := by
  have running (run : s.phase = .running) (ordinary : e.rewrites = false) (phase : .phase ∉ e.touched) :
      (e.run s).OutputsAgree :=
    of_driven ((h.outputsDriven (running_linked run)).reporting (Reporting.event e s ordinary))
      (running_linked (((Touches.event e s).phase phase).trans run))
  have settles (run : s.phase = .running) (phase : .phase ∉ e.touched) (d : (e.run s).OutputsDriven) :
      (e.run s).OutputsAgree := of_driven d (running_linked (((Touches.event e s).phase phase).trans run))
  cases e with
  | halt ph => exact h.halt due
  | start x => exact of_driven (.start x s) ((s.start x).linked_iff.mpr (.inl (start_phase x s)))
  | startUpEnds =>
    have run : (Event.startUpEnds.run s).phase = .running := by
      show s.startUpEnds.phase = .running
      unfold State.startUpEnds
      simp only
      split
      · rw [(Touches.tripLineTaken _).phase]; rfl
      · rfl
    exact of_driven ((h.outputsDriven (s.linked_iff.mpr (.inl due))).reporting (Reporting.startUpEnds s)) (running_linked run)
  | saveCompletes b => exact h.saveCompletes b
  | lineAsserted => exact h.onLine true Reporting.tripLineTaken fun s => (Touches.tripLineTaken s).phase
  | lineDeasserted =>
    exact h.onLine false (fun s => .goes (.system .tripIn) s nofun) fun s => (Touches.goes (.system .tripIn) s).phase
  | shelvingTick =>
    exact settles due (of_decide_eq_true rfl) ((h.outputsDriven (running_linked due)).settle rfl rfl)
  | shelfEnds i => exact settles due (of_decide_eq_true rfl) (shelfEnds (h.outputsDriven (running_linked due)) i)
  | shiftSecond => exact settles due (of_decide_eq_true rfl) (h.outputsDriven (running_linked due)).shiftSecond
  | _ => exact running due rfl (of_decide_eq_true rfl)

end State.OutputsAgree

theorem kept_outputsAgree : Kept State.OutputsAgree where
  ports s t same h := by rw [same]; exact ⟨h.driven, h.dark, h.noSave, h.report⟩
  owner k p f s accepted h := by
    have linked := State.OutputsAgree.running_linked accepted.running
    refine .of_driven ((h.outputsDriven linked).owner k p f) ?_
    rw [State.OutputsAgree.linked_of_phase (owner_phase k p f s)]
    exact linked
  event e s due h := h.event e due

/-- Settles O57: every operation on the records ends with the outputs settled, every write of the held report with its
notice, and a part that is held or loses power drops its outputs. -/
theorem outputsStayRight : Obligations.OutputsStayRight := fun _ _ h stepped => kept_outputsAgree.step h stepped

end Sys2Proof.Machine
end

section
/-!
Proofs. The agreement of records and condition list (R128, R131, R137 to R139).
-/
set_option Elab.async false

namespace Sys2Proof.Machine

/-! ### Sound tables, with slots still to be filled -/

/-- What a live record says of its identity's condition: an absent one is cleared and unshelved, a present one is
not pending and its record is active. -/
def AlarmRecord.Fits (r : AlarmRecord) : Option Condition → Prop
  | none => r.state = .clearedUnack ∧ r.shelvedUntil = none
  | some k => k.pending = false ∧ r.state ≠ .clearedUnack

/-- Some condition is pending. -/
def AlarmTable.Waits (a : AlarmTable) : Prop := ∃ id k, a.condition id = some k ∧ k.pending = true

/-- Sound but for SYSTEM/TABLE_FULL itself, and for slots whose records have just been retired. -/
structure AlarmTable.Agrees (holes : List SlotNo) (a : AlarmTable) : Prop where
  distinct : ∀ i j r r', a.record i = some r → a.record j = some r' → r.identity = r'.identity → i = j
  reserved : ∀ i r, a.record i = some r → (r.identity = .system .tableFull ↔ i = reservedSlot)
  fits     : ∀ i r, a.record i = some r → r.Fits (a.condition r.identity)
  shown    : ∀ id k, a.condition id = some k → k.pending = false → ∃ i r, a.record i = some r ∧ r.identity = id
  never    : ∀ k, a.condition (.system .tableFull) = some k → k.pending = false
  full     : a.Waits → ∀ i, i ≠ reservedSlot → i ∉ holes → (a.record i).isSome = true

theorem AlarmTable.pendings_ne_nil_iff (a : AlarmTable) : a.pendings ≠ [] ↔ a.Waits := by
  unfold pendings Waits
  rw [ne_eq, List.filter_eq_nil_iff, not_forall]
  refine exists_congr fun id => ?_
  simp only [Identity.mem_all, true_implies, not_not]
  cases a.condition id <;> simp

theorem AlarmTable.slotOf_eq_none_iff {a : AlarmTable} {id : Identity} :
    a.slotOf id = none ↔ ∀ i r, a.record i = some r → r.identity ≠ id := by
  unfold slotOf
  rw [List.find?_eq_none]
  refine forall_congr' fun i => ?_
  cases a.record i <;> simp

theorem AlarmTable.sound_iff {a : AlarmTable} :
    a.Sound ↔ a.Agrees [] ∧ (a.isPresent (.system .tableFull) = true ↔ a.Waits) := by
  constructor
  · intro h
    have fits (i : SlotNo) (r : AlarmRecord) (held : a.record i = some r) : r.Fits (a.condition r.identity) := by
      cases c : a.condition r.identity with
      | none => exact h.gone i r held c
      | some k =>
        cases pending : k.pending with
        | true => exact absurd rfl (slotOf_eq_none_iff.mp (h.waiting _ k c pending).1 i r held)
        | false =>
          obtain ⟨j, r', held', same, active⟩ := h.shown _ k c pending
          obtain rfl := h.distinct j i r' r held' held same
          rw [held] at held'
          cases held'
          exact ⟨pending, active⟩
    refine ⟨⟨h.distinct, h.reserved, fits, fun id k c pending => ?_, fun k c => ?_, fun waits i ordinary _ => ?_⟩, ?_⟩
    · obtain ⟨i, r, held, same, -⟩ := h.shown id k c pending
      exact ⟨i, r, held, same⟩
    · cases pending : k.pending with
      | false => rfl
      | true => exact absurd rfl (h.waiting _ k c pending).2
    · exact h.full (a.pendings_ne_nil_iff.mpr waits) i ordinary
    · exact h.tableFull.trans a.pendings_ne_nil_iff
  · rintro ⟨h, tableFull⟩
    refine ⟨h.distinct, h.reserved, fun id k c pending => ⟨slotOf_eq_none_iff.mpr fun i r held same => ?_, ?_⟩,
      fun id k c pending => ?_, fun i r held c => ?_, fun waits i ordinary => ?_, tableFull.trans a.pendings_ne_nil_iff.symm⟩
    · have fit := h.fits i r held
      rw [same, c] at fit
      exact absurd (pending.symm.trans fit.1) nofun
    · rintro rfl
      exact absurd (pending.symm.trans (h.never k c)) nofun
    · obtain ⟨i, r, held, same⟩ := h.shown id k c pending
      have fit := h.fits i r held
      rw [same, c] at fit
      exact ⟨i, r, held, same, fit.2⟩
    · have fit := h.fits i r held
      rw [c] at fit
      exact fit
    · exact h.full (a.pendings_ne_nil_iff.mp waits) i ordinary (by simp)

/-! ### Slots written -/

theorem AlarmTable.occupy_record (a : AlarmTable) (i j : SlotNo) (r : AlarmRecord) :
    (a.occupy i r).record j = if j = i then some r else a.record j := by
  by_cases e : j = i
  · subst e; simp [record, occupy]
  · simp [record, occupy, Tbl.get_modify_ne e, e]

theorem AlarmTable.rewrite_record (a : AlarmTable) (i j : SlotNo) (r : AlarmRecord) :
    (a.rewrite i r).record j = if j = i then some r else a.record j := by
  by_cases e : j = i
  · subst e; simp [record, rewrite]
  · simp [record, rewrite, Tbl.get_modify_ne e, e]

theorem AlarmTable.stubbed_record (a : AlarmTable) (i j : SlotNo) :
    (a.stubbed i).record j = if j = i then none else a.record j := by
  by_cases e : j = i
  · subst e
    cases h : (a.slots.get j).content <;> simp [record, stubbed, h]
  · simp [record, stubbed, Tbl.get_modify_ne e, e]

namespace AlarmTable

variable {a b : AlarmTable} {id : Identity} {i : SlotNo} {holes holes' : List SlotNo}

theorem Waits.congr (h : b.Waits) (conditions : ∀ j, b.condition j = a.condition j) : a.Waits := by
  obtain ⟨j, k, c, p⟩ := h
  exact ⟨j, k, (conditions j).symm.trans c, p⟩

/-- A condition that is not pending, put where none was pending, leaves no more pending. -/
theorem Waits.of_put {c : Option Condition} (h : b.Waits)
    (condition : ∀ j, b.condition j = if j = id then c else a.condition j)
    (calm : ∀ k, c = some k → k.pending = false) : a.Waits := by
  obtain ⟨j, k, found, p⟩ := h
  rw [condition] at found
  split at found
  · exact absurd (p.symm.trans (calm k found)) nofun
  · exact ⟨j, k, found, p⟩

namespace Agrees

/-- The condition of one identity and the record in its slot replaced together. -/
theorem patch {c : Option Condition} {x : Option AlarmRecord} (h : a.Agrees holes)
    (condition : ∀ j, b.condition j = if j = id then c else a.condition j)
    (record : ∀ n, b.record n = if n = i then x else a.record n)
    (own : ∀ n r, a.record n = some r → (r.identity = id ↔ n = i))
    (new : ∀ r, x = some r → r.identity = id ∧ r.Fits c)
    (shown : ∀ k, c = some k → k.pending = false → x.isSome = true)
    (place : x.isSome = true → (id = .system .tableFull ↔ i = reservedSlot))
    (never : id = .system .tableFull → ∀ k, c = some k → k.pending = false)
    (full : b.Waits → ∀ n, n ≠ reservedSlot → n ∉ holes' → (b.record n).isSome = true) : b.Agrees holes' := by
  have held (n : SlotNo) (r : AlarmRecord) (found : b.record n = some r) :
      (n = i ∧ x = some r) ∨ (n ≠ i ∧ a.record n = some r ∧ r.identity ≠ id) := by
    rw [record] at found
    split at found
    next e => exact .inl ⟨e, found⟩
    next e => exact .inr ⟨e, found, fun same => e ((own n r found).mp same)⟩
  refine ⟨fun m n r r' fm fn same => ?_, fun n r fn => ?_, fun n r fn => ?_, fun j k cond pending => ?_, fun k cond => ?_,
    full⟩
  · rcases held m r fm with ⟨rfl, new₁⟩ | ⟨-, old₁, other₁⟩ <;> rcases held n r' fn with ⟨e, new₂⟩ | ⟨-, old₂, other₂⟩
    · exact e.symm
    · exact absurd (same.symm.trans (new r new₁).1) other₂
    · exact absurd (same.trans (new r' new₂).1) other₁
    · exact h.distinct m n r r' old₁ old₂ same
  · rcases held n r fn with ⟨rfl, fresh⟩ | ⟨-, old, -⟩
    · rw [(new r fresh).1]
      exact place (by rw [fresh]; rfl)
    · exact h.reserved n r old
  · rcases held n r fn with ⟨-, fresh⟩ | ⟨-, old, other⟩
    · rw [condition, if_pos (new r fresh).1]
      exact (new r fresh).2
    · rw [condition, if_neg other]
      exact h.fits n r old
  · rw [condition] at cond
    split at cond
    next e =>
      subst e
      obtain ⟨r, fresh⟩ := Option.isSome_iff_exists.mp (shown k cond pending)
      exact ⟨i, r, by rw [record, if_pos rfl]; exact fresh, (new r fresh).1⟩
    next ne =>
      obtain ⟨n, r, old, same⟩ := h.shown j k cond pending
      refine ⟨n, r, ?_, same⟩
      rw [record, if_neg]
      · exact old
      · exact fun e => ne (same.symm.trans ((own n r old).mpr e))
  · rw [condition] at cond
    split at cond
    next e => exact never e.symm k cond
    next => exact h.never k cond

/-- A condition without a record that becomes pending, or is pending and goes. -/
theorem repend {c : Option Condition} (h : a.Agrees holes)
    (condition : ∀ j, b.condition j = if j = id then c else a.condition j) (record : ∀ n, b.record n = a.record n)
    (without : ∀ n r, a.record n = some r → r.identity ≠ id) (pends : ∀ k, c = some k → k.pending = true)
    (ordinary : id ≠ .system .tableFull)
    (full : b.Waits → ∀ n, n ≠ reservedSlot → n ∉ holes → (b.record n).isSome = true) : b.Agrees holes := by
  refine ⟨fun m n r r' fm fn same => ?_, fun n r fn => ?_, fun n r fn => ?_, fun j k cond pending => ?_, fun k cond => ?_,
    full⟩
  · rw [record] at fm fn
    exact h.distinct m n r r' fm fn same
  · rw [record] at fn
    exact h.reserved n r fn
  · rw [record] at fn
    rw [condition, if_neg (without n r fn)]
    exact h.fits n r fn
  · rw [condition] at cond
    split at cond
    · exact absurd ((pends k cond).symm.trans pending) nofun
    · simp only [record]
      exact h.shown j k cond pending
  · rw [condition, if_neg ordinary.symm] at cond
    exact h.never k cond

/-- Records rewritten in place, each fit for the condition it had, the pending marks as before. -/
theorem revise (h : a.Agrees holes) (pending : ∀ j, (b.condition j).map (·.pending) = (a.condition j).map (·.pending))
    (same : ∀ n, (b.record n).map (·.identity) = (a.record n).map (·.identity))
    (fits : ∀ n r, b.record n = some r → r.Fits (a.condition r.identity)) : b.Agrees holes := by
  have old (n : SlotNo) (r : AlarmRecord) (found : b.record n = some r) :
      ∃ r', a.record n = some r' ∧ r'.identity = r.identity := by
    have := same n
    rw [found] at this
    simpa [eq_comm] using this
  have some_iff (j : Identity) (x : Bool) :
      (∃ k, b.condition j = some k ∧ k.pending = x) ↔ ∃ k, a.condition j = some k ∧ k.pending = x := by
    have := pending j
    cases hb : b.condition j <;> cases ha : a.condition j <;> simp_all
  refine ⟨fun m n r r' fm fn e => ?_, fun n r fn => ?_, fun n r fn => ?_, fun j k cond p => ?_, fun k cond => ?_,
    fun waits n ordinary out => ?_⟩
  · obtain ⟨x, fx, ex⟩ := old m r fm
    obtain ⟨y, fy, ey⟩ := old n r' fn
    exact h.distinct m n x y fx fy (by rw [ex, ey, e])
  · obtain ⟨x, fx, ex⟩ := old n r fn
    rw [← ex]
    exact h.reserved n x fx
  · have fit := fits n r fn
    have marks := pending r.identity
    cases ha : a.condition r.identity <;> cases hb : b.condition r.identity <;> simp_all [AlarmRecord.Fits]
  · obtain ⟨k', cond', p'⟩ := (some_iff j false).mp ⟨k, cond, p⟩
    obtain ⟨n, x, fx, ex⟩ := h.shown j k' cond' p'
    have : (b.record n).map (·.identity) = some x.identity := by rw [same, fx]; rfl
    obtain ⟨r, fr, er⟩ := Option.map_eq_some_iff.mp this
    exact ⟨n, r, fr, er.trans ex⟩
  · cases p : k.pending with
    | false => rfl
    | true =>
      obtain ⟨k', cond', p'⟩ := (some_iff _ true).mp ⟨k, cond, p⟩
      exact absurd (p'.symm.trans (h.never k' cond')) nofun
  · obtain ⟨j, k, cond, p⟩ := waits
    obtain ⟨k', cond', p'⟩ := (some_iff j true).mp ⟨k, cond, p⟩
    have full := h.full ⟨j, k', cond', p'⟩ n ordinary out
    have := congrArg Option.isSome (same n)
    simpa [full] using this

end Agrees

/-- Sound but for the slots whose records have just been retired. -/
structure SoundBut (holes : List SlotNo) (a : AlarmTable) : Prop where
  agrees    : a.Agrees holes
  tableFull : a.isPresent (.system .tableFull) = true ↔ a.Waits

theorem soundBut_nil_iff : a.SoundBut [] ↔ a.Sound :=
  ⟨fun h => sound_iff.mpr ⟨h.agrees, h.tableFull⟩, fun h => ⟨(sound_iff.mp h).1, (sound_iff.mp h).2⟩⟩

theorem SoundBut.mono (h : a.SoundBut holes) (sub : holes ⊆ holes') : a.SoundBut holes' :=
  ⟨⟨h.agrees.distinct, h.agrees.reserved, h.agrees.fits, h.agrees.shown, h.agrees.never,
    fun w n ord out => h.agrees.full w n ord fun mem => out (sub mem)⟩, h.tableFull⟩

theorem SoundBut.revise (h : a.SoundBut holes)
    (pending : ∀ j, (b.condition j).map (·.pending) = (a.condition j).map (·.pending))
    (same : ∀ n, (b.record n).map (·.identity) = (a.record n).map (·.identity))
    (fits : ∀ n r, b.record n = some r → r.Fits (a.condition r.identity)) : b.SoundBut holes := by
  refine ⟨h.agrees.revise pending same fits, ?_⟩
  have present : b.isPresent (.system .tableFull) = a.isPresent (.system .tableFull) := by
    have := congrArg Option.isSome (pending (.system .tableFull))
    simpa [isPresent] using this
  have waits : b.Waits ↔ a.Waits := by
    refine exists_congr fun j => ?_
    have := pending j
    cases hb : b.condition j <;> cases ha : a.condition j <;> simp_all
  rw [present, h.tableFull, waits]

/-- The tables are alike in what soundness reads. -/
theorem SoundBut.congr (h : a.SoundBut holes) (conditions : b.conditions = a.conditions)
    (records : ∀ n, b.record n = a.record n) : b.SoundBut holes :=
  h.revise (fun j => by simp only [condition, conditions]) (fun n => by rw [records]) fun n r found =>
    h.agrees.fits n r ((records n).symm.trans found)

theorem waits_put_iff {c : Option Condition} (condition : ∀ j, b.condition j = if j = id then c else a.condition j)
    (calm : ∀ k, c = some k → k.pending = false) (before : ∀ k, a.condition id = some k → k.pending = false) :
    b.Waits ↔ a.Waits := by
  refine ⟨fun h => h.of_put condition calm, fun ⟨j, k, found, p⟩ => ⟨j, k, ?_, p⟩⟩
  rw [condition, if_neg]
  · exact found
  · rintro rfl
    exact absurd (p.symm.trans (before k found)) nofun

/-- A sound table's own slot of an identity. -/
theorem SoundBut.slot_iff (h : a.SoundBut holes) {r : AlarmRecord} (held : a.record i = some r) (n : SlotNo)
    (x : AlarmRecord) (found : a.record n = some x) : x.identity = r.identity ↔ n = i :=
  ⟨fun same => h.agrees.distinct n i x r found held same, fun e => by
    subst e
    rw [held] at found
    cases found
    rfl⟩

end AlarmTable

/-! ### SYSTEM/TABLE_FULL -/

/-- A goes report leaves a record fit for an absent condition (R131). -/
theorem AlarmRecord.gone_fits {r r' : AlarmRecord} {c : Option Condition} {stamp : Option Stamp} (fit : r.Fits c)
    (h : r.gone stamp = some r') : r'.identity = r.identity ∧ r'.Fits none := by
  unfold AlarmRecord.gone at h
  split at h
  · cases h
  · split at h
    · cases h
    next unshelved =>
      cases h
      exact ⟨rfl, rfl, by simpa [AlarmRecord.touched] using unshelved⟩
  next cleared =>
    cases h
    refine ⟨rfl, ?_⟩
    cases c with
    | none => exact fit
    | some k => exact absurd cleared fit.2

section tableFull
variable {s : State} {holes : List SlotNo}

theorem State.tableFullComes_sound (h : s.alt.Agrees holes) (waits : s.alt.Waits) :
    s.tableFullComes.alt.SoundBut holes := by
  have still {b : AlarmTable} (others : ∀ j, j ≠ .system .tableFull → b.condition j = s.alt.condition j) : b.Waits := by
    obtain ⟨j, k, found, p⟩ := waits
    refine ⟨j, k, ?_, p⟩
    rw [others]
    · exact found
    · rintro rfl
      exact absurd (p.symm.trans (h.never k found)) nofun
  have full {x : AlarmRecord} {b : AlarmTable} (record : ∀ n, b.record n = if n = reservedSlot then some x else
      s.alt.record n) : b.Waits → ∀ n, n ≠ reservedSlot → n ∉ holes → (b.record n).isSome = true := fun _ n ordinary out => by
    rw [record, if_neg ordinary]
    exact h.full waits n ordinary out
  have others {b : AlarmTable} {k : Option Condition}
      (same : b.conditions = (s.alt.setCondition (.system .tableFull) k).conditions) (j : Identity)
      (ne : j ≠ .system .tableFull) : b.condition j = s.alt.condition j := by
    rw [← AlarmTable.setCondition_condition_ne ne s.alt k]
    simp only [AlarmTable.condition, same]
  unfold State.tableFullComes
  simp only
  split
  next absent _ =>
    have record := fun n => AlarmTable.occupy_record (s.alt.setCondition (.system .tableFull)
      (some { level := none, priority := .high, pending := false })) reservedSlot n
      (newRecord (.system .tableFull) { level := none, priority := .high, pending := false } false s.sht.stamp 1)
    exact ⟨h.patch (AlarmTable.setCondition_condition _ _ · _) record h.reserved
        (fun r e => by cases e; exact ⟨rfl, rfl, nofun⟩) (fun _ _ _ => rfl) (fun _ => by simp)
        (fun _ k e => by cases e; rfl) (full record),
      iff_of_true (AlarmTable.isPresent_setCondition_self ..) (still (others rfl))⟩
  next r absent held =>
    have record := fun n => AlarmTable.rewrite_record (s.alt.setCondition (.system .tableFull)
      (some { level := none, priority := .high, pending := false })) reservedSlot n
      { r.returned { level := none, priority := .high, pending := false } s.sht.stamp with
        lost := satInc Config.lostMax r.lost }
    exact ⟨h.patch (AlarmTable.setCondition_condition _ _ · _) record h.reserved
        (fun x e => by cases e; exact ⟨(h.reserved _ r held).mpr rfl, rfl, nofun⟩) (fun _ _ _ => rfl) (fun _ => by simp)
        (fun _ k e => by cases e; rfl) (full record),
      iff_of_true (AlarmTable.isPresent_setCondition_self ..) (still (others rfl))⟩
  next k r present held =>
    have sound : s.alt.SoundBut holes := ⟨h, iff_of_true (AlarmTable.isPresent_of_condition present) waits⟩
    refine sound.revise (fun _ => rfl) (fun n => ?_) fun n x found => ?_
    · rw [State.setAlt_alt, AlarmTable.rewrite_record]
      split
      next e => rw [e, held]; rfl
      next => rfl
    · rw [State.setAlt_alt, AlarmTable.rewrite_record] at found
      split at found
      · cases found
        exact h.fits _ r held
      · exact h.fits n x found
  next k present none =>
    obtain ⟨i, r, held, e⟩ := h.shown _ k present (h.never k present)
    rw [(h.reserved i r held).mp e, none] at held
    cases held

theorem State.tableFullCheck_sound (h : s.alt.Agrees holes)
    (present : s.alt.Waits → s.alt.isPresent (.system .tableFull) = true) : s.tableFullCheck.alt.SoundBut holes := by
  unfold State.tableFullCheck
  by_cases waits : s.alt.Waits
  · rw [if_neg (by simpa using s.alt.pendings_ne_nil_iff.mpr waits)]
    exact ⟨h, iff_of_true (present waits) waits⟩
  · rw [if_pos (by simpa using mt s.alt.pendings_ne_nil_iff.mp waits)]
    have dropped {b : AlarmTable} {x : Option AlarmRecord}
        (condition : ∀ j, b.condition j = if j = .system .tableFull then none else s.alt.condition j)
        (record : ∀ n, b.record n = if n = reservedSlot then x else s.alt.record n)
        (fit : ∀ r, x = some r → r.identity = .system .tableFull ∧ r.Fits none) : b.SoundBut holes := by
      have calm : ¬ b.Waits := fun w => waits (w.of_put condition nofun)
      refine ⟨h.patch condition record h.reserved fit nofun (fun _ => by simp) (fun _ => nofun) fun w => absurd w calm, ?_⟩
      refine iff_of_false ?_ calm
      rw [AlarmTable.isPresent, condition, if_pos rfl]
      exact nofun
    unfold State.tableFullGoes
    simp only
    split
    next empty =>
      refine dropped (AlarmTable.setCondition_condition _ _ · _) (x := none) (fun n => ?_) fun _ e => nomatch e
      split
      next e => rw [e]; exact empty
      next => rfl
    next r held =>
      split
      · exact dropped (AlarmTable.setCondition_condition _ _ · _) (AlarmTable.stubbed_record _ _ ·) fun _ e => nomatch e
      next r' gone =>
        refine dropped (AlarmTable.setCondition_condition _ _ · _) (AlarmTable.rewrite_record _ _ · _) fun x e => ?_
        cases e
        obtain ⟨same, fit⟩ := AlarmRecord.gone_fits (h.fits _ r held) gone
        exact ⟨same.trans ((h.reserved _ r held).mpr rfl), fit⟩

theorem AlarmTable.condition_of_mem_ranked {a : AlarmTable} {id : Identity} (h : id ∈ a.ranked) :
    ∃ k, a.condition id = some k ∧ k.pending = true := by
  simp only [ranked, pendings, List.mem_flatMap, List.mem_filter] at h
  obtain ⟨_, _, ⟨_, h⟩, _⟩ := h
  simpa [Option.any_eq_true] using h

theorem AlarmTable.not_waits_of_ranked {a : AlarmTable} (h : a.ranked = []) : ¬ a.Waits := by
  rintro ⟨id, k, found, p⟩
  have mem : id ∈ a.ranked := by
    simp only [ranked, pendings, List.mem_flatMap, List.mem_filter]
    refine ⟨k.priority.code, ?_, ⟨Identity.mem_all id, by simp [found, p]⟩, by simp [pendingPriority, found]⟩
    cases k.priority <;> simp [Priority.code]
  rw [h] at mem
  cases mem

/-- A promotion fills the slot just retired, or nothing waits (R138). -/
theorem State.promote_sound {i : SlotNo} (h : s.alt.SoundBut (i :: holes)) (free : s.alt.record i = none)
    (ordinary : i ≠ reservedSlot) : (s.promote i).alt.SoundBut holes := by
  unfold State.promote
  split
  next none =>
    have calm := AlarmTable.not_waits_of_ranked none
    obtain ⟨⟨distinct, reserved, fits, shown, never, -⟩, tableFull⟩ := h
    exact ⟨⟨distinct, reserved, fits, shown, never, fun w => absurd w calm⟩, tableFull⟩
  next id _ first =>
    obtain ⟨k, found, p⟩ := AlarmTable.condition_of_mem_ranked (a := s.alt) (id := id) (by rw [first]; simp)
    have other : id ≠ .system .tableFull := by
      rintro rfl
      exact absurd (p.symm.trans (h.agrees.never k found)) nofun
    rw [found]
    simp only
    have condition := fun j => AlarmTable.setCondition_condition s.alt id j (some { k with pending := false })
    have record := fun n => AlarmTable.occupy_record (s.alt.setCondition id (some { k with pending := false })) i n
      (newRecord id k true s.sht.stamp 0)
    have put : ((s.alt.setCondition id (some { k with pending := false })).occupy i
        (newRecord id k true s.sht.stamp 0)).Agrees holes := by
      refine h.agrees.patch condition record (fun n r held => iff_of_false (fun e => ?_) fun e => ?_)
        (fun r e => by cases e; exact ⟨rfl, rfl, nofun⟩) (fun _ _ _ => rfl) (fun _ => iff_of_false other ordinary)
        (fun e => absurd e other) fun w n ord out => ?_
      · have fit := h.agrees.fits n r held
        rw [e, found] at fit
        exact absurd (p.symm.trans fit.1) nofun
      · rw [e, free] at held
        cases held
      · rw [record]
        split
        next => rfl
        next ne =>
          exact h.agrees.full (w.of_put condition fun k e => by cases e; rfl) n ord (by simp [ne, out])
    refine State.tableFullCheck_sound put fun w => ?_
    have present := h.tableFull.mpr (w.of_put condition fun k e => by cases e; rfl)
    rw [AlarmTable.isPresent] at present ⊢
    rw [State.setAlt_alt, AlarmTable.occupy_condition, condition, if_neg other.symm]
    exact present

theorem State.tableFullCheck_record {n : SlotNo} (ordinary : n ≠ reservedSlot) :
    s.tableFullCheck.alt.record n = s.alt.record n := by
  unfold State.tableFullCheck State.tableFullGoes
  split
  · simp only
    split
    · rfl
    · split
      · rw [State.setAlt_alt, AlarmTable.stubbed_record, if_neg ordinary]; rfl
      · rw [State.setAlt_alt, AlarmTable.rewrite_record, if_neg ordinary]; rfl
  · rfl

/-- A promotion writes its slot and the reserved one alone. -/
theorem State.promote_record {i n : SlotNo} (ne : n ≠ i) (ordinary : n ≠ reservedSlot) :
    (s.promote i).alt.record n = s.alt.record n := by
  unfold State.promote
  split
  · rfl
  · split
    · rfl
    · rw [State.tableFullCheck_record ordinary, State.setAlt_alt, AlarmTable.occupy_record, if_neg ne]; rfl

/-- The cleared record of an absent condition replaced by its stub (R129). -/
theorem AlarmTable.SoundBut.stubbed {a : AlarmTable} {i : SlotNo} {r : AlarmRecord} (h : a.SoundBut holes)
    (held : a.record i = some r) (absent : a.condition r.identity = none) :
    (a.stubbed i).SoundBut (i :: holes) ∧ (i = reservedSlot → (a.stubbed i).SoundBut holes) := by
  have record := a.stubbed_record i
  have condition (j : Identity) : (a.stubbed i).condition j = if j = r.identity then none else a.condition j := by
    rw [stubbed_condition]
    split
    next e => rw [e, absent]
    next => rfl
  have agrees {l : List SlotNo} (full : (a.stubbed i).Waits → ∀ n, n ≠ reservedSlot → n ∉ l →
      ((a.stubbed i).record n).isSome = true) : (a.stubbed i).SoundBut l :=
    ⟨h.agrees.patch condition record (h.slot_iff held) (fun _ e => nomatch e) (fun _ e => nomatch e)
      (fun e => absurd e Bool.false_ne_true) (fun _ _ e => nomatch e) full, h.tableFull⟩
  refine ⟨agrees fun w n ord out => ?_, fun e => agrees fun w n ord out => ?_⟩
  · obtain ⟨ne, out⟩ := not_or.mp (mt List.mem_cons.mpr out)
    rw [record, if_neg ne]
    exact h.agrees.full w n ord out
  · rw [record, if_neg (e ▸ ord)]
    exact h.agrees.full w n ord out

theorem State.retire_sound {i : SlotNo} {r : AlarmRecord} (h : s.alt.Sound) (held : s.alt.record i = some r)
    (absent : s.alt.condition r.identity = none) : (s.retire i).alt.Sound := by
  obtain ⟨hole, reserved⟩ := (AlarmTable.soundBut_nil_iff.mpr h).stubbed held absent
  rw [← AlarmTable.soundBut_nil_iff]
  unfold State.retire
  split
  next e => exact reserved e
  next ne =>
    refine State.promote_sound hole ?_ ne
    rw [State.setAlt_alt, AlarmTable.stubbed_record, if_pos rfl]

end tableFull

/-! ### Reports -/

theorem AlarmTable.Sound.of_offMap {a b : AlarmTable} (h : a.Sound) (same : b.offMap = a.offMap) : b.Sound :=
  soundBut_nil_iff.mp ((soundBut_nil_iff.mpr h).congr (conditions_of_offMap same) fun n => record_of_offMap same n)

theorem AlarmTable.Sound.settled {a : AlarmTable} (h : a.Sound) : a.settled.Sound :=
  soundBut_nil_iff.mp ((soundBut_nil_iff.mpr h).congr rfl fun _ => rfl)

theorem AlarmTable.record_of_slotForNew {a : AlarmTable} {i : SlotNo} (h : a.slotForNew = some i) :
    i ≠ reservedSlot ∧ a.record i = none := by
  unfold slotForNew at h
  split at h
  next found =>
    cases h
    have mem := List.mem_of_find?_eq_some found
    have free := List.find?_some found
    simp only [ordinarySlots, List.mem_filter] at mem
    exact ⟨by simpa using mem.2, by simp [record, eq_of_beq free]⟩
  next =>
    have mem := List.mem_of_find?_eq_some h
    have stub := List.find?_some h
    simp only [ordinarySlots, List.mem_filter] at mem
    refine ⟨by simpa using mem.2, ?_⟩
    unfold record
    split at stub <;> simp_all

theorem AlarmTable.record_of_slotForNew_none {a : AlarmTable} (h : a.slotForNew = none) {i : SlotNo}
    (ordinary : i ≠ reservedSlot) : (a.record i).isSome = true := by
  have mem : i ∈ ordinarySlots := by simp [ordinarySlots, ordinary]
  unfold slotForNew at h
  split at h
  · cases h
  next free =>
    have notFree := List.find?_eq_none.mp free i mem
    have notStub := List.find?_eq_none.mp h i mem
    unfold record
    cases content : (a.slots.get i).content <;> simp_all

section reports
variable {s : State} {id : Identity}

theorem State.comesOnRecords_sound (h : s.alt.Sound) (ordinary : id ≠ .system .tableFull)
    (absent : s.alt.condition id = none) {k : Condition} (calm : k.pending = false) :
    (s.comesOnRecords id k).alt.Sound := by
  have but := AlarmTable.soundBut_nil_iff.mpr h
  have condition := fun j => AlarmTable.setCondition_condition s.alt id j (some k)
  have calm' (x : Condition) (e : some k = some x) : x.pending = false := by cases e; exact calm
  rw [← AlarmTable.soundBut_nil_iff]
  have put {b : AlarmTable} {i : SlotNo} {x : AlarmRecord} (cond : ∀ j, b.condition j = if j = id then some k else s.alt.condition j)
      (record : ∀ n, b.record n = if n = i then some x else s.alt.record n)
      (own : ∀ n r, s.alt.record n = some r → (r.identity = id ↔ n = i)) (new : x.identity = id ∧ x.state ≠ .clearedUnack)
      (place : i ≠ reservedSlot) : b.SoundBut [] := by
    have waits := AlarmTable.waits_put_iff cond calm' fun x e => by rw [absent] at e; cases e
    refine ⟨but.agrees.patch cond record own (fun r e => by cases e; exact ⟨new.1, calm, new.2⟩) (fun _ _ _ => rfl)
      (fun _ => iff_of_false ordinary place) (fun e => absurd e ordinary) fun w n ord out => ?_, ?_⟩
    · rw [record]
      split
      · rfl
      · exact but.agrees.full (waits.mp w) n ord out
    · rw [waits, ← but.tableFull, AlarmTable.isPresent, AlarmTable.isPresent, cond, if_neg ordinary.symm]
  unfold State.comesOnRecords
  split
  next i found =>
    obtain ⟨r, held, same⟩ := AlarmTable.record_of_slotOf found
    rw [held]
    refine put condition (AlarmTable.rewrite_record _ i · _) (fun n x e => ?_) ⟨same, nofun⟩ fun e => ?_
    · rw [← same]
      exact but.slot_iff held n x e
    · exact ordinary (same.symm.trans ((but.agrees.reserved i r held).mpr e))
  next without =>
    have without := AlarmTable.slotOf_eq_none_iff.mp without
    split
    next i found =>
      obtain ⟨place, free⟩ := AlarmTable.record_of_slotForNew found
      refine put condition (AlarmTable.occupy_record _ i · _) (fun n x e => ?_) ⟨rfl, nofun⟩ place
      refine iff_of_false (without n x e) ?_
      rintro rfl
      rw [free] at e
      cases e
    next none =>
      refine State.tableFullComes_sound (s := s.setAlt _) (but.agrees.repend
        (AlarmTable.setCondition_condition s.alt id · (some { k with pending := true })) (fun _ => rfl) without
        (fun x e => by cases e; rfl) ordinary fun _ n ord _ => AlarmTable.record_of_slotForNew_none none ord) ?_
      exact ⟨id, { k with pending := true }, AlarmTable.setCondition_condition_self .., rfl⟩

theorem State.goesOnRecords_sound (h : s.alt.Sound) (ordinary : id ≠ .system .tableFull) {k : Condition}
    (present : s.alt.condition id = some k) : (s.goesOnRecords id k).alt.Sound := by
  have but := AlarmTable.soundBut_nil_iff.mpr h
  have condition := fun j => AlarmTable.setCondition_condition s.alt id j none
  rw [← AlarmTable.soundBut_nil_iff]
  unfold State.goesOnRecords
  simp only
  split
  next pending =>
    have waits (w : (s.alt.setCondition id none).Waits) : s.alt.Waits := w.of_put condition nofun
    refine State.tableFullCheck_sound (s := s.setAlt _) (but.agrees.repend condition (fun _ => rfl)
      (fun n r held e => ?_) nofun ordinary fun w n ord out => but.agrees.full (waits w) n ord out) fun w => ?_
    · have fit := but.agrees.fits n r held
      rw [e, present] at fit
      exact absurd (pending.symm.trans fit.1) nofun
    · have full := but.tableFull.mpr (waits w)
      rw [AlarmTable.isPresent] at full ⊢
      rw [State.setAlt_alt, condition, if_neg ordinary.symm]
      exact full
  next calm =>
    obtain ⟨n, x, shown, own⟩ := but.agrees.shown id k present (by simpa using calm)
    have found : (s.setAlt (s.alt.setCondition id none)).alt.slotOf id ≠ none := fun none =>
      AlarmTable.slotOf_eq_none_iff.mp none n x shown own
    split
    next none => exact absurd none found
    next i slot =>
      obtain ⟨r, held, same⟩ := AlarmTable.record_of_slotOf slot
      have held' : s.alt.record i = some r := held
      have place : i ≠ reservedSlot := fun e => ordinary (same.symm.trans ((but.agrees.reserved i r held').mpr e))
      rw [held]
      simp only
      have put {b : AlarmTable} {x : Option AlarmRecord} {holes : List SlotNo}
          (cond : ∀ j, b.condition j = if j = id then none else s.alt.condition j)
          (record : ∀ n, b.record n = if n = i then x else s.alt.record n)
          (new : ∀ r, x = some r → r.identity = id ∧ r.Fits none) (full : i ∉ holes → x.isSome = true) :
          b.SoundBut holes := by
        have waits := AlarmTable.waits_put_iff cond nofun fun y e => by
          rw [present] at e
          cases e
          simpa using calm
        refine ⟨but.agrees.patch cond record (fun n y e => by rw [← same]; exact but.slot_iff held' n y e) new nofun
          (fun _ => iff_of_false ordinary place) (fun _ => nofun) fun w n ord out => ?_, ?_⟩
        · rw [record]
          split
          next e => exact full (e ▸ out)
          next => exact but.agrees.full (waits.mp w) n ord (by simp)
        · rw [waits, ← but.tableFull, AlarmTable.isPresent, AlarmTable.isPresent, cond, if_neg ordinary.symm]
      split
      next =>
        unfold State.retire
        rw [if_neg place]
        refine State.promote_sound (s := State.setAlt _ _) (put condition (AlarmTable.stubbed_record _ i ·)
          (fun _ e => nomatch e) (by simp)) ?_ place
        rw [State.setAlt_alt, AlarmTable.stubbed_record, if_pos rfl]
      next r' gone =>
        refine put condition (AlarmTable.rewrite_record _ i · _) (fun y e => ?_) fun _ => rfl
        cases e
        obtain ⟨e, fit⟩ := AlarmRecord.gone_fits (but.agrees.fits i r held') gone
        exact ⟨e.trans same, fit⟩

theorem AlarmRecord.relevelled_identity (old new : Option Level) (p : Priority) (stamp : Option Stamp) (r : AlarmRecord) :
    (r.relevelled old new p stamp).identity = r.identity := by
  unfold AlarmRecord.relevelled
  split <;> rfl

theorem AlarmRecord.relevelled_active {r : AlarmRecord} (active : r.state ≠ .clearedUnack) (old new : Option Level)
    (p : Priority) (stamp : Option Stamp) : (r.relevelled old new p stamp).state ≠ .clearedUnack := by
  unfold AlarmRecord.relevelled
  split
  · exact nofun
  · exact active

theorem State.levelOfPresent_sound (h : s.alt.Sound) {k : Condition} (present : s.alt.condition id = some k)
    (l : Option Level) (p : Priority) : (s.levelOfPresent id k l p).alt.Sound := by
  have but := AlarmTable.soundBut_nil_iff.mpr h
  have pending (j : Identity) : ((s.alt.setCondition id (some { k with level := l, priority := p })).condition j).map
      (·.pending) = (s.alt.condition j).map (·.pending) := by
    rw [AlarmTable.setCondition_condition]
    split
    next e => rw [e, present]; rfl
    next => rfl
  unfold State.levelOfPresent
  simp only
  rw [State.settle_alt]
  refine AlarmTable.Sound.settled (AlarmTable.Sound.of_offMap ?_ (State.intoForce_offMap id _))
  rw [← AlarmTable.soundBut_nil_iff]
  have levelled : (s.alt.setCondition id (some { k with level := l, priority := p })).SoundBut [] :=
    but.revise pending (fun _ => rfl) but.agrees.fits
  split
  · exact levelled
  next i slot =>
    split
    · exact levelled
    next r held =>
      obtain ⟨x, held'', same⟩ := AlarmTable.record_of_slotOf slot
      rw [held] at held''
      cases held''
      have held' : s.alt.record i = some r := held
      refine but.revise pending (fun n => ?_) fun n x found => ?_
      · show ((AlarmTable.rewrite _ _ _).record n).map _ = _
        rw [AlarmTable.rewrite_record]
        split
        next e =>
          rw [e, held', Option.map_some, AlarmRecord.relevelled_identity, Option.map_some]
        next => rfl
      · replace found : (AlarmTable.rewrite _ _ _).record n = some x := found
        rw [AlarmTable.rewrite_record] at found
        split at found
        · cases found
          have fit := but.agrees.fits i r held'
          rw [AlarmRecord.relevelled_identity]
          rw [same, present] at fit ⊢
          exact ⟨fit.1, AlarmRecord.relevelled_active fit.2 _ _ _ _⟩
        · exact but.agrees.fits n x found

theorem State.comesAfresh_sound (h : s.alt.Sound) (ordinary : id ≠ .system .tableFull)
    (absent : s.alt.condition id = none) (l : Option Level) (p : Priority) : (s.comesAfresh id l p).alt.Sound := by
  rw [State.comesAfresh, State.settle_alt, State.cameNotice_alt]
  exact .settled (.of_offMap (State.comesOnRecords_sound h ordinary absent rfl) (State.intoForce_offMap id _))

theorem State.comes_sound (h : s.alt.Sound) (ordinary : id ≠ .system .tableFull) (l : Option Level) (p : Priority) :
    (s.comes id l p).alt.Sound := by
  unfold State.comes
  split
  next absent => exact State.comesAfresh_sound h ordinary absent l p
  next k present =>
    split
    · exact State.levelOfPresent_sound h present l p
    · have but := AlarmTable.soundBut_nil_iff.mpr h
      refine AlarmTable.soundBut_nil_iff.mp (but.revise (fun j => ?_) (fun _ => rfl) but.agrees.fits)
      rw [State.setAlt_alt, AlarmTable.setCondition_condition]
      split
      next e => rw [e, present]; rfl
      next => rfl

theorem State.levelChanges_sound (h : s.alt.Sound) (ordinary : id ≠ .system .tableFull) (l : Option Level)
    (p : Priority) : (s.levelChanges id l p).alt.Sound := by
  unfold State.levelChanges
  split
  next absent => exact State.comesAfresh_sound h ordinary absent l p
  next k present => exact State.levelOfPresent_sound h present l p

theorem State.goes_sound (h : s.alt.Sound) (ordinary : id ≠ .system .tableFull) : (s.goes id).alt.Sound := by
  unfold State.goes
  split
  · exact h
  next k present =>
    rw [State.settle_alt]
    exact .settled (.of_offMap (State.goesOnRecords_sound h ordinary present) (State.outOfForce_offMap id _))

theorem AlarmTable.Sound.reporting {t : State} (h : Reporting s t) (hs : s.alt.Sound) : t.alt.Sound := by
  induction h with
  | quiet h => rw [h.alarms]; exact hs
  | comes id l p s ordinary => exact State.comes_sound hs ordinary l p
  | levelChanges id l p s ordinary => exact State.levelChanges_sound hs ordinary l p
  | goes id s ordinary => exact State.goes_sound hs ordinary
  | trans _ _ a b => exact b (a hs)

end reports

/-! ### Requests on records -/

namespace AlarmTable.Sound

variable {s t : State} {p : Port} {f : List Byte} {a b : AlarmTable}

/-- Records rewritten one by one, each fit for its condition where it was. -/
theorem rewritten (h : a.Sound) (conditions : b.conditions = a.conditions) (g : SlotNo → AlarmRecord → AlarmRecord)
    (record : ∀ n, b.record n = (a.record n).map (g n)) (same : ∀ n r, (g n r).identity = r.identity)
    (fits : ∀ n r, a.record n = some r → ∀ c, r.Fits c → (g n r).Fits c) : b.Sound := by
  have but := soundBut_nil_iff.mpr h
  refine soundBut_nil_iff.mp (but.revise (fun j => by simp only [condition, conditions]) (fun n => ?_) fun n x found => ?_)
  · rw [record, Option.map_map]
    congr 1
    funext r
    exact same n r
  · rw [record] at found
    obtain ⟨r, held, rfl⟩ := Option.map_eq_some_iff.mp found
    rw [same]
    exact fits n r held _ (but.agrees.fits n r held)

/-- One record rewritten. -/
theorem rewrite (h : a.Sound) {i : SlotNo} {r r' : AlarmRecord} (held : a.record i = some r)
    (same : r'.identity = r.identity) (fits : ∀ c, r.Fits c → r'.Fits c) : (a.rewrite i r').Sound := by
  have but := soundBut_nil_iff.mpr h
  refine soundBut_nil_iff.mp (but.revise (fun _ => rfl) (fun n => ?_) fun n x found => ?_)
  · rw [rewrite_record]
    split
    next e => rw [e, held]; exact congrArg some same
    next => rfl
  · rw [rewrite_record] at found
    split at found
    · cases found
      rw [same]
      exact fits _ (but.agrees.fits i r held)
    · exact but.agrees.fits n x found

theorem active {r r' : AlarmRecord} (was : r.state ≠ .clearedUnack) (is : r'.state ≠ .clearedUnack)
    (c : Option Condition) (fit : r.Fits c) : r'.Fits c := by
  cases c with
  | none => exact absurd fit.1 was
  | some k => exact ⟨fit.1, is⟩

/-- A record taken off its shelf is active, and was (R136). -/
theorem unshelved {r : AlarmRecord} (shelved : r.shelvedUntil.isSome = true) (x : Option Stamp) (c : Option Condition)
    (fit : r.Fits c) : (r.unshelved x).Fits c := by
  cases c with
  | none => rw [fit.2] at shelved; cases shelved
  | some k => exact ⟨fit.1, nofun⟩

theorem acknowledge (h : s.alt.Sound) (p : Port) (i : SlotNo) : (s.acknowledge p i).alt.Sound := by
  unfold State.acknowledge
  split
  · exact h
  next r held =>
    split
    next unacked => exact h.rewrite held rfl (active (by rw [unacked]; exact nofun) nofun)
    next cleared =>
      refine State.retire_sound h held ?_
      have fit := (soundBut_nil_iff.mpr h).agrees.fits i r held
      cases c : s.alt.condition r.identity with
      | none => rfl
      | some k => rw [c] at fit; exact absurd cleared fit.2
    · exact h

theorem shelvingEnds (h : s.alt.Sound) (id : Identity) : (s.shelvingEnds id).alt.Sound := by
  unfold State.shelvingEnds
  split
  · exact h
  · split
    · exact h
    next r held =>
      split
      next shelved => exact h.rewrite held rfl (unshelved shelved _)
      next => exact h

theorem replaceEntry (h : s.alt.Sound) (e : EntryNo) (x : Option TripRule) : (s.replaceEntry e x).alt.Sound := by
  have out : ((s.oldEntryOut e).writeEntry e x).alt.Sound := h.of_offMap (State.OutputsDriven.oldEntryOut_offMap e s)
  unfold State.replaceEntry
  simp only
  split
  · exact out
  · rw [State.settle_alt]
    exact .settled ((out.shelvingEnds _).of_offMap (State.entryIntoForce_offMap e _))

/-! ### ACK_ALL (R134) -/

/-- The cleared records of a list of slots, stubbed: those slots are then to be filled. -/
theorem stubbedAll (l : List SlotNo) {holes : List SlotNo} (h : s.alt.SoundBut holes) (once : l.Nodup)
    (cleared : ∀ i ∈ l, ∃ r, s.alt.record i = some r ∧ r.state = .clearedUnack) :
    (l.foldl (fun s i => s.setAlt (s.alt.stubbed i)) s).alt.SoundBut (l.filter (· != reservedSlot) ++ holes)
      ∧ ∀ n, (l.foldl (fun s i => s.setAlt (s.alt.stubbed i)) s).alt.record n
          = if n ∈ l then none else s.alt.record n := by
  induction l generalizing s holes with
  | nil => exact ⟨h, fun _ => by simp⟩
  | cons i l ih =>
    obtain ⟨out, once⟩ := List.nodup_cons.mp once
    obtain ⟨r, held, state⟩ := cleared i (by simp)
    have fit := h.agrees.fits i r held
    have absent : s.alt.condition r.identity = none := by
      cases c : s.alt.condition r.identity with
      | none => rfl
      | some k => rw [c] at fit; exact absurd state fit.2
    obtain ⟨hole, reserved⟩ := h.stubbed held absent
    have rest (n : SlotNo) (mem : n ∈ l) :
        ∃ r, (s.setAlt (s.alt.stubbed i)).alt.record n = some r ∧ r.state = .clearedUnack := by
      rw [State.setAlt_alt, stubbed_record, if_neg (by rintro rfl; exact out mem)]
      exact cleared n (by simp [mem])
    have records (n : SlotNo) : (if n ∈ l then none else (s.setAlt (s.alt.stubbed i)).alt.record n)
        = if n ∈ i :: l then none else s.alt.record n := by
      rw [State.setAlt_alt, stubbed_record]
      by_cases e : n = i <;> by_cases m : n ∈ l <;> simp [e, m]
    by_cases place : i = reservedSlot
    · obtain ⟨sound, record⟩ := ih (s := s.setAlt (s.alt.stubbed i)) (reserved place) once rest
      refine ⟨?_, fun n => (record n).trans (records n)⟩
      rw [List.filter_cons, if_neg (by simp [place])]
      exact sound
    · obtain ⟨sound, record⟩ := ih (s := s.setAlt (s.alt.stubbed i)) hole once rest
      refine ⟨sound.mono fun n mem => ?_, fun n => (record n).trans (records n)⟩
      rw [List.filter_cons, if_pos (by simpa using place)]
      simpa [or_comm, or_assoc, or_left_comm] using mem

/-- The freed slots promoted into, one after another. -/
theorem promoteAll (l : List SlotNo) (h : s.alt.SoundBut l) (once : l.Nodup)
    (free : ∀ i ∈ l, i ≠ reservedSlot ∧ s.alt.record i = none) :
    (l.foldl (fun s i => s.promote i) s).alt.Sound := by
  induction l generalizing s with
  | nil => exact soundBut_nil_iff.mp h
  | cons i l ih =>
    obtain ⟨out, once⟩ := List.nodup_cons.mp once
    obtain ⟨place, empty⟩ := free i (by simp)
    refine ih (State.promote_sound h empty place) once fun n mem => ?_
    obtain ⟨place', empty'⟩ := free n (by simp [mem])
    refine ⟨place', ?_⟩
    rw [State.promote_record (by rintro rfl; exact out mem) place']
    exact empty'

theorem mem_slotsIn {st : AlarmState} {i : SlotNo} : i ∈ a.slotsIn st ↔ ∃ r, a.record i = some r ∧ r.state = st := by
  cases held : a.record i <;> simp [slotsIn, held]

theorem ackAll (h : s.alt.Sound) : s.ackAll.alt.Sound := by
  have once : (s.alt.slotsIn .clearedUnack).Nodup := (List.nodup_finRange 65).filter _
  obtain ⟨stubs, record⟩ := stubbedAll (s.alt.slotsIn .clearedUnack) (soundBut_nil_iff.mpr h) once
    fun i mem => mem_slotsIn.mp mem
  have retired : (s.retireAll (s.alt.slotsIn .clearedUnack)).alt.Sound := by
    refine promoteAll _ (by simpa using stubs) (once.filter _) fun i mem => ?_
    simp only [List.mem_filter, bne_iff_ne] at mem
    exact ⟨mem.2, by rw [record, if_pos mem.1]⟩
  unfold State.ackAll
  rw [State.settle_alt]
  exact .settled (foldl_holds (P := fun s : State => s.alt.Sound) (fun s i hs => hs.acknowledge .control i) _ retired)

/-! ### Slots as a whole -/

theorem silenced_record (a : AlarmTable) (x : Option Stamp) (n : SlotNo) :
    AlarmTable.record { a with slots := a.slots.map (AlarmSlot.silenced x) } n = (a.record n).map fun r =>
      if r.annunciate then AlarmRecord.touched x { r with annunciate := false } else r := by
  simp only [record, Tbl.get_map, AlarmSlot.silenced]
  cases h : (a.slots.get n).content with
  | live r => by_cases e : r.annunciate = true <;> simp [e, h]
  | free => simp [h]
  | stub id x y => simp [h]

theorem silence (h : a.Sound) (x : Option Stamp) : AlarmTable.Sound { a with slots := a.slots.map (AlarmSlot.silenced x) } :=
  h.rewritten rfl (fun _ r => if r.annunciate then AlarmRecord.touched x { r with annunciate := false } else r)
    (silenced_record a x) (fun _ r => by split <;> rfl) fun _ r _ c fit => by
      split
      · cases c <;> exact fit
      · exact fit

theorem shelfTick_record (a : AlarmTable) (x : Option Stamp) (n : SlotNo) :
    AlarmTable.record { a with slots := a.slots.map (AlarmSlot.shelfTick x) } n
      = (a.record n).map (AlarmRecord.shelfTick x) := by
  simp only [record, Tbl.get_map, AlarmSlot.shelfTick]
  cases h : (a.slots.get n).content <;> simp [h]

theorem shelvingTick (h : a.Sound) (x : Option Stamp) :
    AlarmTable.Sound { a with slots := a.slots.map (AlarmSlot.shelfTick x) } := by
  refine h.rewritten rfl (fun _ => AlarmRecord.shelfTick x) (shelfTick_record a x) (fun _ r => ?_) fun _ r _ c fit => ?_
  · unfold AlarmRecord.shelfTick
    split
    · rfl
    · split <;> rfl
  · unfold AlarmRecord.shelfTick
    split
    · exact fit
    next n shelved =>
      split
      · exact unshelved (by rw [shelved]; rfl) x c fit
      · cases c with
        | none => rw [fit.2] at shelved; cases shelved
        | some k => exact fit

end AlarmTable.Sound

/-- A record with its mark for a port cleared. -/
def AlarmRecord.unmarked : Port → AlarmRecord → AlarmRecord
  | .control, r => { r with markControl := false }
  | .panel, r => { r with markPanel := false }

/-- A modification of places without repeats acts once on each of them. -/
theorem Tbl.get_foldl_modify {α : Type} {n : Nat} (f : α → α) (l : List (Fin n)) (once : l.Nodup) (t : Tbl α n) (i : Fin n) :
    (l.foldl (fun t i => t.modify i f) t).get i = if i ∈ l then f (t.get i) else t.get i := by
  induction l generalizing t with
  | nil => simp
  | cons j l ih =>
    obtain ⟨out, once⟩ := List.nodup_cons.mp once
    rw [List.foldl_cons, ih once, Tbl.get_modify]
    by_cases e : i = j
    · subst e; simp [out]
    · simp [e]

theorem AlarmTable.collect_slots (p : Port) (a : AlarmTable) (n : SlotNo) : (a.collect p).slots.get n
    = if n ∈ (a.marked p).take 6 then (a.slots.get n).collected p else a.slots.get n :=
  Tbl.get_foldl_modify _ _ (((List.nodup_finRange 65).filter _).sublist (List.take_sublist ..)) _ _

/-- The live record of a slot. -/
def AlarmSlot.live (x : AlarmSlot) : Option AlarmRecord :=
  match x.content with
  | .live r => some r
  | .free | .stub _ _ _ => none

theorem AlarmTable.record_eq_live (a : AlarmTable) (n : SlotNo) : a.record n = (a.slots.get n).live := by
  unfold record AlarmSlot.live
  cases (a.slots.get n).content <;> rfl

theorem AlarmSlot.collected_live (p : Port) (x : AlarmSlot) : (x.collected p).live = x.live.map (·.unmarked p) := by
  obtain ⟨g, content⟩ := x
  cases content with
  | free => cases p <;> rfl
  | live r => cases p <;> rfl
  | stub id mc mp => cases p <;> cases mc <;> cases mp <;> rfl

theorem AlarmTable.collect_record (p : Port) (a : AlarmTable) (n : SlotNo) : (a.collect p).record n
    = (a.record n).map fun r => if n ∈ (a.marked p).take 6 then r.unmarked p else r := by
  rw [record_eq_live, record_eq_live, collect_slots]
  split
  · exact AlarmSlot.collected_live ..
  · simp

theorem AlarmTable.Sound.collect {a : AlarmTable} (h : a.Sound) (p : Port) : (a.collect p).Sound := by
  refine h.rewritten rfl (fun n r => if n ∈ (a.marked p).take 6 then r.unmarked p else r) (a.collect_record p)
    (fun n r => ?_) fun n r _ c fit => ?_
  · split
    · cases p <;> rfl
    · rfl
  · split
    · cases p <;> cases c <;> exact fit
    · exact fit

/-! ### The invariant -/

/-- A table without a condition and without a record. -/
theorem emptied_sound {a : AlarmTable} (conditions : ∀ j, a.condition j = none) (records : ∀ n, a.record n = none) :
    a.Sound := by
  have calm : ¬ a.Waits := fun ⟨j, k, found, _⟩ => by rw [conditions] at found; cases found
  refine AlarmTable.sound_iff.mpr ⟨⟨fun i j r r' held => ?_, fun i r held => ?_, fun i r held => ?_, fun j k found => ?_,
    fun k found => ?_, fun w => absurd w calm⟩, iff_of_false ?_ calm⟩
  · rw [records] at held; cases held
  · rw [records] at held; cases held
  · rw [records] at held; cases held
  · rw [conditions] at found; cases found
  · rw [conditions] at found; cases found
  · rw [AlarmTable.isPresent, conditions]; exact nofun

section commands
variable {s : State}

/-- The shift requests write the report notice alone (R146). -/
theorem reportNotice_sound (h : s.alt.Sound) (b : Bool) : (s.reportNotice b).alt.Sound :=
  .settled (AlarmTable.soundBut_nil_iff.mp ((AlarmTable.soundBut_nil_iff.mpr h).congr rfl fun _ => rfl))

theorem alarmTable_releaseShift {p : Port} {f : List Byte} (h : s.alt.Sound) : (ownerReleaseShift p f s).state.alt.Sound := by
  have freed (t : Tally) : (s.freeHeld t).alt.Sound := by
    unfold State.freeHeld
    simp only
    split
    · exact h
    · exact reportNotice_sound (s := s.setShift _) h false
  unfold ownerReleaseShift
  split
  · exact h
  next t _ =>
    repeat' split
    · exact h
    · exact reportNotice_sound (s := { s.freeHeld t with sht := _ }) (freed t) true
    · exact freed t

theorem alarmTable_readShift {p : Port} {f : List Byte} (h : s.alt.Sound) : (ownerReadShift p f s).state.alt.Sound := by
  unfold ownerReadShift
  split
  · exact h
  · split
    · exact h
    · split
      · unfold State.readHeld taken
        simp only
        split
        · exact reportNotice_sound (s := s.setShift _) h false
        · exact h
      · exact h
  · exact h

theorem alarmTable_owner (k : Kind) (p : Port) (f : List Byte) (h : s.alt.Sound) : (ownerOf k p f s).state.alt.Sound := by
  have reports (out : k ∉ Reporting.tableKinds) : (ownerOf k p f s).state.alt.Sound :=
    h.reporting (Reporting.owner k p f s out)
  cases k with
  | ackAlarm =>
    refine withAlarm_state (P := fun t : State => t.alt.Sound) h fun i r _ => ?_
    split
    · exact h
    all_goals exact (h.acknowledge p i).settled
  | ackAll =>
    show (ownerAckAll p f s).state.alt.Sound
    unfold ownerAckAll
    simp only
    split
    · exact h
    · exact h.ackAll
  | shelve =>
    refine withAlarm_state (P := fun t : State => t.alt.Sound) h fun i r held => ?_
    simp only
    split
    · exact h
    · split
      · exact h
      next active =>
        split
        · exact h
        · exact (h.rewrite (r' := AlarmRecord.touched s.sht.stamp { r with
            shelvedUntil := some (60 * min Config.shelveMax (field f 2 2)) }) held rfl
            (AlarmTable.Sound.active active active)).settled
  | unshelve =>
    refine withAlarm_state (P := fun t : State => t.alt.Sound) h fun i r held => ?_
    split
    · exact h
    next shelved =>
      exact (h.rewrite (r' := r.unshelved s.sht.stamp) held rfl (AlarmTable.Sound.unshelved (by simpa [Option.isSome_iff_ne_none] using shelved) _)).settled
  | silence =>
    show (ownerSilence p f s).state.alt.Sound
    unfold ownerSilence
    split
    · exact (h.silence _).settled
    · exact h
  | collectAlarms =>
    show (s.setAlt (s.alt.collect p)).settle.alt.Sound
    exact (h.collect p).settled
  | setTripEntry =>
    show (ownerSetTripEntry p f s).state.alt.Sound
    unfold ownerSetTripEntry
    repeat' split
    any_goals exact h
    exact h.replaceEntry _ _
  | shiftClose =>
    show (ownerShiftClose p f s).state.alt.Sound
    unfold ownerShiftClose
    split
    · exact h
    · exact reportNotice_sound (s := { s with sht := _ }) h true
  | releaseShift => exact alarmTable_releaseShift (p := p) (f := f) h
  | correctShift =>
    show (ownerCorrectShift p f s).state.alt.Sound
    unfold ownerCorrectShift
    repeat' split
    all_goals exact h
  | readShift => exact alarmTable_readShift (p := p) (f := f) h
  | warmRestart =>
    show (ownerWarmRestart p f s).state.alt.Sound
    simp only [ownerWarmRestart, taken]
    exact .reporting (Reporting.warmResent s) (emptied_sound (fun _ => by
      simp [State.reportNotice, State.settle, AlarmTable.settled, State.blocksWarm, AlarmTable.warm, AlarmTable.condition])
      fun _ => by simp [State.reportNotice, State.settle, AlarmTable.settled, State.blocksWarm, AlarmTable.warm,
        AlarmTable.record])
  | _ => exact reports (of_decide_eq_true rfl)

theorem alarmTable_event (e : Event) (h : s.alt.Sound) : (e.run s).alt.Sound := by
  have reports (ordinary : e.rewrites = false) : (e.run s).alt.Sound := h.reporting (Reporting.event e s ordinary)
  cases e with
  | halt ph =>
    exact AlarmTable.soundBut_nil_iff.mp ((AlarmTable.soundBut_nil_iff.mpr h).congr rfl fun _ => rfl)
  | start x =>
    show (s.start x).alt.Sound
    exact .reporting (Reporting.started x s) (emptied_sound (fun _ => by
      simp [State.fresh, AlarmTable.start, AlarmTable.condition]) fun _ => by
      simp [State.fresh, AlarmTable.start, AlarmTable.record])
  | shelvingTick => exact (h.shelvingTick _).settled
  | shelfEnds i =>
    show (s.shelfEnds i).alt.Sound
    unfold State.shelfEnds
    split
    · exact h
    next r held =>
      split
      next ends =>
        refine (h.rewrite (r' := r.unshelved s.sht.stamp) held rfl (AlarmTable.Sound.unshelved ?_ _)).settled
        cases shelved : r.shelvedUntil with
        | none => rw [shelved] at ends; cases ends
        | some n => rfl
      next => exact h
  | shiftSecond =>
    show s.shiftSecond.alt.Sound
    unfold State.shiftSecond
    simp only
    split
    · exact h
    · split
      · unfold State.boundary
        split
        · exact reportNotice_sound (s := { s with sht := _ }) h true
        · exact h
      · exact h
  | _ => exact reports rfl

end commands

theorem kept_alarmTableSound : Kept fun s => s.alt.Sound where
  ports s t same h := by rw [same]; exact h
  owner k p f s _ h := alarmTable_owner k p f h
  event e s _ h := alarmTable_event e h

end Sys2Proof.Machine
end

section
/-!
Proofs. What the trip map does to the channels (R52, R56, R141, R142): the effect of each operation on a channel's
record, setpoint, target and feeder, in closed form.
-/
set_option Elab.async false

namespace Sys2Proof.Machine

/-- What the state holds of one channel: its record, its setpoint and target, its feeder. -/
structure ChannelUnit where
  chan     : ChannelRecord
  setpoint : Nat
  target   : Nat
  feeder   : FeederBlock

def State.unit (s : State) (c : Chan) : ChannelUnit := ⟨s.chan c, s.setpoint c, s.fsc.target.get c, s.feeder c⟩

/-- A channel's record after hold and trip actions of an identity's entries: the hold is listed and freezes, the trip
ends an active state. -/
def ChannelRecord.acted (id : Identity) (hold trip : Bool) (r : ChannelRecord) : ChannelRecord :=
  let stops := hold && (r.state == .starting || r.state == .running)
  let trips := trip && r.state.active
  { r with
    alarmHolds := if hold && !r.alarmHolds.contains id then r.alarmHolds ++ [id] else r.alarmHolds
    holds := { r.holds with alarm := r.holds.alarm || hold }
    state := if trips then .tripped else if stops then .holding else r.state
    startTimer := if trips || stops then none else r.startTimer
    tripCause := if trips then some (.alarm id) else r.tripCause }

def ChannelUnit.acted (id : Identity) (hold trip : Bool) (u : ChannelUnit) : ChannelUnit :=
  let trips := trip && u.chan.state.active
  { chan := u.chan.acted id hold trip
    setpoint := if trips then 0 else u.setpoint
    target := if trips then 0 else u.target
    feeder := if trips then u.feeder.zeroed else u.feeder }

/-- A channel's record after the release of an identity's hold: the identity leaves the list, and the last cause
resumes a holding channel. -/
def ChannelRecord.freed (id : Identity) (r : ChannelRecord) : ChannelRecord :=
  let left := r.alarmHolds.erase id
  let resumes := r.state == .holding && !r.holds.operator && !r.holds.controlLost && left.isEmpty
  { r with
    alarmHolds := left
    holds := { r.holds with alarm := !left.isEmpty }
    state := if resumes then .running else r.state
    startTimer := if resumes then none else r.startTimer }

def ChannelUnit.freed (id : Identity) (u : ChannelUnit) : ChannelUnit :=
  let r := u.chan.freed id
  let raised := r.state == .running && u.chan.state == .holding && u.setpoint < r.minFlow
  { chan := r
    setpoint := if raised then r.minFlow else u.setpoint
    target := u.target
    feeder := if raised then { u.feeder with pendingRate := rateOf u.feeder r.minFlow } else u.feeder }

/-- A channel's entry to CH_RUNNING (R48). -/
def ChannelUnit.run (u : ChannelUnit) : ChannelUnit :=
  { u with
    chan := { u.chan with state := .running, startTimer := none }
    setpoint := max u.setpoint u.chan.minFlow
    feeder := if u.setpoint < u.chan.minFlow then { u.feeder with pendingRate := rateOf u.feeder u.chan.minFlow }
      else u.feeder }

/-- A holding channel whose hold causes are gone runs again (R51). -/
def ChannelUnit.resumed (u : ChannelUnit) : ChannelUnit :=
  if u.chan.state = .holding ∧ u.chan.holds.isEmpty then u.run else u

/-- The release where the identity is listed. -/
def ChannelUnit.released (id : Identity) (b : Bool) (u : ChannelUnit) : ChannelUnit :=
  if b && u.chan.alarmHolds.contains id then u.freed id else u

/-- Whether an action trips a channel at a location. -/
def TripAction.trips (a : TripAction) (c : Chan) (l : Location) : Bool :=
  a == .tripChannel c || a == .tripLocation l || a == .tripAll

/-- Whether an action holds a channel. -/
def TripAction.stops (a : TripAction) (c : Chan) : Bool := a == .holdChannel c

section action
variable (c d : Chan) (l m : Location)

@[simp] theorem TripAction.stops_holdChannel : (TripAction.holdChannel d).stops c = decide (d = c) := by
  rw [stops, Bool.eq_iff_iff]; simp
@[simp] theorem TripAction.stops_tripChannel : (TripAction.tripChannel d).stops c = false := rfl
@[simp] theorem TripAction.stops_tripLocation : (TripAction.tripLocation m).stops c = false := rfl
@[simp] theorem TripAction.stops_tripAll : TripAction.tripAll.stops c = false := rfl
@[simp] theorem TripAction.trips_holdChannel : (TripAction.holdChannel d).trips c l = false := rfl
@[simp] theorem TripAction.trips_tripChannel : (TripAction.tripChannel d).trips c l = decide (d = c) := by
  rw [trips, Bool.eq_iff_iff]; simp
@[simp] theorem TripAction.trips_tripLocation : (TripAction.tripLocation m).trips c l = decide (m = l) := by
  rw [trips, Bool.eq_iff_iff]; simp
@[simp] theorem TripAction.trips_tripAll : TripAction.tripAll.trips c l = true := by rw [trips, Bool.eq_iff_iff]; simp

end action

/-! ### Actions compose -/

section unit
variable {id : Identity} {u : ChannelUnit}

@[simp] theorem ChannelRecord.acted_config (hold trip : Bool) (r : ChannelRecord) :
    (r.acted id hold trip).config = r.config := rfl

@[simp] theorem ChannelRecord.freed_config (r : ChannelRecord) : (r.freed id).config = r.config := rfl

@[simp] theorem ChannelUnit.acted_none : u.acted id false false = u := by
  simp [ChannelUnit.acted, ChannelRecord.acted]

theorem ChannelRecord.acted_state (hold trip : Bool) (r : ChannelRecord) : (r.acted id hold trip).state
    = if trip && r.state.active then .tripped
      else if hold && (r.state == .starting || r.state == .running) then .holding else r.state := rfl

theorem ChannelRecord.acted_active (hold trip : Bool) (r : ChannelRecord) :
    (r.acted id hold trip).state.active = (r.state.active && !trip) := by
  rw [acted_state]
  cases r.state <;> cases hold <;> cases trip <;> rfl

/-- Entries of one identity act together as each in turn. -/
theorem ChannelUnit.acted_acted (h h' t t' : Bool) :
    (u.acted id h t).acted id h' t' = u.acted id (h || h') (t || t') := by
  obtain ⟨r, p, g, b⟩ := u
  have record : (r.acted id h t).acted id h' t' = r.acted id (h || h') (t || t') := by
    obtain ⟨config, limits, calibration, state, holds, listed, cause, timer, fed, debited, unassigned⟩ := r
    simp only [ChannelRecord.acted, ChannelRecord.mk.injEq, Bool.or_assoc, true_and, and_true]
    refine ⟨?_, ?_, ?_, ?_⟩
    · cases state <;> cases h <;> cases t <;> cases h' <;> cases t' <;> rfl
    · cases h <;> cases h' <;> by_cases m : id ∈ listed <;> simp [m]
    · cases state <;> cases h <;> cases t <;> cases h' <;> cases t' <;> rfl
    · cases state <;> cases h <;> cases t <;> cases h' <;> cases t' <;> rfl
  simp only [ChannelUnit.acted, record, ChannelRecord.acted_active]
  cases r.state.active <;> cases t <;> cases t' <;> simp [FeederBlock.zeroed]

theorem ChannelUnit.released_none : u.released id false = u := by simp [ChannelUnit.released]

@[simp] theorem ChannelUnit.released_config (b : Bool) : (u.released id b).chan.config = u.chan.config := by
  unfold released
  split <;> rfl

theorem ChannelUnit.released_nodup (once : u.chan.alarmHolds.Nodup) (b : Bool) :
    (u.released id b).chan.alarmHolds.Nodup := by
  unfold released
  split
  · exact once.erase id
  · exact once

theorem ChannelUnit.released_of_not_mem (out : id ∉ u.chan.alarmHolds) (b : Bool) : u.released id b = u := by
  unfold released
  rw [if_neg (by simp [out])]

theorem ChannelUnit.released_released (once : u.chan.alarmHolds.Nodup) (b b' : Bool) :
    (u.released id b).released id b' = u.released id (b || b') := by
  cases b with
  | false => rw [released_none, Bool.false_or]
  | true =>
    by_cases m : id ∈ u.chan.alarmHolds
    · have freed : u.released id true = u.freed id := by simp [released, m]
      have out : id ∉ (u.freed id).chan.alarmHolds := once.not_mem_erase
      rw [Bool.true_or, freed, released_of_not_mem out]
    · simp [released, m]

end unit

/-! ### Single operations -/

section units
variable {s : State}

theorem State.unit_congr {s t : State} {c : Chan} (chan : t.chan c = s.chan c) (fsc : t.fsc = s.fsc)
    (feeder : t.feeder c = s.feeder c) : t.unit c = s.unit c := by
  simp only [unit, chan, setpoint, fsc, feeder]

@[simp] theorem State.setAlt_unit (a : AlarmTable) (c : Chan) : (s.setAlt a).unit c = s.unit c := rfl
@[simp] theorem State.settle_unit (c : Chan) : s.settle.unit c = s.unit c := rfl
@[simp] theorem State.cameNotice_unit (x : Priority) (c : Chan) : (s.cameNotice x).unit c = s.unit c := rfl
@[simp] theorem State.setInForce_unit (e : EntryNo) (b : Bool) (c : Chan) : (s.setInForce e b).unit c = s.unit c := rfl

theorem State.holdAction_unit (c d : Chan) (id : Identity) :
    (s.holdAction c id).unit d = if d = c then (s.unit c).acted id true false else s.unit d := by
  have chan : (s.holdAction c id).chan d = if d = c then (s.chan c).acted id true false else s.chan d := by
    unfold State.holdAction
    rw [State.freeze_chan, State.setChan_chan_self, State.setChan_chan]
    by_cases e : d = c
    · subst e
      cases h : (s.chan d).state <;> by_cases m : id ∈ (s.chan d).alarmHolds <;> simp [ChannelRecord.acted, h, m]
    · simp [e]
  have fsc : (s.holdAction c id).fsc = s.fsc := by simp [State.holdAction]
  have fdi : (s.holdAction c id).fdi = s.fdi := by simp [State.holdAction]
  simp only [State.unit, State.setpoint, State.feeder, chan, fsc, fdi]
  split
  next e => subst e; simp [ChannelUnit.acted]
  next => rfl

theorem State.trip_unit (c d : Chan) (id : Identity) :
    (s.trip c (.alarm id)).unit d = if d = c then (s.unit c).acted id false true else s.unit d := by
  have taken (active : (s.chan c).state.active = true) : (s.tripTaken c (.alarm id)).unit d
      = if d = c then (s.unit c).acted id false true else s.unit d := by
    simp only [State.unit, State.tripTaken_chan, State.tripTaken_setpoint, State.tripTaken_target, State.tripTaken_feeder]
    split
    next e => simp [ChannelUnit.acted, ChannelRecord.acted, active]
    next => rfl
  have idle (not : (s.chan c).state.active = false) : s.unit d
      = if d = c then (s.unit c).acted id false true else s.unit d := by
    split
    next e =>
      subst e
      simp [State.unit, ChannelUnit.acted, ChannelRecord.acted, not]
    next => rfl
  unfold State.trip
  split
  next h => exact idle (by rw [h]; rfl)
  next h => exact idle (by rw [h]; rfl)
  all_goals
    next h => exact taken (by rw [h]; rfl)

/-- The action of an entry, channel by channel (Table 7.6). -/
theorem State.tripAction_unit (r : TripRule) (c : Chan) : (s.tripAction r).unit c = (s.unit c).acted r.identity
    (r.action.stops c) (r.action.trips c (s.chan c).config.location) := by
  obtain ⟨id, min, action⟩ := r
  unfold State.tripAction
  cases action with
  | holdChannel d =>
    simp only [State.holdAction_unit]
    by_cases e : c = d
    · subst e; simp
    · simp [e, Ne.symm e]
  | tripChannel d =>
    simp only [State.trip_unit]
    by_cases e : c = d
    · subst e; simp
    · simp [e, Ne.symm e]
  | tripLocation l =>
    simp only
    rw [foldl_chans State.unit _ (fun _ u => if u.chan.config.location = l then u.acted id false true else u) (fun s c d => ?_)
      allChans allChans_nodup, if_pos (mem_allChans c)]
    · by_cases e : (s.chan c).config.location = l
      · simp [State.unit, e]
      · simp [State.unit, e, Ne.symm e]
    · show State.unit (if (s.chan c).config.location = l then _ else s) d = _
      by_cases e : (s.chan c).config.location = l
      · rw [if_pos e, State.trip_unit]
        split
        next => rw [if_pos (by exact e)]
        next => rfl
      · rw [if_neg e]
        split
        next f => subst f; rw [if_neg (by exact e)]
        next => rfl
  | tripAll =>
    simp only
    rw [foldl_chans State.unit _ (fun _ u => u.acted id false true) (fun s c d => State.trip_unit c d id)
      allChans allChans_nodup, if_pos (mem_allChans c)]
    simp

theorem State.enterRunning_unit (c d : Chan) :
    (s.enterRunning c).unit d = if d = c then (s.unit c).run else s.unit d := by
  simp only [State.unit, State.enterRunning_chan, State.enterRunning_setpoint, State.enterRunning_target,
    State.enterRunning_feeder]
  by_cases e : d = c
  · subst e
    by_cases below : s.setpoint d < (s.chan d).minFlow <;> simp [ChannelUnit.run, below, Nat.le_of_lt, Nat.le_of_not_lt]
  · simp [e]

theorem State.resume_unit (c d : Chan) : (s.resume c).unit d = if d = c then (s.unit c).resumed else s.unit d := by
  unfold State.resume ChannelUnit.resumed
  split
  next h =>
    rw [State.enterRunning_unit, if_pos (show (s.unit c).chan.state = .holding ∧ (s.unit c).chan.holds.isEmpty from h)]
  next h =>
    rw [if_neg (show ¬ ((s.unit c).chan.state = .holding ∧ (s.unit c).chan.holds.isEmpty) from h)]
    split
    next e => rw [e]
    next => rfl

theorem State.setChan_unit (c d : Chan) (r : ChannelRecord) :
    (s.setChan c r).unit d = if d = c then { s.unit c with chan := r } else s.unit d := by
  simp only [State.unit, State.setChan_chan, State.setChan_setpoint, State.setChan_fsc, State.setChan_feeder]
  split
  next e => rw [e]
  next => rfl

/-- The release is the end of the listing, and the resumption that it allows. -/
theorem ChannelUnit.freed_eq_resumed (id : Identity) (u : ChannelUnit) : u.freed id = ChannelUnit.resumed { u with
    chan := { u.chan with
      alarmHolds := u.chan.alarmHolds.erase id
      holds := { u.chan.holds with alarm := !(u.chan.alarmHolds.erase id).isEmpty } } } := by
  have flow : (u.chan.freed id).minFlow = u.chan.minFlow := rfl
  have resumes : (u.chan.state = .holding ∧ HoldCauses.isEmpty { u.chan.holds with
      alarm := !(u.chan.alarmHolds.erase id).isEmpty } = true) ↔
      (u.chan.state == .holding && !u.chan.holds.operator && !u.chan.holds.controlLost
        && (u.chan.alarmHolds.erase id).isEmpty) = true := by
    simp [HoldCauses.isEmpty]
    tauto
  unfold resumed
  split
  next h =>
    have state : u.chan.state = .holding := h.1
    have now := resumes.mp h
    have record : u.chan.freed id = { u.chan with
        alarmHolds := u.chan.alarmHolds.erase id
        holds := { u.chan.holds with alarm := !(u.chan.alarmHolds.erase id).isEmpty }
        state := .running, startTimer := none } := by
      simp only [ChannelRecord.freed, now, if_true]
    have raised : ((u.chan.freed id).state == .running && u.chan.state == .holding
        && decide (u.setpoint < (u.chan.freed id).minFlow)) = decide (u.setpoint < u.chan.minFlow) := by
      rw [flow, record, state]
      rfl
    simp only [ChannelUnit.freed]
    rw [raised, flow, record]
    show (⟨_, if decide (u.setpoint < u.chan.minFlow) then u.chan.minFlow else u.setpoint, _, _⟩ : ChannelUnit)
      = ⟨_, max u.setpoint u.chan.minFlow, _, if u.setpoint < u.chan.minFlow then _ else _⟩
    by_cases below : u.setpoint < u.chan.minFlow
    · simp only [below, decide_true, if_true, max_eq_right (Nat.le_of_lt below)]
      exact congrArg (ChannelUnit.mk _ _ _) (by rfl)
    · simp [below, Nat.le_of_not_lt]
  next h =>
    have now : (u.chan.state == .holding && !u.chan.holds.operator && !u.chan.holds.controlLost
        && (u.chan.alarmHolds.erase id).isEmpty) = false := by
      rw [← Bool.not_eq_true, ← resumes]
      exact h
    have record : u.chan.freed id = { u.chan with
        alarmHolds := u.chan.alarmHolds.erase id
        holds := { u.chan.holds with alarm := !(u.chan.alarmHolds.erase id).isEmpty } } := by
      simp only [ChannelRecord.freed, now, Bool.false_eq_true, if_false]
    have stays : (u.chan.state == .running && u.chan.state == .holding) = false := by
      cases u.chan.state <;> rfl
    simp only [ChannelUnit.freed, record, stays, Bool.false_and, Bool.false_eq_true, if_false]

theorem State.holdRelease_unit (c d : Chan) (id : Identity) :
    (s.holdRelease c id).unit d = if d = c then (s.unit c).released id true else s.unit d := by
  unfold State.holdRelease
  simp only
  split
  next listed =>
    rw [State.resume_unit, State.setChan_unit, if_pos rfl, State.setChan_unit]
    split
    next e =>
      have mem : id ∈ (s.unit c).chan.alarmHolds := listed
      rw [ChannelUnit.released, if_pos (by simp [mem]), ChannelUnit.freed_eq_resumed]
      rfl
    next => rfl
  next out =>
    split
    next e =>
      subst e
      exact (ChannelUnit.released_of_not_mem out true).symm
    next => rfl

end units

/-! ### Entries into force (R141) -/

/-- Whether an entry not in force names an identity, at a level that meets its minimum, with an action. -/
def AlarmTable.comesDue (a : AlarmTable) (id : Identity) (e : EntryNo) (p : TripAction → Bool) : Bool :=
  !(a.tripMap.get e).inForce
    && (a.tripMap.get e).rule.any fun r => r.identity == id && a.meets r && p r.action

/-- Whether an entry in force names an identity, with an action. -/
def AlarmTable.goesDue (a : AlarmTable) (id : Identity) (e : EntryNo) (p : TripAction → Bool) : Bool :=
  (a.tripMap.get e).inForce && (a.tripMap.get e).rule.any fun r => r.identity == id && p r.action

theorem AlarmTable.meets_of_offMap {a b : AlarmTable} (h : b.offMap = a.offMap) (r : TripRule) : b.meets r = a.meets r := by
  simp only [meets, condition_of_offMap h]

theorem AlarmTable.comesDue_congr {a b : AlarmTable} {e : EntryNo} (h : b.offMap = a.offMap)
    (entry : b.tripMap.get e = a.tripMap.get e) (id : Identity) (p : TripAction → Bool) :
    b.comesDue id e p = a.comesDue id e p := by
  simp only [comesDue, entry, meets_of_offMap h]

theorem AlarmTable.goesDue_congr {a b : AlarmTable} {e : EntryNo} (entry : b.tripMap.get e = a.tripMap.get e)
    (id : Identity) (p : TripAction → Bool) : b.goesDue id e p = a.goesDue id e p := by
  simp only [goesDue, entry]

theorem State.setInForce_entry (e o : EntryNo) (b : Bool) (s : State) : (s.setInForce e b).alt.tripMap.get o
    = if o = e then { s.alt.tripMap.get e with inForce := b } else s.alt.tripMap.get o := Tbl.get_modify ..

section force
variable {s : State} {id : Identity}

/-- One entry of an identity, brought into force where it is due. -/
theorem State.entryIntoForce_effect (e : EntryNo) {r : TripRule} (rule : (s.alt.tripMap.get e).rule = some r) :
    (∀ c, (s.entryIntoForce e).unit c = (s.unit c).acted r.identity (s.alt.comesDue r.identity e (·.stops c))
        (s.alt.comesDue r.identity e (·.trips c (s.chan c).config.location)))
      ∧ ∀ o, (s.entryIntoForce e).alt.tripMap.get o = if o = e then { s.alt.tripMap.get e with
          inForce := (s.alt.tripMap.get e).inForce || s.alt.comesDue r.identity e fun _ => true }
        else s.alt.tripMap.get o := by
  unfold State.entryIntoForce
  rw [rule]
  simp only
  split
  next due =>
    obtain ⟨out, meets⟩ := due
    refine ⟨fun c => ?_, fun o => ?_⟩
    · rw [State.tripAction_unit, State.setInForce_unit]
      simp [AlarmTable.comesDue, rule, out, meets]
    · rw [State.tripAction_alt, State.setInForce_entry]
      simp [AlarmTable.comesDue, rule, out, meets]
  next notDue =>
    have never (p : TripAction → Bool) : s.alt.comesDue r.identity e p = false := by
      rw [← Bool.not_eq_true]
      intro h
      simp only [AlarmTable.comesDue, rule, Option.any_some, Bool.and_eq_true, Bool.not_eq_true'] at h
      exact notDue ⟨h.1, h.2.1.2⟩
    refine ⟨fun c => ?_, fun o => ?_⟩
    · rw [never, never, ChannelUnit.acted_none]
    · rw [never, Bool.or_false]
      split
      next e => rw [e]
      next => rfl

/-- The entries of an identity in a list without repeats, each brought into force where it is due. -/
theorem State.foldl_intoForce_effect (l : List EntryNo) (once : l.Nodup) (s : State) :
    let t := l.foldl (fun s e => if (s.alt.tripMap.get e).rule.any (fun r => r.identity == id) then s.entryIntoForce e
      else s) s
    (∀ c, t.unit c = (s.unit c).acted id (l.any fun e => s.alt.comesDue id e (·.stops c))
        (l.any fun e => s.alt.comesDue id e (·.trips c (s.chan c).config.location)))
      ∧ ∀ o, t.alt.tripMap.get o = { s.alt.tripMap.get o with
          inForce := (s.alt.tripMap.get o).inForce || (decide (o ∈ l) && s.alt.comesDue id o fun _ => true) } := by
  induction l generalizing s with
  | nil => simp
  | cons e l ih =>
    obtain ⟨out, once⟩ := List.nodup_cons.mp once
    have step : ∃ t, t = (if (s.alt.tripMap.get e).rule.any (fun r => r.identity == id) then s.entryIntoForce e else s)
        ∧ (∀ c, t.unit c = (s.unit c).acted id (s.alt.comesDue id e (·.stops c))
          (s.alt.comesDue id e (·.trips c (s.chan c).config.location)))
        ∧ (∀ o, t.alt.tripMap.get o = if o = e then { s.alt.tripMap.get e with
            inForce := (s.alt.tripMap.get e).inForce || s.alt.comesDue id e fun _ => true }
          else s.alt.tripMap.get o)
        ∧ t.alt.offMap = s.alt.offMap := by
      refine ⟨_, rfl, ?_⟩
      split
      next own =>
        obtain ⟨r, rule, same⟩ := (Option.any_eq_true ..).mp own
        obtain rfl := eq_of_beq same
        obtain ⟨unit, entry⟩ := s.entryIntoForce_effect e rule
        exact ⟨unit, entry, State.entryIntoForce_offMap e s⟩
      next other =>
        have never (p : TripAction → Bool) : s.alt.comesDue id e p = false := by
          rw [← Bool.not_eq_true]
          intro h
          simp only [AlarmTable.comesDue, Bool.and_eq_true, Option.any_eq_true] at h
          obtain ⟨-, r, rule, ⟨same, -⟩, -⟩ := h
          exact other (by rw [rule]; exact same)
        refine ⟨fun c => by rw [never, never, ChannelUnit.acted_none], fun o => ?_, rfl⟩
        rw [never, Bool.or_false]
        split
        next f => rw [f]
        next => rfl
    obtain ⟨t, ht, unit, entry, offMap⟩ := step
    have kept {o : EntryNo} (ne : o ≠ e) : t.alt.tripMap.get o = s.alt.tripMap.get o := by rw [entry, if_neg ne]
    have due (o : EntryNo) (ne : o ≠ e) (p : TripAction → Bool) : t.alt.comesDue id o p = s.alt.comesDue id o p :=
      AlarmTable.comesDue_congr offMap (kept ne) id p
    have any (p : TripAction → Bool) : (l.any fun o => t.alt.comesDue id o p) = l.any fun o => s.alt.comesDue id o p := by
      rw [Bool.eq_iff_iff]
      simp only [List.any_eq_true]
      exact exists_congr fun o => and_congr_right fun mem => by rw [due o (by rintro rfl; exact out mem)]
    have location (c : Chan) : (t.chan c).config.location = (s.chan c).config.location :=
      congrArg (fun u => u.chan.config.location) (unit c)
    obtain ⟨units, entries⟩ := ih once t
    simp only [List.foldl_cons, ← ht]
    refine ⟨fun c => ?_, fun o => ?_⟩
    · rw [units, unit, ChannelUnit.acted_acted, any, any, location, List.any_cons, List.any_cons]
    · rw [entries]
      by_cases f : o = e
      · subst f
        rw [entry, if_pos rfl]
        simp [out]
      · rw [kept f, due o f]
        simp [f]

/-! ### Entries out of force (R141) -/

/-- One entry of an identity, taken out of force. -/
theorem State.entryOutOfForce_effect (e : EntryNo) {r : TripRule} (rule : (s.alt.tripMap.get e).rule = some r) :
    (∀ c, (s.entryOutOfForce e).unit c = (s.unit c).released r.identity (s.alt.goesDue r.identity e (·.stops c)))
      ∧ ∀ o, (s.entryOutOfForce e).alt.tripMap.get o = if o = e then { s.alt.tripMap.get e with
          inForce := (s.alt.tripMap.get e).inForce && !s.alt.goesDue r.identity e fun _ => true }
        else s.alt.tripMap.get o := by
  unfold State.entryOutOfForce
  split
  next id m c entry =>
    rw [entry] at rule
    cases rule
    refine ⟨fun d => ?_, fun o => ?_⟩
    · rw [State.holdRelease_unit, State.setInForce_unit]
      by_cases f : d = c
      · subst f
        simp [AlarmTable.goesDue, entry]
      · simp [AlarmTable.goesDue, entry, f, Ne.symm f, ChannelUnit.released_none]
    · rw [State.holdRelease_alt, State.setInForce_entry]
      simp [AlarmTable.goesDue, entry]
  next x other entry =>
    rw [entry] at rule
    cases rule
    refine ⟨fun d => ?_, fun o => ?_⟩
    · have never : s.alt.goesDue r.identity e (·.stops d) = false := by
        obtain ⟨id, m, action⟩ := r
        cases action with
        | holdChannel c => exact absurd rfl (other id m c)
        | _ => simp [AlarmTable.goesDue, entry]
      rw [never, ChannelUnit.released_none, State.setInForce_unit]
    · rw [State.setInForce_entry]
      simp [AlarmTable.goesDue, entry]
  next x entry =>
    rw [entry] at rule
    cases rule
    refine ⟨fun d => ?_, fun o => ?_⟩
    · simp [AlarmTable.goesDue, entry, ChannelUnit.released_none]
    · split
      next f => rw [f]; simp [AlarmTable.goesDue, entry]
      next => rfl

/-- The entries of an identity in a list without repeats, each taken out of force. -/
theorem State.foldl_outOfForce_effect (l : List EntryNo) (once : l.Nodup) (s : State)
    (single : ∀ c, (s.chan c).alarmHolds.Nodup) :
    let t := l.foldl (fun s e => if (s.alt.tripMap.get e).rule.any (fun r => r.identity == id) then s.entryOutOfForce e
      else s) s
    (∀ c, t.unit c = (s.unit c).released id (l.any fun e => s.alt.goesDue id e (·.stops c)))
      ∧ ∀ o, t.alt.tripMap.get o = { s.alt.tripMap.get o with
          inForce := (s.alt.tripMap.get o).inForce && !(decide (o ∈ l) && s.alt.goesDue id o fun _ => true) } := by
  induction l generalizing s with
  | nil => simp [ChannelUnit.released_none]
  | cons e l ih =>
    obtain ⟨out, once⟩ := List.nodup_cons.mp once
    have step : ∃ t, t = (if (s.alt.tripMap.get e).rule.any (fun r => r.identity == id) then s.entryOutOfForce e else s)
        ∧ (∀ c, t.unit c = (s.unit c).released id (s.alt.goesDue id e (·.stops c)))
        ∧ (∀ o, t.alt.tripMap.get o = if o = e then { s.alt.tripMap.get e with
            inForce := (s.alt.tripMap.get e).inForce && !s.alt.goesDue id e fun _ => true }
          else s.alt.tripMap.get o) := by
      refine ⟨_, rfl, ?_⟩
      split
      next own =>
        obtain ⟨r, rule, same⟩ := (Option.any_eq_true ..).mp own
        obtain rfl := eq_of_beq same
        exact s.entryOutOfForce_effect e rule
      next other =>
        have never (p : TripAction → Bool) : s.alt.goesDue id e p = false := by
          rw [← Bool.not_eq_true]
          intro h
          simp only [AlarmTable.goesDue, Bool.and_eq_true, Option.any_eq_true] at h
          obtain ⟨-, r, rule, same, -⟩ := h
          exact other (by rw [rule]; exact same)
        refine ⟨fun c => by rw [never, ChannelUnit.released_none], fun o => ?_⟩
        rw [never, Bool.not_false, Bool.and_true]
        split
        next f => rw [f]
        next => rfl
    obtain ⟨t, ht, unit, entry⟩ := step
    have kept {o : EntryNo} (ne : o ≠ e) : t.alt.tripMap.get o = s.alt.tripMap.get o := by rw [entry, if_neg ne]
    have due (o : EntryNo) (ne : o ≠ e) (p : TripAction → Bool) : t.alt.goesDue id o p = s.alt.goesDue id o p :=
      AlarmTable.goesDue_congr (kept ne) id p
    have any (p : TripAction → Bool) : (l.any fun o => t.alt.goesDue id o p) = l.any fun o => s.alt.goesDue id o p := by
      rw [Bool.eq_iff_iff]
      simp only [List.any_eq_true]
      exact exists_congr fun o => and_congr_right fun mem => by rw [due o (by rintro rfl; exact out mem)]
    have single' (c : Chan) : (t.chan c).alarmHolds.Nodup := by
      have h : (t.unit c).chan.alarmHolds.Nodup := by
        rw [unit]
        exact ChannelUnit.released_nodup (single c) _
      exact h
    obtain ⟨units, entries⟩ := ih once t single'
    simp only [List.foldl_cons, ← ht]
    refine ⟨fun c => ?_, fun o => ?_⟩
    · rw [units, unit, ChannelUnit.released_released (single c), any, List.any_cons]
    · rw [entries]
      by_cases f : o = e
      · subst f
        rw [entry, if_pos rfl]
        simp [out]
      · rw [kept f, due o f]
        simp [f]

end force

/-! ### Reports -/

/-- Whether an entry not in force names an identity with an action, its minimum met by a level (R141). -/
def AlarmTable.dueAt (a : AlarmTable) (id : Identity) (l : Option Level) (e : EntryNo) (p : TripAction → Bool) : Bool :=
  !(a.tripMap.get e).inForce
    && (a.tripMap.get e).rule.any fun r => r.identity == id && (r.minLevel == .any || l == some .crit) && p r.action

theorem MinLevel.metBy_eq (m : MinLevel) (l : Option Level) : m.metBy l = (m == .any || l == some .crit) := by
  cases m with
  | any => rfl
  | crit =>
    cases l with
    | none => rfl
    | some x => cases x <;> rfl

theorem AlarmTable.comesDue_eq_dueAt {a b : AlarmTable} {id : Identity} {k : Condition} {l : Option Level}
    (map : b.tripMap = a.tripMap) (present : b.condition id = some k) (level : k.level = l) (e : EntryNo)
    (p : TripAction → Bool) : b.comesDue id e p = a.dueAt id l e p := by
  simp only [comesDue, dueAt, map]
  congr 1
  cases (a.tripMap.get e).rule with
  | none => rfl
  | some r =>
    simp only [Option.any_some]
    by_cases same : r.identity = id
    · rw [meets, same, present, Option.any_some, MinLevel.metBy_eq, level]
    · simp only [beq_false_of_ne same, Bool.false_and]

/-- The effect of a report that leaves an identity present at a level (R141). -/
structure EntersForce (id : Identity) (l : Option Level) (s t : State) : Prop where
  entry : ∀ e, t.alt.tripMap.get e = { s.alt.tripMap.get e with
    inForce := (s.alt.tripMap.get e).inForce || s.alt.dueAt id l e fun _ => true }
  unit  : ∀ c, t.unit c = (s.unit c).acted id ((List.finRange 16).any fun e => s.alt.dueAt id l e (·.stops c))
    ((List.finRange 16).any fun e => s.alt.dueAt id l e (·.trips c (s.chan c).config.location))

/-- The effect of a report that takes an identity away (R141). -/
structure LeavesForce (id : Identity) (s t : State) : Prop where
  entry : ∀ e, t.alt.tripMap.get e = { s.alt.tripMap.get e with
    inForce := (s.alt.tripMap.get e).inForce && !s.alt.goesDue id e fun _ => true }
  unit  : ∀ c, t.unit c = (s.unit c).released id ((List.finRange 16).any fun e => s.alt.goesDue id e (·.stops c))

section reports
variable {s : State} {id : Identity}

/-- The records written, the entries of the identity come into force. -/
theorem State.intoForce_enters {t : State} {k : Condition} {l : Option Level} (map : t.alt.tripMap = s.alt.tripMap)
    (units : ∀ c, t.unit c = s.unit c) (present : t.alt.condition id = some k) (level : k.level = l) :
    EntersForce id l s (t.intoForce id) := by
  have due := AlarmTable.comesDue_eq_dueAt map present level
  obtain ⟨unit, entry⟩ := State.foldl_intoForce_effect (id := id) (List.finRange 16) (List.nodup_finRange 16) t
  have location (c : Chan) : (t.chan c).config.location = (s.chan c).config.location :=
    congrArg (fun u => u.chan.config.location) (units c)
  refine ⟨fun e => ?_, fun c => ?_⟩
  · rw [State.intoForce, entry, due, map]
    simp only [List.mem_finRange, decide_true, Bool.true_and]
  · rw [State.intoForce, unit, units, location]
    simp only [due]

theorem State.outOfForce_leaves {t : State} (map : t.alt.tripMap = s.alt.tripMap)
    (units : ∀ c, t.unit c = s.unit c) (single : ∀ c, (s.chan c).alarmHolds.Nodup) :
    LeavesForce id s (t.outOfForce id) := by
  have due (e : EntryNo) (p : TripAction → Bool) : t.alt.goesDue id e p = s.alt.goesDue id e p :=
    AlarmTable.goesDue_congr (by rw [map]) id p
  have single' (c : Chan) : (t.chan c).alarmHolds.Nodup := by
    have h := congrArg (fun u => u.chan.alarmHolds) (units c)
    exact h ▸ single c
  obtain ⟨unit, entry⟩ := State.foldl_outOfForce_effect (id := id) (List.finRange 16) (List.nodup_finRange 16) t single'
  refine ⟨fun e => ?_, fun c => ?_⟩
  · rw [State.outOfForce, entry, due, map]
    simp only [List.mem_finRange, decide_true, Bool.true_and]
  · rw [State.outOfForce, unit, units]
    simp only [due]

theorem State.comesOnRecords_kept (k : Condition) (s : State) : (s.comesOnRecords id k).alt.tripMap = s.alt.tripMap
    ∧ ∀ c, (s.comesOnRecords id k).unit c = s.unit c := by
  unfold State.comesOnRecords State.tableFullComes
  simp only
  repeat' split
  all_goals exact ⟨rfl, fun _ => rfl⟩

theorem State.tableFullComes_condition (s : State) {j : Identity} (ordinary : j ≠ .system .tableFull) :
    s.tableFullComes.alt.condition j = s.alt.condition j := by
  unfold State.tableFullComes
  simp only
  split
  · exact AlarmTable.setCondition_condition_ne ordinary ..
  · exact AlarmTable.setCondition_condition_ne ordinary ..
  · rfl
  · rfl

theorem State.comesOnRecords_level (ordinary : id ≠ .system .tableFull) (k : Condition) (s : State) :
    ∃ k', (s.comesOnRecords id k).alt.condition id = some k' ∧ k'.level = k.level := by
  unfold State.comesOnRecords
  split
  next i found =>
    obtain ⟨r, held, -⟩ := AlarmTable.record_of_slotOf found
    rw [held]
    exact ⟨k, AlarmTable.setCondition_condition_self .., rfl⟩
  next =>
    split
    · exact ⟨k, AlarmTable.setCondition_condition_self .., rfl⟩
    · refine ⟨{ k with pending := true }, ?_, rfl⟩
      rw [State.tableFullComes_condition _ ordinary]
      exact AlarmTable.setCondition_condition_self ..

theorem EntersForce.settled {l : Option Level} {t : State} (h : EntersForce id l s t) : EntersForce id l s t.settle :=
  ⟨h.entry, h.unit⟩

theorem EntersForce.noticed {l : Option Level} {t : State} (h : EntersForce id l s t) (p : Priority) :
    EntersForce id l s (t.cameNotice p) := ⟨h.entry, h.unit⟩

theorem LeavesForce.settled {t : State} (h : LeavesForce id s t) : LeavesForce id s t.settle := ⟨h.entry, h.unit⟩

theorem State.comesAfresh_enters (ordinary : id ≠ .system .tableFull) (l : Option Level) (p : Priority) (s : State) :
    EntersForce id l s (s.comesAfresh id l p) := by
  obtain ⟨map, units⟩ := State.comesOnRecords_kept (id := id) { level := l, priority := p, pending := false } s
  obtain ⟨k, present, level⟩ := State.comesOnRecords_level ordinary { level := l, priority := p, pending := false } s
  exact ((State.intoForce_enters map units present level).noticed p).settled

theorem State.levelOfPresent_enters (k : Condition) (l : Option Level) (p : Priority) (s : State) :
    EntersForce id l s (s.levelOfPresent id k l p) := by
  unfold State.levelOfPresent
  simp only
  refine EntersForce.settled (State.intoForce_enters (k := { k with level := l, priority := p }) ?_ ?_ ?_ rfl)
  · repeat' split
    all_goals rfl
  · intro c
    repeat' split
    all_goals rfl
  · repeat' split
    all_goals exact AlarmTable.setCondition_condition_self ..

theorem State.levelChanges_enters (ordinary : id ≠ .system .tableFull) (l : Option Level) (p : Priority) (s : State) :
    EntersForce id l s (s.levelChanges id l p) := by
  unfold State.levelChanges
  split
  · exact State.comesAfresh_enters ordinary l p s
  · exact State.levelOfPresent_enters _ l p s

theorem State.comes_enters (ordinary : id ≠ .system .tableFull) {l : Option Level} (p : Priority) {s : State}
    (changes : ∀ k, s.alt.condition id = some k → k.level ≠ l) : EntersForce id l s (s.comes id l p) := by
  unfold State.comes
  split
  · exact State.comesAfresh_enters ordinary l p s
  next k present =>
    rw [if_pos (changes k present)]
    exact State.levelOfPresent_enters _ l p s

theorem State.tableFullCheck_unit (s : State) (c : Chan) : s.tableFullCheck.unit c = s.unit c := by
  rw [State.tableFullCheck_alone]; rfl

theorem State.goesOnRecords_kept (k : Condition) (s : State) : (s.goesOnRecords id k).alt.tripMap = s.alt.tripMap
    ∧ ∀ c, (s.goesOnRecords id k).unit c = s.unit c := by
  unfold State.goesOnRecords
  simp only
  split
  · exact ⟨State.tableFullCheck_tripMap _, fun c => State.tableFullCheck_unit _ c⟩
  · repeat' split
    · exact ⟨rfl, fun _ => rfl⟩
    · exact ⟨rfl, fun _ => rfl⟩
    · exact ⟨State.retire_tripMap _ _, fun c => by rw [State.retire_alone]; rfl⟩
    · exact ⟨rfl, fun _ => rfl⟩

theorem State.goes_leaves (present : s.alt.isPresent id = true) (single : ∀ c, (s.chan c).alarmHolds.Nodup) :
    LeavesForce id s (s.goes id) := by
  unfold State.goes
  split
  next absent => rw [AlarmTable.isPresent, absent] at present; cases present
  next k _ =>
    obtain ⟨map, units⟩ := State.goesOnRecords_kept (id := id) k s
    exact (State.outOfForce_leaves map units single).settled

end reports

end Sys2Proof.Machine
end

section
/-!
Proofs. The layer under the statements about single requests: the answer is the owner's, and what the
reading of an operand finds where it is named.
-/
set_option Elab.async false

namespace Sys2Proof.Machine

/-- A request that is taken is answered by what its owner makes of the state it takes. -/
theorem exec_of_owner {k : Kind} {p : Port} {f : List Byte} {s : State} (ready : Ready k p f s) (q : Byte) {r : Reply}
    (owner : ownerOf k p f (s.taking p) = r) : exec (k.instr p q f) s = .next (delivered k p q f r) := by
  rw [exec_instr_of_ready ready, owner]

section operands
variable {f : List Byte} {s : State}

theorem withAlarm_named {i : SlotNo} {r : AlarmRecord} (slot : field f 0 1 = i.val) (held : s.alt.record i = some r)
    (generation : field f 1 1 = (s.alt.slots.get i).generation) (used : field f 1 1 ≠ 0)
    (rule : SlotNo → AlarmRecord → Reply) : withAlarm f s rule = rule i r := by
  have small : field f 0 1 < 65 := slot ▸ i.isLt
  have same : (⟨field f 0 1, small⟩ : SlotNo) = i := Fin.ext slot
  rw [withAlarm, dif_pos small]
  simp only [same, held]
  rw [if_neg (not_or.mpr ⟨used, not_not.mpr generation⟩)]

theorem withChan_named {c : Chan} (named : chan? (field f 0 1) = some c) (rule : Chan → Reply) :
    withChan f s rule = rule c := by simp only [withChan, named]

theorem withComp_named {n : Comp} (named : comp? (field f 0 1) = some n) (rule : Comp → Compartment → Reply) :
    withComp f s rule = rule n (s.clc.compartments.get n) := by simp only [withComp, named]

theorem withLot_named {i : LotNo} {r : LotRecord} (named : s.lrg.byReference f = .ok i) (held : s.lrg.lot i = some r)
    (rule : LotNo → LotRecord → Reply) : withLot f s rule = rule i r := by simp only [withLot, named, held]

end operands

end Sys2Proof.Machine
end

section
/-!
Proofs. O29: the requests of the alarm table, and what the trip map holds, trips and releases (R135 to R145).
-/
set_option Elab.async false

namespace Sys2Proof.Machine

/-! ### The replacement of an entry (R142) -/

/-- The release of an identity, where there is one. -/
def ChannelRecord.outOf (x : Option Identity) (r : ChannelRecord) : ChannelRecord :=
  match x with
  | none => r
  | some id => r.freed id

def ChannelUnit.outOf (x : Option Identity) (u : ChannelUnit) : ChannelUnit :=
  match x with
  | none => u
  | some id => u.freed id

@[simp] theorem ChannelUnit.outOf_chan (x : Option Identity) (u : ChannelUnit) :
    (u.outOf x).chan = u.chan.outOf x := by cases x <;> rfl

@[simp] theorem ChannelRecord.outOf_config (x : Option Identity) (r : ChannelRecord) :
    (r.outOf x).config = r.config := by cases x <;> rfl

theorem ChannelUnit.released_eq_outOf (id : Identity) (b : Bool) (u : ChannelUnit) :
    u.released id b = u.outOf (if u.chan.alarmHolds.contains id && b then some id else none) := by
  rw [released, Bool.and_comm]
  split <;> rfl

/-- Whether an entry in force holds a channel on an identity. -/
def AlarmTable.holdsOn (a : AlarmTable) (o : EntryNo) (id : Identity) (c : Chan) : Bool :=
  (a.tripMap.get o).inForce && (a.tripMap.get o).rule.any fun r => r.identity == id && r.action == .holdChannel c

/-- The hold that ends for a channel with an entry: its own, where no other entry in force holds the same. -/
def State.endsHold (e : EntryNo) (c : Chan) (s : State) : Option Identity :=
  ((s.alt.tripMap.get e).rule.map (·.identity)).filter fun id =>
    s.alt.holdsOn e id c && (s.chan c).alarmHolds.contains id
      && (List.finRange 16).all fun o => o == e || !s.alt.holdsOn o id c

section replace
variable {s : State} {e : EntryNo}

theorem AlarmTable.heldByOther_eq (a : AlarmTable) (e : EntryNo) (id : Identity) (c : Chan) :
    (!a.heldByOther e id c) = (List.finRange 16).all fun o => o == e || !a.holdsOn o id c := by
  rw [heldByOther, List.not_any_eq_all_not]
  congr 1
  funext o
  rw [Bool.and_assoc, holdsOn, Bool.not_and, bne, Bool.not_not]

theorem State.endsHold_of_rule (c : Chan) {r : TripRule} (rule : (s.alt.tripMap.get e).rule = some r) : s.endsHold e c
    = if s.alt.holdsOn e r.identity c && (s.chan c).alarmHolds.contains r.identity && !s.alt.heldByOther e r.identity c
      then some r.identity else none := by
  rw [State.endsHold, rule, Option.map_some, AlarmTable.heldByOther_eq, Option.filter_some]

theorem State.endsHold_of_not_holdsOn {c : Chan} (out : ∀ id, s.alt.holdsOn e id c = false) : s.endsHold e c = none := by
  cases rule : (s.alt.tripMap.get e).rule with
  | none => rw [State.endsHold, rule]; rfl
  | some r => rw [State.endsHold_of_rule c rule, out]; rfl

theorem State.oldEntryOut_effect (e : EntryNo) (s : State) :
    (∀ c, (s.oldEntryOut e).unit c = (s.unit c).outOf (s.endsHold e c))
      ∧ ∀ o, o ≠ e → (s.oldEntryOut e).alt.tripMap.get o = s.alt.tripMap.get o := by
  unfold State.oldEntryOut
  split
  next id m d entry =>
    have ends (c : Chan) : s.endsHold e c = if d = c ∧ (s.chan c).alarmHolds.contains id ∧ s.alt.heldByOther e id c = false
        then some id else none := by
      rw [State.endsHold_of_rule c (r := ⟨id, m, .holdChannel d⟩) (by rw [entry])]
      simp [AlarmTable.holdsOn, entry, and_assoc]
    split
    next held =>
      refine ⟨fun c => ?_, fun o ne => by rw [State.setInForce_entry, if_neg ne]⟩
      have stays : s.endsHold e c = none := by
        rw [ends, if_neg]
        rintro ⟨rfl, -, free⟩
        exact absurd (held.symm.trans free) nofun
      rw [stays]
      rfl
    next free =>
      refine ⟨fun c => ?_, fun o ne => by rw [State.holdRelease_alt, State.setInForce_entry, if_neg ne]⟩
      rw [State.holdRelease_unit, State.setInForce_unit, State.setInForce_unit, ends]
      by_cases same : c = d
      · subst same
        rw [if_pos rfl, ChannelUnit.released_eq_outOf]
        congr 1
        exact if_congr (by simp [State.unit, free]) rfl rfl
      · rw [if_neg same, if_neg fun h => same h.1.symm]
        rfl
  next rule inForce other entry =>
    refine ⟨fun c => ?_, fun o ne => by rw [State.setInForce_entry, if_neg ne]⟩
    have out (id : Identity) : s.alt.holdsOn e id c = false := by
      rw [← Bool.not_eq_true, AlarmTable.holdsOn, entry]
      simp only [Bool.and_eq_true, Option.any_eq_true]
      rintro ⟨rfl, ⟨i, m, a⟩, rfl, -, hold⟩
      obtain rfl := eq_of_beq hold
      exact other i m c rfl rfl
    rw [State.endsHold_of_not_holdsOn out, State.setInForce_unit]
    rfl

theorem State.shelvingEnds_kept (id : Identity) (s : State) : (s.shelvingEnds id).alt.tripMap = s.alt.tripMap
    ∧ (∀ c, (s.shelvingEnds id).unit c = s.unit c)
    ∧ ∀ j, (s.shelvingEnds id).alt.condition j = s.alt.condition j := by
  unfold State.shelvingEnds
  split
  · exact ⟨rfl, fun _ => rfl, fun _ => rfl⟩
  · split
    · exact ⟨rfl, fun _ => rfl, fun _ => rfl⟩
    · split
      · exact ⟨rfl, fun _ => rfl, fun _ => rfl⟩
      · exact ⟨rfl, fun _ => rfl, fun _ => rfl⟩

/-- Where an identity has one record, that one leaves its shelf. -/
theorem State.shelvingEnds_record (id : Identity)
    (one : ∀ i j r r', s.alt.record i = some r → s.alt.record j = some r' → r.identity = r'.identity → i = j)
    (i : SlotNo) : (s.shelvingEnds id).alt.record i = (s.alt.record i).map fun r =>
      if id == r.identity && r.shelvedUntil.isSome then r.unshelved s.sht.stamp else r := by
  have idle (stays : ∀ r, s.alt.record i = some r → ¬ (id = r.identity ∧ r.shelvedUntil.isSome)) :
      s.alt.record i = (s.alt.record i).map fun r =>
        if id == r.identity && r.shelvedUntil.isSome then r.unshelved s.sht.stamp else r := by
    cases held : s.alt.record i with
    | none => rfl
    | some r => rw [Option.map_some, if_neg (by simpa using stays r held)]
  unfold State.shelvingEnds
  split
  next none => exact idle fun r held h => AlarmTable.slotOf_eq_none_iff.mp none i r held h.1.symm
  next j found =>
    obtain ⟨r, held, own⟩ := AlarmTable.record_of_slotOf found
    rw [held]
    have same {r' : AlarmRecord} (held' : s.alt.record i = some r') (named : id = r'.identity) : i = j :=
      one i j r' r held' held (named.symm.trans own.symm)
    simp only
    split
    next shelved =>
      rw [State.setAlt_alt, AlarmTable.rewrite_record]
      split
      next here => rw [here, held, Option.map_some, if_pos (by simp [own, shelved])]
      next there => exact idle fun r' held' h => there (same held' h.1)
    next open_ =>
      refine idle fun r' held' h => ?_
      obtain rfl := same held' h.1
      rw [held] at held'
      cases held'
      exact open_ h.2

theorem State.oldEntryOut_stamp (e : EntryNo) (s : State) : (s.oldEntryOut e).sht.stamp = s.sht.stamp := by
  have h := (State.OutputsDriven.oldEntryOut_touch e s).shift
  rw [h]
  rfl

/-- The effect of the replacement of an entry (R142). -/
structure Replaces (e : EntryNo) (x : Option TripRule) (s t : State) : Prop where
  written : t.alt.tripMap.get e = { rule := x, inForce := x.any s.alt.meets }
  others  : ∀ o, o ≠ e → t.alt.tripMap.get o = s.alt.tripMap.get o
  unit    : ∀ c, t.unit c = x.elim ((s.unit c).outOf (s.endsHold e c)) fun y =>
    ((s.unit c).outOf (s.endsHold e c)).acted y.identity (y.action.stops c && s.alt.meets y)
      (y.action.trips c (s.chan c).config.location && s.alt.meets y)

theorem State.writeEntry_entry (o : EntryNo) (x : Option TripRule) : (s.writeEntry e x).alt.tripMap.get o
    = if o = e then { rule := x, inForce := false } else s.alt.tripMap.get o := Tbl.get_put ..

@[simp] theorem State.writeEntry_unit (x : Option TripRule) (c : Chan) : (s.writeEntry e x).unit c = s.unit c := rfl

theorem State.replaceEntry_effect (e : EntryNo) (x : Option TripRule) (s : State) : Replaces e x s (s.replaceEntry e x) := by
  obtain ⟨outUnit, outEntry⟩ := s.oldEntryOut_effect e
  have meets (y : TripRule) : ((s.oldEntryOut e).writeEntry e x).alt.meets y = s.alt.meets y :=
    AlarmTable.meets_of_offMap (State.OutputsDriven.oldEntryOut_offMap e s) y
  unfold State.replaceEntry
  cases x with
  | none =>
    refine ⟨?_, fun o ne => ?_, fun c => outUnit c⟩
    · rw [State.writeEntry_entry, if_pos rfl]; rfl
    · rw [State.writeEntry_entry, if_neg ne, outEntry o ne]
  | some y =>
    obtain ⟨map, units, conditions⟩ := State.shelvingEnds_kept y.identity ((s.oldEntryOut e).writeEntry e (some y))
    have written : (((s.oldEntryOut e).writeEntry e (some y)).shelvingEnds y.identity).alt.tripMap.get e
        = { rule := some y, inForce := false } := by rw [map, State.writeEntry_entry, if_pos rfl]
    obtain ⟨unit, entry⟩ := State.entryIntoForce_effect e (show Option.some y = _ from congrArg TripEntry.rule written.symm).symm
    have due (p : TripAction → Bool) : (((s.oldEntryOut e).writeEntry e (some y)).shelvingEnds y.identity).alt.comesDue
        y.identity e p = (p y.action && s.alt.meets y) := by
      have same : (((s.oldEntryOut e).writeEntry e (some y)).shelvingEnds y.identity).alt.meets y = s.alt.meets y := by
        rw [← meets, AlarmTable.meets, conditions]
        rfl
      simp only [AlarmTable.comesDue, written, Option.any_some, beq_self_eq_true, same, Bool.not_false, Bool.true_and,
        Bool.and_comm]
    have location (c : Chan) : ((((s.oldEntryOut e).writeEntry e (some y)).shelvingEnds y.identity).chan c).config.location
        = (s.chan c).config.location := by
      have h := congrArg (fun u => u.chan.config.location) ((units c).trans (outUnit c))
      exact h.trans (by rw [ChannelUnit.outOf_chan, ChannelRecord.outOf_config]; rfl)
    refine ⟨?_, fun o ne => ?_, fun c => ?_⟩
    · show (State.entryIntoForce e _).alt.tripMap.get e = _
      rw [entry, if_pos rfl, written, due]
      simp
    · show (State.entryIntoForce e _).alt.tripMap.get o = _
      rw [entry, if_neg ne, map, State.writeEntry_entry, if_neg ne, outEntry o ne]
    · show (State.entryIntoForce e _).unit c = _
      rw [unit, units, due, due, location, State.writeEntry_unit, outUnit, Option.elim_some]

theorem State.replaceEntry_record
    (one : ∀ i j r r', s.alt.record i = some r → s.alt.record j = some r' → r.identity = r'.identity → i = j)
    (x : Option TripRule) (i : SlotNo) : (s.replaceEntry e x).alt.record i = (s.alt.record i).map fun r =>
      if x.any (·.identity == r.identity) && r.shelvedUntil.isSome then r.unshelved s.sht.stamp else r := by
  have out (j : SlotNo) : ((s.oldEntryOut e).writeEntry e x).alt.record j = s.alt.record j :=
    AlarmTable.record_of_offMap (State.OutputsDriven.oldEntryOut_offMap e s) j
  unfold State.replaceEntry
  cases x with
  | none =>
    show ((s.oldEntryOut e).writeEntry e none).alt.record i = _
    rw [out]
    simp
  | some y =>
    show (State.entryIntoForce e _).alt.record i = _
    have stamp : ((s.oldEntryOut e).writeEntry e (some y)).sht.stamp = s.sht.stamp := s.oldEntryOut_stamp e
    rw [AlarmTable.record_of_offMap (State.entryIntoForce_offMap e _),
      State.shelvingEnds_record y.identity (by simpa only [out] using one), out, stamp]
    simp only [Option.any_some]

end replace

/-! ### A channel's setpoint, target and feeder follow its record -/

/-- The setpoint, target and feeder of a channel whose record went, over a release to `r`, to the record they now
have. -/
structure ChannelUnit.Driven (u : ChannelUnit) (r : ChannelRecord) (v : ChannelUnit) : Prop where
  setpoint : v.setpoint = if v.chan.state == .tripped && u.chan.state != .tripped then 0
    else if r.state == .running && u.chan.state == .holding && decide (u.setpoint < r.minFlow) then r.minFlow
    else u.setpoint
  target   : v.target = if v.chan.state == .tripped && u.chan.state != .tripped then 0 else u.target
  feeder   : v.feeder = if v.chan.state == .tripped && u.chan.state != .tripped then u.feeder.zeroed
    else if r.state == .running && u.chan.state == .holding && decide (u.setpoint < r.minFlow) then
      { u.feeder with pendingRate := rateOf u.feeder r.minFlow }
    else u.feeder

theorem ChannelRecord.freed_state (id : Identity) (r : ChannelRecord) : (r.freed id).state
    = if r.state == .holding && !r.holds.operator && !r.holds.controlLost && (r.alarmHolds.erase id).isEmpty then .running
      else r.state := rfl

theorem ChannelRecord.outOf_state (x : Option Identity) (r : ChannelRecord) :
    (r.outOf x).state = r.state ∨ r.state = .holding ∧ (r.outOf x).state = .running := by
  cases x with
  | none => exact .inl rfl
  | some id =>
    show (r.freed id).state = r.state ∨ r.state = .holding ∧ (r.freed id).state = .running
    rw [freed_state]
    split
    next h =>
      simp only [Bool.and_eq_true, beq_iff_eq] at h
      exact .inr ⟨h.1.1.1, rfl⟩
    next => exact .inl rfl

/-- A release trips nothing, and an action trips an active channel that its trip names. -/
theorem ChannelRecord.acted_outOf_trips (x : Option Identity) (id : Identity) (hold trip : Bool) (r : ChannelRecord) :
    (((r.outOf x).acted id hold trip).state == .tripped && r.state != .tripped) = (trip && (r.outOf x).state.active) := by
  rw [acted_state]
  obtain same | ⟨held, running⟩ := r.outOf_state x
  · rw [same]
    cases r.state <;> cases hold <;> cases trip <;> rfl
  · rw [held, running]
    cases hold <;> cases trip <;> rfl

theorem ChannelUnit.outOf_driven (x : Option Identity) (u : ChannelUnit) :
    (u.outOf x).setpoint = (if (u.chan.outOf x).state == .running && u.chan.state == .holding
        && decide (u.setpoint < (u.chan.outOf x).minFlow) then (u.chan.outOf x).minFlow else u.setpoint)
      ∧ (u.outOf x).target = u.target
      ∧ (u.outOf x).feeder = if (u.chan.outOf x).state == .running && u.chan.state == .holding
          && decide (u.setpoint < (u.chan.outOf x).minFlow) then
          { u.feeder with pendingRate := rateOf u.feeder (u.chan.outOf x).minFlow } else u.feeder := by
  cases x with
  | none =>
    have stays : (u.chan.state == .running && u.chan.state == .holding) = false := by cases u.chan.state <;> rfl
    simp [outOf, ChannelRecord.outOf, stays]
  | some id => exact ⟨rfl, rfl, rfl⟩

/-- The whole of a release and an action, on setpoint, target and feeder. -/
theorem ChannelUnit.acted_outOf_driven (x : Option Identity) (id : Identity) (hold trip : Bool) (u : ChannelUnit) :
    u.Driven (u.chan.outOf x) ((u.outOf x).acted id hold trip) := by
  have trips := u.chan.acted_outOf_trips x id hold trip
  rw [← outOf_chan] at trips
  obtain ⟨setpoint, target, feeder⟩ := u.outOf_driven x
  have chan : ((u.outOf x).acted id hold trip).chan = (u.outOf x).chan.acted id hold trip := rfl
  refine ⟨?_, ?_, ?_⟩
  · rw [chan, trips, ← setpoint]
    rfl
  · rw [chan, trips, ← target]
    rfl
  · rw [chan, trips, ← feeder]
    have zeroed : (u.outOf x).feeder.zeroed = u.feeder.zeroed := by
      rw [feeder]
      split <;> rfl
    rw [← zeroed]
    rfl

/-! ### The requests -/

section requests
variable {p : Port} {f : List Byte} {s : State}

theorem ownerShelve_of {i : SlotNo} {r : AlarmRecord} (slot : field f 0 1 = i.val) (held : s.alt.record i = some r)
    (generation : field f 1 1 = (s.alt.slots.get i).generation) (used : field f 1 1 ≠ 0) (minutes : 1 ≤ field f 2 2)
    (active : r.state ≠ .clearedUnack) (may : s.alt.mayShelve r = true) : ownerShelve p f s
      = ⟨if 480 < field f 2 2 then .okClamped else .ok, [], State.settle (s.setAlt (s.alt.rewrite i { r with
          shelvedUntil := some (60 * min 480 (field f 2 2))
          changeStamp := s.sht.stamp, markControl := true, markPanel := true }))⟩ := by
  unfold ownerShelve
  rw [withAlarm_named slot held generation used]
  simp only
  rw [if_neg (Nat.ne_of_gt minutes), if_neg active, if_neg (by simp [may]), takenClamped]
  congr 1
  exact if_congr decide_eq_true_iff rfl rfl

theorem ownerUnshelve_of {i : SlotNo} {r : AlarmRecord} (slot : field f 0 1 = i.val) (held : s.alt.record i = some r)
    (generation : field f 1 1 = (s.alt.slots.get i).generation) (used : field f 1 1 ≠ 0)
    (shelved : r.shelvedUntil.isSome = true) : ownerUnshelve p f s
      = ⟨.ok, [], State.settle (s.setAlt (s.alt.rewrite i (r.unshelved s.sht.stamp)))⟩ := by
  unfold ownerUnshelve
  rw [withAlarm_named slot held generation used, if_neg (by simpa [Option.ne_none_iff_isSome] using shelved)]
  rfl

theorem ownerSilence_of (sounding : ∃ i r, s.alt.record i = some r ∧ r.annunciate = true) : ownerSilence p f s
    = ⟨.ok, [], State.settle (s.setAlt { s.alt with slots := s.alt.slots.map (AlarmSlot.silenced s.sht.stamp) })⟩ := by
  obtain ⟨i, r, held, on⟩ := sounding
  unfold ownerSilence
  rw [if_pos (List.any_eq_true.mpr ⟨i, List.mem_finRange i, by rw [held]; exact on⟩)]
  rfl

theorem ownerCollectAlarms_eq : ownerCollectAlarms p f s
    = ⟨.ok, listOf (fun i => collectionEntry i (s.alt.slots.get i)) ((s.alt.marked p).take 6)
        ++ u16 ((s.alt.marked p).length - 6), State.settle (s.setAlt (s.alt.collect p))⟩ := by
  unfold ownerCollectAlarms
  simp only [List.length_drop]
  rfl

theorem ownerSetTripEntry_of {e : EntryNo} {x : Option TripRule} (access : s.acu.isOpen = true)
    (named : entry? (field f 0 1) = some e) (spelled : tripContents? (f.drop 1) = some x) :
    ownerSetTripEntry p f s = ⟨.ok, [], (s.replaceEntry e x).startOpenTimer⟩ := by
  unfold ownerSetTripEntry
  rw [if_neg (by simp [access]), named, spelled]
  rfl

end requests

/-- A channel went to a record, and its setpoint, target and feeder with it. -/
def State.Drives (c : Chan) (r x : ChannelRecord) (s t : State) : Prop :=
  t.chan c = x
    ∧ t.setpoint c = (if x.state == .tripped && (s.chan c).state != .tripped then 0
        else if r.state == .running && (s.chan c).state == .holding && decide (s.setpoint c < r.minFlow) then r.minFlow
        else s.setpoint c)
    ∧ t.fsc.target.get c = (if x.state == .tripped && (s.chan c).state != .tripped then 0 else s.fsc.target.get c)
    ∧ t.feeder c = if x.state == .tripped && (s.chan c).state != .tripped then (s.feeder c).zeroed
        else if r.state == .running && (s.chan c).state == .holding && decide (s.setpoint c < r.minFlow) then
          { s.feeder c with pendingRate := rateOf (s.feeder c) r.minFlow }
        else s.feeder c

theorem State.drives_of_unit {s t : State} {c : Chan} (x : Option Identity) (id : Identity) (hold trip : Bool)
    (unit : t.unit c = ((s.unit c).outOf x).acted id hold trip) :
    State.Drives c ((s.chan c).outOf x) (((s.chan c).outOf x).acted id hold trip) s t := by
  have chan : (t.unit c).chan = ((s.chan c).outOf x).acted id hold trip := by
    rw [unit]
    exact congrArg (ChannelRecord.acted id hold trip) (ChannelUnit.outOf_chan x (s.unit c))
  have driven := (s.unit c).acted_outOf_driven x id hold trip
  rw [← unit] at driven
  obtain ⟨setpoint, target, feeder⟩ := driven
  rw [chan] at setpoint target feeder
  exact ⟨chan, setpoint, target, feeder⟩

theorem State.drives_of_outOf {s t : State} {c : Chan} (x : Option Identity) (unit : t.unit c = (s.unit c).outOf x) :
    State.Drives c ((s.chan c).outOf x) ((s.chan c).outOf x) s t := by
  have h := State.drives_of_unit (s := s) (t := t) x (.system .tripIn) false false
    (by rw [ChannelUnit.acted_none, unit])
  rwa [show ((s.chan c).outOf x).acted (.system .tripIn) false false = (s.chan c).outOf x from
    congrArg ChannelUnit.chan (ChannelUnit.acted_none (u := ⟨(s.chan c).outOf x, 0, 0, s.feeder c⟩))] at h

theorem LeavesForce.unit_outOf {id : Identity} {s t : State} (h : LeavesForce id s t) (c : Chan) :
    t.unit c = (s.unit c).outOf (if (s.chan c).alarmHolds.contains id
      && (List.finRange 16).any fun e => s.alt.goesDue id e (·.stops c) then some id else none) := by
  rw [h.unit, ChannelUnit.released_eq_outOf]
  rfl

/-- Settles O29: the requests by their owners, the reports by `EntersForce` and `LeavesForce`, the replacement of an
entry by `Replaces`. -/
theorem alarmRequestsAct : Obligations.AlarmRequestsAct := by
  refine ⟨fun p q f s => ⟨fun i r slot held generation used => ⟨fun ready minutes active may => ?_, fun ready shelved => ?_⟩,
    fun ready sounding => ?_⟩, fun p q f s => ⟨fun ready => ?_, fun e x ready access named spelled => ?_⟩, ?_⟩
  · refine exec_of_owner ready q ((ownerShelve_of (p := p) slot (by simpa using held) (by simpa using generation) used
      minutes active (by simpa using may)).trans ?_)
    simp only [State.taking_alt, State.taking_sht]
  · refine exec_of_owner ready q ((ownerUnshelve_of (p := p) slot (by simpa using held) (by simpa using generation) used
      shelved).trans ?_)
    simp only [State.taking_alt, State.taking_sht]
    rfl
  · refine exec_of_owner ready q ((ownerSilence_of (p := p) (f := f) (by simpa using sounding)).trans ?_)
    simp only [State.taking_alt, State.taking_sht]
  · refine exec_of_owner ready q ((ownerCollectAlarms_eq (p := p) (f := f)).trans ?_)
    simp only [State.taking_alt]
  · exact exec_of_owner ready q (ownerSetTripEntry_of (p := p) (by simpa using access) named spelled)
  · refine ⟨fun s t id l prio ordinary reported => ?_, fun s id present single => ?_, fun s e x single one => ?_⟩
    · have enters : EntersForce id l s t := by
        obtain rfl | ⟨rfl, changes⟩ := reported
        · exact State.levelChanges_enters ordinary l prio s
        · exact State.comes_enters ordinary prio changes
      exact ⟨enters.entry, fun c => State.drives_of_unit none id _ _ (enters.unit c)⟩
    · have leaves := State.goes_leaves present single
      refine ⟨leaves.entry, fun c => ?_⟩
      exact State.drives_of_outOf _ (leaves.unit_outOf c)
    · have replaces := State.replaceEntry_effect e x s
      have due (y : TripRule) : s.alt.meets y
          = (s.alt.condition y.identity).any fun k => y.minLevel == .any || k.level == some .crit := by
        simp only [AlarmTable.meets, MinLevel.metBy_eq]
      refine ⟨?_, replaces.others, State.replaceEntry_record one x, fun c => ?_⟩
      · rw [replaces.written]
        cases x with
        | none => rfl
        | some y => simp only [Option.any_some, Bool.true_and, due]
      · cases x with
        | none => exact State.drives_of_outOf _ (replaces.unit c)
        | some y =>
          have unit := replaces.unit c
          have location : ((s.chan c).outOf (s.endsHold e c)).config.location = (s.chan c).config.location := by
            rw [ChannelRecord.outOf_config]
          rw [Option.elim_some, due, ← location] at unit
          exact State.drives_of_unit _ _ _ _ unit

end Sys2Proof.Machine
end

section
/-!
Proofs. O56, second half: the trip map and the channels' alarm holds agree after every step (R52, R141, R142).
-/
set_option Elab.async false

namespace Sys2Proof.Machine

/-! ### One channel's list -/

/-- The list names each identity once, and HC_ALARM stands exactly while it names one. -/
structure ChannelRecord.ListSound (r : ChannelRecord) : Prop where
  once  : r.alarmHolds.Nodup
  cause : r.holds.alarm = true ↔ r.alarmHolds ≠ []

namespace ChannelRecord

variable {r : ChannelRecord} {id j : Identity}

theorem mem_acted (hold trip : Bool) : j ∈ (r.acted id hold trip).alarmHolds ↔ j ∈ r.alarmHolds ∨ hold = true ∧ j = id := by
  simp only [acted]
  cases hold with
  | false => simp
  | true =>
    by_cases listed : id ∈ r.alarmHolds
    · have same : j = id → j ∈ r.alarmHolds := by rintro rfl; exact listed
      simpa [listed] using same
    · simp [listed]

theorem ListSound.acted (h : r.ListSound) (id : Identity) (hold trip : Bool) : (r.acted id hold trip).ListSound := by
  refine ⟨?_, ?_⟩
  · simp only [ChannelRecord.acted]
    split
    next new =>
      have out : id ∉ r.alarmHolds := by
        rw [Bool.and_eq_true] at new
        simpa using new.2
      exact List.nodup_append.mpr ⟨h.once, List.nodup_singleton id, fun a mem b single => by
        obtain rfl := List.mem_singleton.mp single
        rintro rfl
        exact out mem⟩
    next => exact h.once
  · show (r.holds.alarm || hold) = true ↔ _
    rw [Bool.or_eq_true, h.cause, ne_eq, ne_eq, List.eq_nil_iff_forall_not_mem,
      List.eq_nil_iff_forall_not_mem, not_forall, not_forall]
    simp only [not_not]
    simp only [mem_acted]
    constructor
    · rintro (⟨j, mem⟩ | on)
      · exact ⟨j, .inl mem⟩
      · exact ⟨id, .inr ⟨on, rfl⟩⟩
    · rintro ⟨j, mem | ⟨on, -⟩⟩
      · exact .inl ⟨j, mem⟩
      · exact .inr on

theorem ListSound.freed (h : r.ListSound) (id : Identity) : (r.freed id).ListSound :=
  ⟨h.once.erase id, by
    show (!(r.alarmHolds.erase id).isEmpty) = true ↔ r.alarmHolds.erase id ≠ []
    simp⟩

theorem ListSound.outOf (h : r.ListSound) (x : Option Identity) : (r.outOf x).ListSound := by
  cases x with
  | none => exact h
  | some id => exact h.freed id

theorem ListSound.mem_outOf (h : r.ListSound) (x : Option Identity) :
    j ∈ (r.outOf x).alarmHolds ↔ j ∈ r.alarmHolds ∧ x ≠ some j := by
  cases x with
  | none => simp [ChannelRecord.outOf]
  | some id =>
    show j ∈ r.alarmHolds.erase id ↔ _
    rw [h.once.mem_erase_iff, and_comm]
    simp [eq_comm]

theorem ListSound.congr {t : ChannelRecord} (h : r.ListSound)
    (same : t.alarmHolds = r.alarmHolds ∧ t.holds.alarm = r.holds.alarm) : t.ListSound :=
  ⟨by rw [same.1]; exact h.once, by rw [same.1, same.2]; exact h.cause⟩

end ChannelRecord

/-- SET_TRIP_ENTRY admits a mappable identity alone (R140). -/
theorem mappable_of_tripContents {f : List Byte} {r : TripRule} (h : tripContents? f = some (some r)) :
    r.identity.mappable = true := by
  unfold tripContents? at h
  split at h
  · cases h
  · obtain ⟨x, spelled, same⟩ := Option.map_eq_some_iff.mp h
    cases same
    unfold tripRuleOf at spelled
    split at spelled
    · split at spelled
      next admitted =>
        cases spelled
        exact admitted.1
      next => cases spelled
    · cases spelled

/-! ### The invariant on table and channels -/

theorem AlarmTable.holdsOn_iff {a : AlarmTable} {o : EntryNo} {id : Identity} {c : Chan} : a.holdsOn o id c = true ↔
    ∃ r, (a.tripMap.get o).inForce = true ∧ (a.tripMap.get o).rule = some r ∧ r.identity = id ∧ r.action = .holdChannel c := by
  simp [holdsOn, Option.any_eq_true]

/-- The trip map and the channels' alarm holds, apart from the settings kept in the store. -/
structure State.TripsAgree (s : State) : Prop where
  rules   : ∀ e r, (s.alt.tripMap.get e).rule = some r → r.identity.mappable = true
  inForce : ∀ e, (s.alt.tripMap.get e).inForce = true →
              ∃ r, (s.alt.tripMap.get e).rule = some r ∧ s.alt.isPresent r.identity = true
  listed  : ∀ c id, id ∈ (s.chan c).alarmHolds ↔ ∃ e, s.alt.holdsOn e id c = true
  sound   : ∀ c, (s.chan c).ListSound

theorem State.settings_mappable {s : State} : s.settings.Mappable
    ↔ ∀ e r, (s.alt.tripMap.get e).rule = some r → r.identity.mappable = true := by
  simp [Settings.Mappable, State.settings]

theorem State.tripMapAgrees_iff {s : State} : s.TripMapAgrees ↔ s.TripsAgree ∧ s.StoreHolds Settings.Mappable := by
  constructor
  · intro h
    refine ⟨⟨State.settings_mappable.mp h.rules, h.inForce, fun c id => ?_, fun c => ⟨h.once c, h.cause c⟩⟩, h.stored,
      h.saving⟩
    simp only [AlarmTable.holdsOn_iff]
    exact h.listed c id
  · rintro ⟨h, stored, saving⟩
    refine ⟨State.settings_mappable.mpr h.rules, stored, saving, h.inForce, fun c id => ?_, fun c => (h.sound c).once,
      fun c => (h.sound c).cause⟩
    rw [h.listed c id]
    simp only [AlarmTable.holdsOn_iff]

/-- SYSTEM/TABLE_FULL is in no rule (R140). -/
theorem Identity.ordinary_of_mappable {id : Identity} (h : id.mappable = true) : id ≠ .system .tableFull := by
  rintro rfl
  cases h

/-- The trip map stands, and every identity but SYSTEM/TABLE_FULL is present in the one list where in the other. -/
structure AlarmTable.MapStands (a b : AlarmTable) : Prop where
  map    : b.tripMap = a.tripMap
  others : AlarmTable.OthersStand (.system .tableFull) a b

namespace AlarmTable.MapStands

variable {a b c : AlarmTable}

theorem refl (a : AlarmTable) : MapStands a a := ⟨rfl, .of_conditions rfl⟩

theorem trans (h : MapStands a b) (h' : MapStands b c) : MapStands a c :=
  ⟨h'.map.trans h.map, h.others.trans h'.others⟩

theorem of_conditions (map : b.tripMap = a.tripMap) (conditions : b.conditions = a.conditions) : MapStands a b :=
  ⟨map, .of_conditions conditions⟩

theorem present (h : MapStands a b) {j : Identity} (ordinary : j ≠ .system .tableFull) :
    b.isPresent j = a.isPresent j := h.others j ordinary ordinary

theorem foldl {α : Type} {f : State → α → State} (h : ∀ s x, MapStands s.alt (f s x).alt) (l : List α) (s : State) :
    MapStands s.alt (l.foldl f s).alt := by
  induction l generalizing s with
  | nil => exact refl _
  | cons x l ih => exact (h s x).trans (ih _)

theorem acknowledge (p : Port) (i : SlotNo) (s : State) : MapStands s.alt (s.acknowledge p i).alt := by
  unfold State.acknowledge
  repeat' split
  · exact refl _
  · exact of_conditions rfl rfl
  · exact ⟨State.retire_tripMap i s, .retire i s⟩
  · exact refl _

theorem ackAll (s : State) : MapStands s.alt s.ackAll.alt := by
  have settled (t : State) : MapStands t.alt t.settle.alt := of_conditions rfl rfl
  refine trans (trans ?_ (foldl (fun s i => acknowledge .control i s) _ _)) (settled _)
  refine trans ?_ (foldl (fun s i => ⟨State.promote_tripMap i s, .promote i s⟩) _ _)
  exact foldl (f := fun s i => s.setAlt (s.alt.stubbed i)) (fun s i => of_conditions rfl rfl) _ s

/-- The held report's claim on the attention output is no matter of the map. -/
theorem reportNotice (b : Bool) (s : State) : MapStands s.alt (s.reportNotice b).alt := of_conditions rfl rfl

theorem freeHeld (t : Tally) (s : State) : MapStands s.alt (s.freeHeld t).alt := by
  unfold State.freeHeld
  simp only
  split
  · exact refl _
  · exact reportNotice false (s.setShift { s.sht with held := none })

theorem closeShift (s : State) : MapStands s.alt s.closeShift.alt := by
  unfold State.closeShift
  exact reportNotice true { s with sht := _ }

theorem shiftSecond (s : State) : MapStands s.alt s.shiftSecond.alt := by
  unfold State.shiftSecond
  simp only
  split
  · exact refl _
  · split
    · unfold State.boundary
      split
      · exact closeShift ((s.setShift _).setShift _)
      · exact refl _
    · exact refl _

theorem shelfEnds (i : SlotNo) (s : State) : MapStands s.alt (s.shelfEnds i).alt := by
  unfold State.shelfEnds
  repeat' split
  any_goals exact refl _
  exact of_conditions rfl rfl

theorem owner_ackAlarm (p : Port) (f : List Byte) (s : State) : MapStands s.alt (ownerAckAlarm p f s).state.alt := by
  have done (i : SlotNo) : MapStands s.alt (s.acknowledge p i).settle.alt :=
    (acknowledge p i s).trans (of_conditions rfl rfl)
  refine withAlarm_state (P := fun t : State => MapStands s.alt t.alt) (refl _) fun i r _ => ?_
  split
  · exact refl _
  all_goals exact done i

theorem owner_shelve (p : Port) (f : List Byte) (s : State) : MapStands s.alt (ownerShelve p f s).state.alt := by
  refine withAlarm_state (P := fun t : State => MapStands s.alt t.alt) (refl _) fun i r _ => ?_
  simp only
  repeat' split
  any_goals exact refl _
  exact of_conditions rfl rfl

theorem owner_unshelve (p : Port) (f : List Byte) (s : State) : MapStands s.alt (ownerUnshelve p f s).state.alt := by
  refine withAlarm_state (P := fun t : State => MapStands s.alt t.alt) (refl _) fun i r _ => ?_
  split
  · exact refl _
  · exact of_conditions rfl rfl

theorem owner_releaseShift (p : Port) (f : List Byte) (s : State) :
    MapStands s.alt (ownerReleaseShift p f s).state.alt := by
  unfold ownerReleaseShift
  repeat' split
  · exact refl _
  · exact refl _
  · exact (freeHeld _ s).trans (closeShift _)
  · exact freeHeld _ s

theorem owner_readShift (p : Port) (f : List Byte) (s : State) : MapStands s.alt (ownerReadShift p f s).state.alt := by
  unfold ownerReadShift State.readHeld
  simp only
  repeat' split
  any_goals exact refl _
  exact reportNotice false (s.setShift { s.sht with held := _ })

/-- The requests that write the table by no report, the trip map's own and the warm restart apart. -/
theorem owner (k : Kind) (p : Port) (f : List Byte) (s : State) (own : k ∈ Reporting.tableKinds)
    (other : k ≠ .setTripEntry ∧ k ≠ .warmRestart) : MapStands s.alt (ownerOf k p f s).state.alt := by
  cases k with
  | ackAlarm => exact owner_ackAlarm p f s
  | ackAll =>
    show MapStands s.alt (ownerAckAll p f s).state.alt
    unfold ownerAckAll
    simp only
    split
    · exact refl _
    · exact ackAll s
  | shelve => exact owner_shelve p f s
  | unshelve => exact owner_unshelve p f s
  | silence =>
    show MapStands s.alt (ownerSilence p f s).state.alt
    unfold ownerSilence
    split
    · exact of_conditions rfl rfl
    · exact refl _
  | collectAlarms =>
    show MapStands s.alt (s.setAlt (s.alt.collect p)).settle.alt
    exact of_conditions rfl rfl
  | setTripEntry => exact absurd rfl other.1
  | shiftClose =>
    show MapStands s.alt (ownerShiftClose p f s).state.alt
    unfold ownerShiftClose
    split
    · exact refl _
    · exact closeShift s
  | releaseShift => exact owner_releaseShift p f s
  | correctShift =>
    show MapStands s.alt (ownerCorrectShift p f s).state.alt
    unfold ownerCorrectShift
    repeat' split
    all_goals exact refl _
  | readShift => exact owner_readShift p f s
  | warmRestart => exact absurd rfl other.2
  | _ => exact absurd own (of_decide_eq_true rfl)

end AlarmTable.MapStands

section effects
variable {s t : State} {id j : Identity} {c : Chan} {e : EntryNo}

theorem AlarmTable.goesDue_iff {a : AlarmTable} {p : TripAction → Bool} : a.goesDue id e p = true ↔
    (a.tripMap.get e).inForce = true ∧ ∃ r, (a.tripMap.get e).rule = some r ∧ r.identity = id ∧ p r.action = true := by
  simp [goesDue, Option.any_eq_true]

theorem AlarmTable.holdsOn_eq_goesDue (a : AlarmTable) : a.holdsOn e id c = a.goesDue id e (·.stops c) := rfl

theorem EntersForce.holdsOn {l : Option Level} (h : EntersForce id l s t) :
    t.alt.holdsOn e j c = true ↔ s.alt.holdsOn e j c = true ∨ s.alt.dueAt id l e (·.stops c) = true ∧ j = id := by
  have due {r : TripRule} (rule : (s.alt.tripMap.get e).rule = some r) (p : TripAction → Bool) :
      s.alt.dueAt id l e p = (!(s.alt.tripMap.get e).inForce
        && (r.identity == id && (r.minLevel == .any || l == some .crit) && p r.action)) := by
    rw [AlarmTable.dueAt, rule, Option.any_some]
  simp only [AlarmTable.holdsOn, h.entry]
  cases rule : (s.alt.tripMap.get e).rule with
  | none => simp [AlarmTable.dueAt, rule]
  | some r =>
    simp only [due rule, Option.any_some, TripAction.stops]
    by_cases same : r.identity = id
    · subst same
      have turn : r.identity = j ↔ j = r.identity := eq_comm
      cases (s.alt.tripMap.get e).inForce <;> simp [turn]
      tauto
    · simp [same]

theorem LeavesForce.holdsOn (h : LeavesForce id s t) :
    t.alt.holdsOn e j c = true ↔ s.alt.holdsOn e j c = true ∧ j ≠ id := by
  simp only [AlarmTable.holdsOn, h.entry]
  cases rule : (s.alt.tripMap.get e).rule with
  | none => simp
  | some r =>
    simp only [AlarmTable.goesDue, rule, Option.any_some, Bool.and_true]
    by_cases same : r.identity = id
    · subst same
      have turn : r.identity = j ↔ j = r.identity := eq_comm
      cases (s.alt.tripMap.get e).inForce <;> simp [turn]
      tauto
    · have ne : r.identity = j → j ≠ id := by rintro rfl; exact same
      simp only [beq_false_of_ne same, Bool.and_false, Bool.not_false, Bool.and_true, Bool.and_eq_true, beq_iff_eq]
      tauto

end effects

namespace State.TripsAgree

variable {s t : State} {p : Port} {f : List Byte}

theorem ordinary (h : s.TripsAgree) {e : EntryNo} {r : TripRule} (rule : (s.alt.tripMap.get e).rule = some r) :
    r.identity ≠ .system .tableFull := Identity.ordinary_of_mappable (h.rules e r rule)

theorem congr (h : s.TripsAgree) (stands : AlarmTable.MapStands s.alt t.alt)
    (holds : ∀ c, (t.chan c).alarmHolds = (s.chan c).alarmHolds ∧ (t.chan c).holds.alarm = (s.chan c).holds.alarm) :
    t.TripsAgree := by
  refine ⟨fun e r => ?_, fun e => ?_, fun c id => ?_, fun c => (h.sound c).congr (holds c)⟩
  · rw [stands.map]
    exact h.rules e r
  · rw [stands.map]
    intro inForce
    obtain ⟨r, rule, present⟩ := h.inForce e inForce
    exact ⟨r, rule, (stands.present (h.ordinary rule)).trans present⟩
  · simp only [(holds c).1, AlarmTable.holdsOn, stands.map]
    exact h.listed c id

theorem still (h : s.TripsAgree) {a : AlarmTable} (stands : AlarmTable.MapStands s.alt a) : (s.setAlt a).TripsAgree :=
  h.congr stands fun _ => ⟨rfl, rfl⟩

/-! ### Reports -/

/-- Entries of a present identity come into force, and their channels list it. -/
theorem enters {id : Identity} {l : Option Level} (h : s.TripsAgree) (effect : EntersForce id l s t)
    (present : t.alt.isPresent id = true) (others : AlarmTable.OthersStand id s.alt t.alt) : t.TripsAgree := by
  have rule (e : EntryNo) : (t.alt.tripMap.get e).rule = (s.alt.tripMap.get e).rule := by rw [effect.entry]
  have chan (c : Chan) : (t.chan c) = _ := congrArg ChannelUnit.chan (effect.unit c)
  refine ⟨fun e r => by rw [rule]; exact h.rules e r, fun e inForce => ?_, fun c j => ?_, fun c => ?_⟩
  · rw [rule]
    rw [effect.entry, Bool.or_eq_true] at inForce
    obtain old | new := inForce
    · obtain ⟨r, named, held⟩ := h.inForce e old
      refine ⟨r, named, ?_⟩
      by_cases same : r.identity = id
      · rw [same]; exact present
      · rw [others _ same (h.ordinary named)]; exact held
    · simp only [AlarmTable.dueAt, Bool.and_eq_true, Option.any_eq_true, beq_iff_eq] at new
      obtain ⟨-, r, named, ⟨same, -⟩, -⟩ := new
      exact ⟨r, named, by rw [same]; exact present⟩
  · rw [chan]
    refine (ChannelRecord.mem_acted ..).trans ?_
    rw [show (s.unit c).chan = s.chan c from rfl, h.listed]
    simp only [List.any_eq_true, List.mem_finRange, true_and, effect.holdsOn, exists_or, exists_and_right]
  · rw [chan]
    exact (h.sound c).acted ..

/-- Entries of an absent identity go out of force, and no channel lists it. -/
theorem leaves {id : Identity} (h : s.TripsAgree) (effect : LeavesForce id s t)
    (others : AlarmTable.OthersStand id s.alt t.alt) : t.TripsAgree := by
  have rule (e : EntryNo) : (t.alt.tripMap.get e).rule = (s.alt.tripMap.get e).rule := by rw [effect.entry]
  have chan (c : Chan) : t.chan c = (s.chan c).outOf (if (s.chan c).alarmHolds.contains id
      && (List.finRange 16).any fun e => s.alt.goesDue id e (·.stops c) then some id else none) :=
    (congrArg ChannelUnit.chan (effect.unit_outOf c)).trans (ChannelUnit.outOf_chan ..)
  have listed (c : Chan) : ((s.chan c).alarmHolds.contains id
      && (List.finRange 16).any fun e => s.alt.goesDue id e (·.stops c)) = (s.chan c).alarmHolds.contains id := by
    refine Bool.and_eq_left_iff_imp.mpr fun mem => ?_
    obtain ⟨e, hold⟩ := (h.listed c id).mp (by simpa using mem)
    exact List.any_eq_true.mpr ⟨e, List.mem_finRange e, hold⟩
  refine ⟨fun e r => by rw [rule]; exact h.rules e r, fun e inForce => ?_, fun c j => ?_, fun c => ?_⟩
  · rw [rule]
    rw [effect.entry, Bool.and_eq_true] at inForce
    obtain ⟨old, stays⟩ := inForce
    obtain ⟨r, named, held⟩ := h.inForce e old
    have ne : r.identity ≠ id := by
      rintro same
      simp [AlarmTable.goesDue, old, named, same] at stays
    exact ⟨r, named, (others _ ne (h.ordinary named)).trans held⟩
  · rw [chan, listed, (h.sound c).mem_outOf, h.listed]
    simp only [effect.holdsOn, exists_and_right]
    refine and_congr_right fun ⟨e, hold⟩ => ?_
    have mem := (h.listed c j).mpr ⟨e, hold⟩
    by_cases same : j = id
    · subst same; simp [mem]
    · simp [same, Ne.symm same]
  · rw [chan]
    exact (h.sound c).outOf _

theorem comes (h : s.TripsAgree) (id : Identity) (l : Option Level) (p : Priority) (ordinary : id ≠ .system .tableFull) :
    (s.comes id l p).TripsAgree := by
  by_cases changes : ∀ k, s.alt.condition id = some k → k.level ≠ l
  · exact h.enters (State.comes_enters ordinary p changes) (State.comes_present ordinary l p s) (.comes l p s)
  · obtain ⟨k, present, same⟩ : ∃ k, s.alt.condition id = some k ∧ k.level = l := by
      simpa only [not_forall, not_not, exists_prop] using changes
    unfold State.comes
    rw [present]
    simp only
    rw [if_neg (not_not.mpr same)]
    refine h.still ⟨rfl, fun j ne _ => ?_⟩
    by_cases own : j = id
    · subst own
      rw [AlarmTable.isPresent_setCondition_self, AlarmTable.isPresent_of_condition present]
      rfl
    · rw [AlarmTable.isPresent, AlarmTable.setCondition_condition_ne own]
      rfl

theorem levelChanges (h : s.TripsAgree) (id : Identity) (l : Option Level) (p : Priority)
    (ordinary : id ≠ .system .tableFull) : (s.levelChanges id l p).TripsAgree :=
  h.enters (State.levelChanges_enters ordinary l p s) (State.levelChanges_present ordinary l p s) (.levelChanges l p s)

theorem goes (h : s.TripsAgree) (id : Identity) : (s.goes id).TripsAgree := by
  by_cases present : s.alt.isPresent id = true
  · exact h.leaves (State.goes_leaves present fun c => (h.sound c).once) (.goes s)
  · have absent : s.alt.condition id = none := by simpa [AlarmTable.isPresent] using present
    unfold State.goes
    rw [absent]
    exact h

theorem reporting (r : Reporting s t) (h : s.TripsAgree) : t.TripsAgree := by
  induction r with
  | quiet q => exact h.congr (by rw [q.alarms]; exact .refl _) q.holds
  | comes id l p s ordinary => exact h.comes id l p ordinary
  | levelChanges id l p s ordinary => exact h.levelChanges id l p ordinary
  | goes id s _ => exact h.goes id
  | trans _ _ first second => exact second (first h)

/-! ### The replacement of an entry -/

/-- What leaves a channel's list with an entry: the identities that no other entry in force holds it on. -/
theorem mem_endsHold (h : s.TripsAgree) (e : EntryNo) (c : Chan) (j : Identity) :
    (j ∈ (s.chan c).alarmHolds ∧ s.endsHold e c ≠ some j) ↔ ∃ o, o ≠ e ∧ s.alt.holdsOn o j c = true := by
  have ends : s.endsHold e c = some j ↔ s.alt.holdsOn e j c = true ∧ j ∈ (s.chan c).alarmHolds
      ∧ ∀ o, o ≠ e → s.alt.holdsOn o j c = false := by
    simp only [State.endsHold, Option.filter_eq_some_iff, Option.map_eq_some_iff, Bool.and_eq_true, List.all_eq_true,
      List.mem_finRange, true_implies, Bool.or_eq_true, beq_iff_eq, Bool.not_eq_true', List.contains_iff_mem, and_assoc]
    constructor
    · rintro ⟨-, hold, mem, alone⟩
      exact ⟨hold, mem, fun o ne => (alone o).resolve_left ne⟩
    · rintro ⟨hold, mem, alone⟩
      obtain ⟨r, -, rule, same, -⟩ := AlarmTable.holdsOn_iff.mp hold
      exact ⟨⟨r, rule, same⟩, hold, mem, fun o => (em (o = e)).imp_right (alone o)⟩
  rw [ne_eq, ends]
  constructor
  · rintro ⟨mem, stays⟩
    by_cases other : ∃ o, o ≠ e ∧ s.alt.holdsOn o j c = true
    · exact other
    · have alone (o : EntryNo) (ne : o ≠ e) : s.alt.holdsOn o j c = false := by
        rw [← Bool.not_eq_true]
        exact fun hold => other ⟨o, ne, hold⟩
      obtain ⟨o, hold⟩ := (h.listed c j).mp mem
      by_cases own : o = e
      · subst own; exact absurd ⟨hold, mem, alone⟩ stays
      · exact ⟨o, own, hold⟩
  · rintro ⟨o, ne, hold⟩
    exact ⟨(h.listed c j).mpr ⟨o, hold⟩, fun ⟨_, _, alone⟩ => absurd (hold.symm.trans (alone o ne)) nofun⟩

theorem replaces {e : EntryNo} {x : Option TripRule} (h : s.TripsAgree) (effect : Replaces e x s t)
    (mappable : ∀ r, x = some r → r.identity.mappable = true)
    (others : AlarmTable.OthersStand (.system .tableFull) s.alt t.alt) : t.TripsAgree := by
  have chan (c : Chan) : t.chan c = x.elim ((s.chan c).outOf (s.endsHold e c)) fun y =>
      ((s.chan c).outOf (s.endsHold e c)).acted y.identity (y.action.stops c && s.alt.meets y)
        (y.action.trips c (s.chan c).config.location && s.alt.meets y) := by
    have h := congrArg ChannelUnit.chan (effect.unit c)
    cases x with
    | none => exact h.trans (ChannelUnit.outOf_chan ..)
    | some y => exact h.trans (congrArg (ChannelRecord.acted _ _ _) (ChannelUnit.outOf_chan ..))
  refine ⟨fun o r rule => ?_, fun o inForce => ?_, fun c j => ?_, fun c => ?_⟩
  · by_cases own : o = e
    · rw [own, effect.written] at rule
      exact mappable r rule
    · rw [effect.others o own] at rule
      exact h.rules o r rule
  · by_cases own : o = e
    · rw [own, effect.written] at inForce ⊢
      obtain ⟨r, named, meets⟩ := (Option.any_eq_true ..).mp inForce
      refine ⟨r, named, (others _ ?_ ?_).trans ?_⟩
      · exact Identity.ordinary_of_mappable (mappable r named)
      · exact Identity.ordinary_of_mappable (mappable r named)
      · obtain ⟨k, present, -⟩ := (Option.any_eq_true ..).mp meets
        exact AlarmTable.isPresent_of_condition present
    · rw [effect.others o own] at inForce ⊢
      obtain ⟨r, named, held⟩ := h.inForce o inForce
      exact ⟨r, named, (others _ (h.ordinary named) (h.ordinary named)).trans held⟩
  · have entry (o : EntryNo) : t.alt.holdsOn o j c = if o = e then x.any s.alt.meets
        && x.any fun r => r.identity == j && r.action == .holdChannel c else s.alt.holdsOn o j c := by
      split
      next own => rw [own, AlarmTable.holdsOn, effect.written]
      next other => rw [AlarmTable.holdsOn, effect.others o other]; rfl
    have split : (∃ o, t.alt.holdsOn o j c = true) ↔ (∃ o, o ≠ e ∧ s.alt.holdsOn o j c = true)
        ∨ (x.any s.alt.meets && x.any fun r => r.identity == j && r.action == .holdChannel c) = true := by
      simp only [entry]
      constructor
      · rintro ⟨o, hold⟩
        by_cases own : o = e
        · rw [if_pos own] at hold; exact .inr hold
        · rw [if_neg own] at hold; exact .inl ⟨o, own, hold⟩
      · rintro (⟨o, own, hold⟩ | hold)
        · exact ⟨o, by rw [if_neg own]; exact hold⟩
        · exact ⟨e, by rw [if_pos rfl]; exact hold⟩
    rw [split, ← h.mem_endsHold e c j, ← (h.sound c).mem_outOf, chan]
    cases x with
    | none => simp
    | some y =>
      rw [Option.elim_some, ChannelRecord.mem_acted]
      simp only [Option.any_some, TripAction.stops, Bool.and_eq_true, beq_iff_eq]
      tauto
  · rw [chan]
    cases x with
    | none => exact (h.sound c).outOf _
    | some y => exact ((h.sound c).outOf _).acted ..

theorem replaceEntry (h : s.TripsAgree) (e : EntryNo) {x : Option TripRule}
    (mappable : ∀ r, x = some r → r.identity.mappable = true) : (s.replaceEntry e x).TripsAgree := by
  refine h.replaces (State.replaceEntry_effect e x s) mappable ?_
  have written : AlarmTable.OthersStand (.system .tableFull) s.alt ((s.oldEntryOut e).writeEntry e x).alt :=
    .of_offMap (State.OutputsDriven.oldEntryOut_offMap e s)
  unfold State.replaceEntry
  cases x with
  | none => exact written
  | some y =>
    obtain ⟨-, -, conditions⟩ := State.shelvingEnds_kept y.identity ((s.oldEntryOut e).writeEntry e (some y))
    refine (written.trans fun j _ _ => ?_).trans ((AlarmTable.OthersStand.of_offMap
      (State.entryIntoForce_offMap e _)).trans (.settled _))
    rw [AlarmTable.isPresent, AlarmTable.isPresent, conditions]

/-! ### Starts -/

/-- Nothing in force and nothing listed. -/
theorem cleared (rules : ∀ e r, (s.alt.tripMap.get e).rule = some r → r.identity.mappable = true)
    (out : ∀ e, (s.alt.tripMap.get e).inForce = false)
    (free : ∀ c, (s.chan c).alarmHolds = [] ∧ (s.chan c).holds.alarm = false) : s.TripsAgree := by
  refine ⟨rules, fun e inForce => ?_, fun c id => ?_, fun c => ⟨?_, ?_⟩⟩
  · rw [out] at inForce
    cases inForce
  · simp [free, AlarmTable.holdsOn, out]
  · rw [(free c).1]
    exact List.nodup_nil
  · simp [free]

theorem start (x : ResetCause) (stored : s.sst.image.settings.Mappable) : (s.start x).TripsAgree := by
  refine reporting (Reporting.started x s) (cleared (fun e r rule => ?_) (fun e => ?_) fun c => ?_)
  · exact stored e r (by simpa [State.fresh, AlarmTable.start] using rule)
  · simp [State.fresh, AlarmTable.start]
  · simp [State.fresh, State.chan, ChannelController.start, ChannelRecord.start, HoldCauses.empty]

theorem warmRestart (h : s.TripsAgree) : s.warmRestart.TripsAgree := by
  refine reporting (Reporting.warmResent s) (cleared (fun e r rule => h.rules e r ?_) (fun e => ?_) fun c => ?_)
  · simpa [State.reportNotice, State.settle, AlarmTable.settled, State.blocksWarm, AlarmTable.warm] using rule
  · simp [State.reportNotice, State.settle, AlarmTable.settled, State.blocksWarm, AlarmTable.warm]
  · simp [State.blocksWarm, State.chan, ChannelController.warm, ChannelRecord.warm, HoldCauses.empty,
      State.reportNotice, State.settle]

/-! ### Commands -/

theorem owner (k : Kind) (p : Port) (f : List Byte) (h : s.TripsAgree) : (ownerOf k p f s).state.TripsAgree := by
  by_cases own : k ∈ Reporting.tableKinds
  · have stands (other : k ≠ .setTripEntry ∧ k ≠ .warmRestart) (out : .alarmHolds ∉ touchedBy k) :
        (ownerOf k p f s).state.TripsAgree :=
      h.congr (.owner k p f s own other) ((Touches.owner k p f s).alarmHolds out)
    cases k with
    | setTripEntry =>
      show (ownerSetTripEntry p f s).state.TripsAgree
      unfold ownerSetTripEntry
      split
      · exact h
      · split
        next e x _ spelled =>
          refine (h.replaceEntry e fun r named => ?_).congr (.of_conditions rfl rfl) fun _ => ⟨rfl, rfl⟩
          exact mappable_of_tripContents (named ▸ spelled)
        next => exact h
    | warmRestart =>
      show (ownerWarmRestart p f s).state.TripsAgree
      simp only [ownerWarmRestart, taken]
      exact h.warmRestart
    | ackAlarm | ackAll | shelve | unshelve | silence | collectAlarms | shiftClose | releaseShift | correctShift
    | readShift => exact stands ⟨nofun, nofun⟩ (of_decide_eq_true rfl)
    | _ => exact absurd own (of_decide_eq_true rfl)
  · exact reporting (.owner k p f s own) h

theorem event (e : Event) (stored : s.sst.image.settings.Mappable) (h : s.TripsAgree) : (e.run s).TripsAgree := by
  have stands (out : .alarmHolds ∉ e.touched) (map : AlarmTable.MapStands s.alt (e.run s).alt) : (e.run s).TripsAgree :=
    h.congr map ((Touches.event e s).alarmHolds out)
  cases e with
  | halt ph => exact stands (of_decide_eq_true rfl) (.of_conditions rfl rfl)
  | start x =>
    show (s.start x).TripsAgree
    exact start x stored
  | shelvingTick => exact stands (of_decide_eq_true rfl) (.of_conditions rfl rfl)
  | shelfEnds i => exact stands (of_decide_eq_true rfl) (.shelfEnds i s)
  | shiftSecond => exact stands (of_decide_eq_true rfl) (.shiftSecond s)
  | _ => exact reporting (.event _ s rfl) h

end State.TripsAgree

theorem Settings.mappable_default : Settings.default.Mappable := fun e r rule => by
  simp only [Settings.default, Tbl.get_put, Tbl.get_all] at rule
  split at rule
  · cases rule
    rfl
  · cases rule

theorem kept_tripMapAgrees : Kept State.TripMapAgrees where
  ports s t same h := by
    rw [State.tripMapAgrees_iff] at h ⊢
    rw [same]
    exact ⟨⟨h.1.rules, h.1.inForce, h.1.listed, h.1.sound⟩, h.2.congr rfl rfl⟩
  owner k p f s _ h := by
    obtain ⟨agree, store⟩ := State.tripMapAgrees_iff.mp h
    exact State.tripMapAgrees_iff.mpr ⟨agree.owner k p f, store.owner k p f h.rules⟩
  event e s _ h := by
    obtain ⟨agree, store⟩ := State.tripMapAgrees_iff.mp h
    exact State.tripMapAgrees_iff.mpr ⟨agree.event e store.stored, store.event e Settings.mappable_default⟩

/-- Settles O56: the records by what each report writes, the trip map by the entries that a report brings into force and
takes out of it. -/
theorem alarmTableStaysSound : Obligations.AlarmTableStaysSound :=
  ⟨fun _ _ h stepped => kept_alarmTableSound.step h stepped, fun _ _ h stepped => kept_tripMapAgrees.step h stepped⟩

end Sys2Proof.Machine
end

section
/-!
Proofs. O5, O6, O7: the point requests, an update entry, and the bands of Table 1.6.
-/
set_option Elab.async false

namespace Sys2Proof.Machine

/-! ### Update entries (R4) -/

/-- The record an update entry leaves at its point: the updated one, with the reported fields as then due. -/
def State.entryTaken (e : PointEntry) (s : State) : PointRecord :=
  let t := (s.setPoint e.point ((s.point e.point).updated e)).ptb
  { (s.point e.point).updated e with
    reportedLo := t.dueLo e.point, reportedHi := t.dueHi e.point, reportedQuality := t.dueQuality e.point }

theorem State.takeEntry_point (e : PointEntry) (s : State) (n : PointNo) :
    (s.takeEntry e).point n = if n = e.point then s.entryTaken e else s.point n := by
  have own : (s.setPoint e.point ((s.point e.point).updated e)).ptb.points.get e.point = (s.point e.point).updated e :=
    Tbl.get_put_self ..
  rw [State.takeEntry, State.reconcile_point]
  split
  · rw [PointTable.matched, own, entryTaken]
  next ne => exact Tbl.get_put_ne ne ..

/-- Settles O6: the record of the entry's point is the updated one, over which a reconciliation writes reported fields
alone. -/
theorem entryStoresClampedValue : Obligations.EntryStoresClampedValue := by
  intro e s
  have record : (s.takeEntry e).point e.point = s.entryTaken e := by rw [State.takeEntry_point, if_pos rfl]
  have stored : e.stored = if clampToRange e.point e.value ≠ e.value ∧ e.quality = .good then .uncertain else e.quality := by
    simp [PointEntry.stored, PointEntry.clamped]
  refine ⟨by rw [record]; rfl, by rw [record]; exact stored, by rw [record]; rfl, fun bad => ?_, by rw [record]; rfl,
    fun n ne => by rw [State.takeEntry_point, if_neg ne]⟩
  have unusable : e.stored.usable = false := by simp [stored, bad, Quality.usable]
  rw [record]
  show (if e.stored.usable then _ else _) = _
  rw [unusable]
  rfl

/-! ### Bands (R7) -/

section bands
variable {l : LimitSet} {b : Band} {v : Int}

theorem above_false_of_le {x : Int} (le : v ≤ x) : above v (some x) = false := decide_eq_false (Int.not_lt.mpr le)

theorem below_false_of_le {x : Int} (le : x ≤ v) : below v (some x) = false := decide_eq_false (Int.not_lt.mpr le)

/-- A band is entered only strictly beyond its limit. -/
theorem evaluateBand_entered : (∀ x, l.critHigh = some x → b ≠ .critHigh → v ≤ x → evaluateBand l b v ≠ .critHigh)
    ∧ (∀ x, l.critLow = some x → b ≠ .critLow → x ≤ v → evaluateBand l b v ≠ .critLow)
    ∧ (∀ x, l.high = some x → b ≠ .high → b ≠ .critHigh → v ≤ x → evaluateBand l b v ≠ .high)
    ∧ (∀ x, l.low = some x → b ≠ .low → b ≠ .critLow → x ≤ v → evaluateBand l b v ≠ .low) := by
  unfold evaluateBand
  refine ⟨fun x limit other le => ?_, fun x limit other le => ?_, fun x limit other crit le => ?_,
    fun x limit other crit le => ?_⟩
  · simp only [limit, above_false_of_le le, other, false_and, if_false, Bool.false_eq_true]
    split_ifs <;> simp
  · simp only [limit, below_false_of_le le, other, false_and, if_false, Bool.false_eq_true]
    split_ifs <;> simp
  · simp only [limit, above_false_of_le le, other, crit, or_false, false_and, if_false, Bool.false_eq_true]
    split_ifs <;> simp
  · simp only [limit, below_false_of_le le, other, crit, or_false, false_and, if_false, Bool.false_eq_true]
    split_ifs <;> simp

/-- A value strictly beyond a limit gives the band, in the order of Table 1.6. -/
theorem evaluateBand_beyond : (∀ x, l.critHigh = some x → x < v → evaluateBand l b v = .critHigh)
    ∧ (∀ x, l.critLow = some x → v < x → above v l.critHigh = false → evaluateBand l b v = .critLow)
    ∧ (∀ x, l.high = some x → x < v → above v l.critHigh = false → below v l.critLow = false →
        evaluateBand l b v = if b = .critHigh ∧ notUnder v l.deadband l.critHigh then .critHigh else .high)
    ∧ (∀ x, l.low = some x → v < x → above v l.critHigh = false → below v l.critLow = false →
        above v l.high = false →
        evaluateBand l b v = if b = .critLow ∧ notOver v l.deadband l.critLow then .critLow else .low) := by
  have up {x : Int} (lt : x < v) : above v (some x) = true := decide_eq_true lt
  have down {x : Int} (lt : v < x) : below v (some x) = true := decide_eq_true lt
  unfold evaluateBand
  refine ⟨fun x limit lt => ?_, fun x limit lt ch => ?_, fun x limit lt ch cl => ?_, fun x limit lt ch cl h => ?_⟩
  · rw [limit, if_pos (up lt)]
  · rw [ch, limit, if_neg Bool.false_ne_true, if_pos (down lt)]
  · rw [ch, cl, limit, if_neg Bool.false_ne_true, if_neg Bool.false_ne_true, if_pos (up lt)]
  · rw [ch, cl, h, limit, if_neg Bool.false_ne_true, if_neg Bool.false_ne_true, if_neg Bool.false_ne_true,
      if_pos (down lt)]

/-- Without a crossing on the low side, a high band is kept up to the deadband of its limit and left beyond it. -/
theorem evaluateBand_held_high {x : Int} (cl : below v l.critLow = false) (low : below v l.low = false) :
    (l.critHigh = some x → x - l.deadband ≤ v → evaluateBand l .critHigh v = .critHigh)
      ∧ (l.critHigh = some x → v < x - l.deadband → evaluateBand l .critHigh v = evaluateBand l .high v)
      ∧ (l.high = some x → above v l.critHigh = false →
          (x - l.deadband ≤ v → evaluateBand l .high v = .high)
          ∧ (v < x - l.deadband → evaluateBand l .high v = .normal)) := by
  refine ⟨fun limit le => ?_, fun limit lt => ?_, fun limit ch => ⟨fun le => ?_, fun lt => ?_⟩⟩
  · have kept : notUnder v l.deadband l.critHigh = true := by rw [limit]; exact decide_eq_true le
    unfold evaluateBand
    simp only [cl, low, kept, and_self, if_true, Bool.false_eq_true, if_false]
    split_ifs <;> rfl
  · have gone : notUnder v l.deadband l.critHigh = false := by rw [limit]; exact decide_eq_false (Int.not_le.mpr lt)
    simp [evaluateBand, gone]
  · have kept : notUnder v l.deadband l.high = true := by rw [limit]; exact decide_eq_true le
    simp [evaluateBand, ch, cl, low, kept]
  · have inside : above v l.high = false := by rw [limit]; exact above_false_of_le (by omega)
    have gone : notUnder v l.deadband l.high = false := by rw [limit]; exact decide_eq_false (Int.not_le.mpr lt)
    simp [evaluateBand, ch, cl, low, inside, gone]

/-- The same on the low side. -/
theorem evaluateBand_held_low {x : Int} (ch : above v l.critHigh = false) (high : above v l.high = false) :
    (l.critLow = some x → v ≤ x + l.deadband → evaluateBand l .critLow v = .critLow)
      ∧ (l.critLow = some x → x + l.deadband < v → evaluateBand l .critLow v = evaluateBand l .low v)
      ∧ (l.low = some x → below v l.critLow = false →
          (v ≤ x + l.deadband → evaluateBand l .low v = .low)
          ∧ (x + l.deadband < v → evaluateBand l .low v = .normal)) := by
  refine ⟨fun limit le => ?_, fun limit lt => ?_, fun limit cl => ⟨fun le => ?_, fun lt => ?_⟩⟩
  · have kept : notOver v l.deadband l.critLow = true := by rw [limit]; exact decide_eq_true le
    simp only [evaluateBand, ch, high, kept, and_self, if_true, Bool.false_eq_true, if_false, reduceCtorEq, false_and]
    split_ifs <;> rfl
  · have gone : notOver v l.deadband l.critLow = false := by rw [limit]; exact decide_eq_false (Int.not_le.mpr lt)
    simp [evaluateBand, gone]
  · have kept : notOver v l.deadband l.low = true := by rw [limit]; exact decide_eq_true le
    simp [evaluateBand, ch, high, cl, kept]
  · have inside : below v l.low = false := by rw [limit]; exact below_false_of_le (by omega)
    have gone : notOver v l.deadband l.low = false := by rw [limit]; exact decide_eq_false (Int.not_le.mpr lt)
    simp [evaluateBand, ch, high, cl, inside, gone]

end bands

/-- Settles O7: each clause is a row of Table 1.6 with the tests before it failed. -/
theorem bandsCrossStrictly : Obligations.BandsCrossStrictly :=
  ⟨fun _ _ _ => evaluateBand_entered, fun _ _ _ => evaluateBand_beyond, fun _ _ _ => evaluateBand_held_high,
    fun _ _ _ => evaluateBand_held_low, fun d b v => by
      simp [evaluateBand, above, below, notUnder, notOver]⟩

/-! ### The requests -/

section requests
variable {p : Port} {f : List Byte} {s : State} {n : PointNo}

theorem ownerSetLimits_of (named : point? (field f 0 1) = some n)
    (access : (s.point n).config.protect = true → s.acu.isOpen = true) (range : (limitSetOf f).inRange n = true)
    (order : rising (limitSetOf f).present = true) : ownerSetLimits p f s
      = ⟨.ok, u8 ((s.point n).withLimits (limitSetOf f)).band.code, s.writeLimits n (limitSetOf f)⟩ := by
  have opened : ¬ ((s.point n).config.protect = true ∧ s.acu.isOpen = false) :=
    fun h => absurd ((access h.1).symm.trans h.2) nofun
  simp only [ownerSetLimits, named, if_neg opened, range, order, Bool.true_eq_false, if_false]
  rfl

theorem ownerSetPointConfig_of {c : PointConfig} (named : point? (field f 0 1) = some n)
    (spelled : pointConfigOf f (s.point n).config = some c) : ownerSetPointConfig p f s
      = ⟨.ok, [], (s.setPoint n { s.point n with config := c }).reconcile n⟩ := by
  simp only [ownerSetPointConfig, named, spelled]
  rfl

theorem ownerSetProtectMark_set (named : point? (field f 0 1) = some n) (set : field f 1 1 = 1)
    (clear : (s.point n).config.protect = false) : ownerSetProtectMark p f s = ⟨.ok, [], s.writeProtect n true⟩ := by
  simp only [ownerSetProtectMark, named, set, clear, Bool.false_eq_true, if_false]
  rfl

theorem ownerSetProtectMark_remove (named : point? (field f 0 1) = some n) (remove : field f 1 1 = 0)
    (marked : (s.point n).config.protect = true) (access : s.acu.isOpen = true) :
    ownerSetProtectMark p f s = ⟨.ok, [], (s.writeProtect n false).startOpenTimer⟩ := by
  simp only [ownerSetProtectMark, named, remove, marked, access, Bool.true_eq_false, if_false]
  rfl

end requests

/-- Settles O5: each request by what its owner makes of the state it takes. -/
theorem pointRequestsAct : Obligations.PointRequestsAct := by
  refine ⟨fun p q f s ready => ⟨fun es entries => ?_, fun none => ?_⟩, fun p q f s n named => ⟨fun ready access range order => ?_,
    fun c ready spelled => ?_, fun ready set clear => ?_, fun ready remove marked access => ?_⟩⟩
  · refine exec_of_owner ready q ?_
    show ownerPointUpdate p f (s.taking p) = _
    simp only [ownerPointUpdate, entries]
    rfl
  · refine exec_of_owner ready q ?_
    show ownerPointUpdate p f (s.taking p) = _
    simp only [ownerPointUpdate, none]
    rfl
  · refine exec_of_owner ready q ((ownerSetLimits_of (p := p) named (by simpa using access) range order).trans ?_)
    simp only [State.writeLimits, State.taking_point]
  · refine exec_of_owner ready q ((ownerSetPointConfig_of (p := p) named (by simpa using spelled)).trans ?_)
    simp only [State.taking_point]
  · refine exec_of_owner ready q ((ownerSetProtectMark_set (p := p) named set (by simpa using clear)).trans ?_)
    simp only [State.writeProtect, State.taking_point]
  · refine exec_of_owner ready q ((ownerSetProtectMark_remove (p := p) named remove (by simpa using marked)
      (by simpa using access)).trans ?_)
    simp only [State.writeProtect, State.taking_point]

end Sys2Proof.Machine
end

section
/-!
Proofs. O10, O11: the registry's formula and a retired lot; O15, O16: the trip of every channel and CLEAR_TRIP's
questions; O30: the alarm records; O35: protected requests.
-/
set_option Elab.async false

namespace Sys2Proof.Machine

/-! ### The lot registry -/

/-- Settles O10: an accepted analysis passes the bounds of R21, and moisture takes nothing above the dry NCV. -/
theorem asReceivedNcvBounded : Obligations.AsReceivedNcvBounded := by
  intro d w x y a accepted
  unfold analysisOf at accepted
  split at accepted
  next bounds =>
    cases accepted
    obtain ⟨-, dry, -, -, -, floor⟩ := bounds
    have below : d * (1000 - w) / 1000 ≤ d := by
      refine Nat.div_le_of_le_mul ?_
      rw [Nat.mul_comm]
      exact Nat.mul_le_mul_right d (Nat.sub_le 1000 w)
    exact ⟨floor, (Nat.sub_le ..).trans (below.trans dry), rfl, rfl⟩
  next => cases accepted

theorem State.freeLot_lot (i j : LotNo) (s : State) : (s.freeLot i).lrg.lot j = if j = i then none else s.lrg.lot j := by
  unfold State.freeLot LotRegistry.lot
  simp only [Tbl.get_modify]
  split
  next e => rfl
  next => rfl

/-- Settles O11: the slot is empty, and no other one held the tag. -/
theorem retiredLotIsGone : Obligations.RetiredLotIsGone := by
  intro i r s held apart
  have empty : (s.freeLot i).lrg.lot i = none := by rw [State.freeLot_lot, if_pos rfl]
  refine ⟨fun g => ?_, fun tagged => ?_, fun j ne => Tbl.get_modify_ne ne ..⟩
  · unfold LotRegistry.byHandle
    rw [dif_pos i.isLt, if_pos (.inr (.inr (by rw [show (⟨i.val, i.isLt⟩ : LotNo) = i from rfl, empty]; rfl)))]
  · have out : (s.freeLot i).lrg.findTag r.tag = none := by
      refine List.find?_eq_none.mpr fun j _ named => ?_
      obtain ⟨x, other, same⟩ := (Option.any_eq_true ..).mp named
      rw [State.freeLot_lot] at other
      split at other
      · cases other
      next ne => exact ne (apart j i x r other held (eq_of_beq same))
    rw [LotRegistry.byTag, if_neg tagged, out]

/-! ### The trip of every channel (R53 to R55) -/

/-- A channel tripped, if it was not. -/
def ChannelUnit.tripped (x : TripCause) (u : ChannelUnit) : ChannelUnit :=
  if u.chan.state = .tripped then u
  else { chan := { u.chan with state := .tripped, tripCause := some x, startTimer := none }
         setpoint := 0, target := 0, feeder := u.feeder.zeroed }

theorem State.tripTaken_unit (c d : Chan) (x : TripCause) (s : State) : (s.tripTaken c x).unit d
    = if d = c then ⟨{ s.chan c with state := .tripped, tripCause := some x, startTimer := none }, 0, 0,
        (s.feeder c).zeroed⟩ else s.unit d := by
  simp only [State.unit, State.tripTaken_chan, State.tripTaken_setpoint, State.tripTaken_target, State.tripTaken_feeder]
  split
  next e => rfl
  next => rfl

theorem tripAll_unit (x : TripCause) (s : State) (d : Chan) : (allChans.foldl
    (fun s c => if (s.chan c).state = .tripped then s else s.tripTaken c x) s).unit d = (s.unit d).tripped x := by
  rw [foldl_chans State.unit _ (fun _ => ChannelUnit.tripped x) ?_ _ allChans_nodup, if_pos (mem_allChans d)]
  intro s c d
  split
  next on =>
    split
    next e => rw [e, ChannelUnit.tripped, if_pos (show (s.unit c).chan.state = .tripped from on)]
    next => rfl
  next off =>
    rw [State.tripTaken_unit]
    split
    next e => rw [ChannelUnit.tripped, if_neg (show ¬ (s.unit c).chan.state = .tripped from off)]; rfl
    next => rfl

/-- No move changes the first cause of a tripped channel. -/
theorem Moves.cause {s t : State} (h : Moves s t) {d : Chan} (on : (s.chan d).state = .tripped) :
    (t.chan d).tripCause = (s.chan d).tripCause := by
  induction h with
  | quiet h => exact (h.runs (of_decide_eq_true rfl) d).2
  | freeze c s =>
    rw [State.freeze_chan]
    split
    next frozen => rw [frozen.1]
    next => rfl
  | run c s _ =>
    rw [State.enterRunning_chan]
    split
    next e => rw [e]
    next => rfl
  | tripTaken c x s active =>
    rw [State.tripTaken_chan, if_neg]
    rintro rfl
    exact active on
  | fallBack c s => rw [State.fallBack_chan]
  | configure c cf s _ =>
    unfold State.setChanConfig
    rw [State.setChan_chan]
    split
    next e => rw [e]
    next => rfl
  | stallTime => rfl
  | trans a _ first second => exact (second (a.tripped on)).trans (first on)

theorem State.offNotice_operator (c : Chan) (b : Bool) (s : State) (d : Chan) :
    ((s.offNotice c b).chan d).holds.operator = (s.chan d).holds.operator := by
  unfold State.offNotice
  exact foldl_keeps (fun s : State => (s.chan d).holds.operator)
    (fun s p => ((ReportTouch.reports (s.ptb.reports p) (s.setPoint p _)).holds d).2) _ _

theorem State.tripEvery_operator (x : TripCause) (s : State) (d : Chan) :
    ((s.tripEvery x).chan d).holds.operator = (s.chan d).holds.operator := by
  unfold State.tripEvery
  refine (foldl_keeps (fun s : State => (s.chan d).holds.operator) (fun s c => s.offNotice_operator c false d) _ _).trans ?_
  refine foldl_keeps (fun s : State => (s.chan d).holds.operator) (fun s c => ?_) _ _
  split
  · rfl
  · rw [State.tripTaken_chan]
    split
    next e => rw [e]
    next => rfl

/-- The trip before the channel-off notices is a standstill of the channels it trips, and the notices keep it. -/
theorem State.tripEvery_stands (x : TripCause) (s : State) (c : Chan) (active : (s.chan c).state ≠ .tripped) :
    (s.tripEvery x).Stands c ∧ ((s.tripEvery x).chan c).tripCause = some x := by
  have unit := tripAll_unit x s c
  rw [ChannelUnit.tripped, if_neg (show ¬ (s.unit c).chan.state = .tripped from active)] at unit
  generalize trips : allChans.foldl (fun s c => if (s.chan c).state = .tripped then s else s.tripTaken c x) s = t at unit
  have chan : t.chan c = _ := congrArg ChannelUnit.chan unit
  have setpoint : t.setpoint c = 0 := congrArg ChannelUnit.setpoint unit
  have target : t.fsc.target.get c = 0 := congrArg ChannelUnit.target unit
  have feeder : t.feeder c = _ := congrArg ChannelUnit.feeder unit
  have stands : t.Stands c :=
    ⟨by rw [chan]; simp, fun _ => setpoint, fun _ => ⟨target, by rw [feeder]; exact ⟨rfl, rfl⟩⟩⟩
  have notices : Moves t (s.tripEvery x) := by
    unfold State.tripEvery
    rw [trips]
    exact Moves.foldl (fun s c => Moves.offNotice c false s) _ _
  exact ⟨.moves notices stands, (notices.cause (by rw [chan])).trans (by rw [chan])⟩

theorem State.tripEvery_cause (x : TripCause) (s : State) (c : Chan) (on : (s.chan c).state = .tripped) :
    ((s.tripEvery x).chan c).tripCause = (s.chan c).tripCause := (Moves.tripEvery x s).cause on

/-- Settles O15. -/
theorem everyTripStopsEveryChannel : Obligations.EveryTripStopsEveryChannel := by
  intro x s c
  have touched := Touches.tripEvery x s
  obtain ⟨limits, calibration⟩ := touched.staged (of_decide_eq_true rfl) c
  refine ⟨tripEvery_tripped x s c, fun active => ?_, s.tripEvery_cause x c, touched.fuels (of_decide_eq_true rfl) c,
    limits, calibration, (touched.masses (of_decide_eq_true rfl) c).1, s.tripEvery_operator x c,
    touched.losses (of_decide_eq_true rfl) c⟩
  obtain ⟨stands, cause⟩ := s.tripEvery_stands x c active
  have tripped := tripEvery_tripped x s c
  obtain ⟨target, pending, applied⟩ := stands.silent tripped
  exact ⟨cause, stands.idle (.inr tripped), target, pending, applied⟩

/-! ### CLEAR_TRIP (R57, R143) -/

theorem AlarmTable.record_eq_some_iff {a : AlarmTable} {i : SlotNo} {r : AlarmRecord} :
    a.record i = some r ↔ (a.slots.get i).content = .live r := by
  unfold record
  cases (a.slots.get i).content <;> simp

theorem AlarmTable.slotOf_isSome_iff {a : AlarmTable} {id : Identity} :
    (a.slotOf id).isSome = true ↔ ∃ i r, (a.slots.get i).content = .live r ∧ r.identity = id := by
  simp only [slotOf, List.find?_isSome, List.mem_finRange, true_and, Option.any_eq_true, record_eq_some_iff, beq_iff_eq]

/-- Settles O16: the refusal asks presence first, and a live record next. -/
theorem clearTripAsksTheAlarmTable : Obligations.ClearTripAsksTheAlarmTable := by
  intro s c cause id tripped caused named line
  have refusal : s.clearRefusal c = if s.alt.isPresent id then some 3 else if (s.alt.slotOf id).isSome then some 4 else none := by
    simp [State.clearRefusal, tripped, line, caused, named]
  have present : s.alt.isPresent id = true ↔ ∃ k, s.alt.conditions.get id.rank = some k := Option.isSome_iff_exists
  have absent : s.alt.isPresent id = false ↔ s.alt.conditions.get id.rank = none := by
    rw [AlarmTable.isPresent, AlarmTable.condition, Option.isSome_eq_false_iff, Option.isNone_iff_eq_none]
  have unrecorded : (∀ i r, (s.alt.slots.get i).content = .live r → r.identity ≠ id) ↔ ¬ (s.alt.slotOf id).isSome = true := by
    rw [AlarmTable.slotOf_isSome_iff]
    push Not
    rfl
  rw [refusal, ← present, ← absent, ← AlarmTable.slotOf_isSome_iff, unrecorded]
  cases s.alt.isPresent id <;> cases (s.alt.slotOf id).isSome <;> simp

/-! ### Alarm records (R144, R145) -/

theorem AlarmTable.Sound.silenced_hornDue (a : AlarmTable) (x : Option Stamp) :
    AlarmTable.hornDue { a with slots := a.slots.map (AlarmSlot.silenced x) } = false := by
  rw [← Bool.not_eq_true, hornDue]
  simp only [List.any_eq_true, silenced_record]
  rintro ⟨i, -, sounding⟩
  cases held : a.record i with
  | none => rw [held] at sounding; cases sounding
  | some r =>
    rw [held, Option.map_some] at sounding
    cases on : r.annunciate <;> simp [on, AlarmRecord.touched, AlarmRecord.sounds] at sounding

theorem AlarmTable.mem_marked {a : AlarmTable} {p : Port} {i : SlotNo} :
    i ∈ a.marked p ↔ (a.slots.get i).mark p = true := by simp [marked]

theorem AlarmSlot.collected_mark (p o : Port) (x : AlarmSlot) :
    (x.collected p).mark o = if p = o then false else x.mark o := by
  obtain ⟨g, content⟩ := x
  cases content with
  | free => cases p <;> cases o <;> rfl
  | live r => cases p <;> cases o <;> rfl
  | stub id mc mp => cases p <;> cases o <;> cases mc <;> cases mp <;> rfl

/-- Settles O30. -/
theorem alarmRecordsAreKept : Obligations.AlarmRecordsAreKept := by
  refine ⟨fun a stamp i => ⟨AlarmTable.Sound.silenced_hornDue a stamp, ?_⟩, fun a p o i other => ⟨fun mem => ?_, fun out => ?_, ?_, ?_⟩⟩
  · rw [AlarmTable.Sound.silenced_record, Option.map_map]
    congr 1
    funext r
    show (fun r : AlarmRecord => (r.identity, r.level, r.priority, r.state, r.shelvedUntil)) (if _ then _ else _) = _
    split <;> rfl
  · rw [AlarmTable.collect_slots, if_pos mem, AlarmSlot.collected_mark, if_pos rfl]
  · rw [AlarmTable.collect_slots, if_neg out]
  · rw [AlarmTable.collect_slots]
    split
    · rw [AlarmSlot.collected_mark, if_neg other]
    · rfl
  · rw [AlarmTable.collect_record, Option.map_map]
    congr 1
    funext r
    show (fun r : AlarmRecord => { r with markControl := false, markPanel := false }) (if _ then _ else _) = _
    split
    · cases p <;> rfl
    · rfl

/-! ### Protected requests (R172) -/

section protected_
variable {p : Port} {f : List Byte} {s : State}

/-- What R172 protects of a request. -/
def ProtectedRequest (k : Kind) (f : List Byte) (s : State) : Prop :=
  k ∈ [.setClCeiling, .setCreditParams, .setTripEntry, .setAccessWord]
    ∨ (k ∈ [.setChannelFuel, .setLotClLimit, .setFlowLimits, .setCalibration] ∧ (chan? (field f 0 1)).isSome = true)
    ∨ ((k = .setLimits ∨ (k = .setProtectMark ∧ field f 1 1 = 0))
        ∧ ∃ n, point? (field f 0 1) = some n ∧ (s.point n).config.protect = true)

theorem owner_accessRequired {k : Kind} (closed : s.acu.isOpen = false) (h : ProtectedRequest k f s) :
    ownerOf k p f s = refuse .accessRequired s := by
  obtain kind | ⟨kind, chan⟩ | ⟨kind, n, named, marked⟩ := h
  · simp only [List.mem_cons, List.not_mem_nil, or_false] at kind
    obtain rfl | rfl | rfl | rfl := kind
    · show ownerSetClCeiling p f s = _
      rw [ownerSetClCeiling, if_pos closed]
    · show ownerSetCreditParams p f s = _
      rw [ownerSetCreditParams, if_pos closed]
    · show ownerSetTripEntry p f s = _
      rw [ownerSetTripEntry, if_pos closed]
    · show ownerSetAccessWord p f s = _
      rw [ownerSetAccessWord, if_pos closed]
  · obtain ⟨c, named⟩ := Option.isSome_iff_exists.mp chan
    simp only [List.mem_cons, List.not_mem_nil, or_false] at kind
    obtain rfl | rfl | rfl | rfl := kind
    · show ownerSetChannelFuel p f s = _
      rw [ownerSetChannelFuel, withChan_named named, if_pos closed]
    · show ownerSetLotClLimit p f s = _
      rw [ownerSetLotClLimit, withChan_named named, if_pos closed]
    · show ownerSetFlowLimits p f s = _
      rw [ownerSetFlowLimits, withChan_named named, if_pos closed]
    · show ownerSetCalibration p f s = _
      rw [ownerSetCalibration, withChan_named named, if_pos closed]
  · obtain rfl | ⟨rfl, remove⟩ := kind
    · show ownerSetLimits p f s = _
      simp only [ownerSetLimits, named, if_pos (And.intro marked closed)]
    · show ownerSetProtectMark p f s = _
      simp only [ownerSetProtectMark, named, remove, marked, closed, Bool.true_eq_false, if_false, if_true]

end protected_

/-- Settles O35: the access check is the owner's first, after the channel or point is found. -/
theorem protectedNeedsAccess : Obligations.ProtectedNeedsAccess := fun k p q f s ready closed kind =>
  exec_of_owner ready q ((owner_accessRequired (p := p) (by simpa using closed)
    (by simpa [ProtectedRequest] using kind)).trans rfl)

end Sys2Proof.Machine
end

section
/-!
Proofs. O18, O20, O21, O23: a pairing, the credit, the chlorine ceiling, and the setpoints of stage 8.
-/
set_option Elab.async false

namespace Sys2Proof.Machine

/-! ### Setpoints (R78, R79) -/

section setpoints
variable {v : ChanView} {n : Nat}

theorem ChanView.newSetpoint_running (on : v.state = .running) : v.newSetpoint n = v.ramped n := by
  simp only [newSetpoint, on]

theorem ChanView.newSetpoint_holding (on : v.state = .holding) : v.newSetpoint n
    = if v.fallback = true ∧ v.cls = .conv ∧ v.minFlow < v.setpoint then max v.minFlow (v.setpoint - v.stopStep)
      else v.setpoint := by simp only [newSetpoint, on]

/-- Where a running channel's ramp starts (R78). -/
def ChanView.start (v : ChanView) (n : Nat) : Nat := if v.setpoint < v.minFlow ∧ n ≠ 0 then v.minFlow else v.setpoint

theorem ChanView.ramped_eq : v.ramped n = if v.start n < n then min n (v.start n + v.step)
    else match v.cls with
      | .alt => n
      | .conv => max n (v.start n - v.step) := rfl

theorem ChanView.ramped_alt_le (cls : v.cls = .alt) : v.ramped n ≤ n := by
  rw [ramped_eq, cls]
  split
  · exact Nat.min_le_left ..
  · exact le_refl n

theorem ChanView.setpoint_le_start : v.setpoint ≤ v.start n := by
  unfold start
  split
  next h => exact Nat.le_of_lt h.1
  next => exact le_refl _

theorem ChanView.start_le : v.start n ≤ max v.setpoint v.minFlow := by
  unfold start
  split
  · exact Nat.le_max_right ..
  · exact Nat.le_max_left ..

theorem ChanView.start_of_minFlow_le (above : v.minFlow ≤ v.setpoint) : v.start n = v.setpoint := by
  rw [start, if_neg fun h => absurd h.1 (Nat.not_lt.mpr above)]

/-- The bounds of a ramp: it passes neither the target nor the step. -/
theorem ChanView.ramped_bounds : v.ramped n ≤ max n (v.start n) ∧ v.ramped n ≤ max n (v.start n + v.step)
    ∧ (v.cls = .conv → v.setpoint - v.step ≤ v.ramped n) := by
  have rise := ChanView.setpoint_le_start (v := v) (n := n)
  rw [ramped_eq]
  split
  · refine ⟨?_, ?_, fun _ => ?_⟩ <;> omega
  · cases v.cls with
    | alt => exact ⟨Nat.le_max_left .., Nat.le_max_left .., nofun⟩
    | conv =>
      simp only
      refine ⟨?_, ?_, fun _ => ?_⟩ <;> omega

end setpoints

/-- Settles O23: by the channel's state; a running one by its ramp. -/
theorem setpointsMoveByState : Obligations.SetpointsMoveByState := by
  intro v n
  refine ⟨fun on => by simp only [ChanView.newSetpoint, ChanView.newTarget, on, and_self],
    fun on => by simp only [ChanView.newSetpoint, ChanView.newTarget, on, and_self], fun on => ⟨?_, ?_⟩, fun on live => ?_,
    fun on fallback => ?_, fun on => ?_, ?_⟩
  · rw [ChanView.newSetpoint_holding on]
    split <;> omega
  · simp only [ChanView.newTarget, on]
  · rw [ChanView.newSetpoint_holding on, if_neg (by simp [live])]
  · rw [ChanView.newSetpoint_holding on]
    cases cls : v.cls with
    | alt => simp
    | conv =>
      simp only [fallback, true_and, if_true]
      split <;> omega
  · obtain ⟨top, step, floor⟩ := ChanView.ramped_bounds (v := v) (n := n)
    have start := ChanView.start_le (v := v) (n := n)
    simp only [ChanView.newSetpoint_running on]
    refine ⟨by simp only [ChanView.newTarget, on], fun below => ?_, fun above cls => ?_, fun above cls => ?_, fun above => ?_, ?_,
      ChanView.ramped_alt_le, floor⟩
    · rw [ChanView.ramped_eq]
      exact if_pos below
    · rw [ChanView.ramped_eq, cls]
      exact if_neg (Nat.not_lt.mpr above)
    · rw [ChanView.ramped_eq, cls]
      exact if_neg (Nat.not_lt.mpr above)
    · rwa [ChanView.start_of_minFlow_le above] at top
    · exact step.trans (by omega)
  · rintro (off | off) <;> simp only [ChanView.newSetpoint, ChanView.newTarget, off, and_self]

/-! ### The stages' figures -/

section stages
variable (s : State)

theorem State.takeStages_published : s.takeStages.fsc.published
    = figures s.views s.correction (periodResult s.views s.correction s.fsc.config.ceiling).active
        (periodResult s.views s.correction s.fsc.config.ceiling).setpoints := rfl

theorem State.takeStages_lastCredit : s.takeStages.fsc.lastCredit
    = if s.creditBasis = .valid then s.creditUsed else s.fsc.lastCredit := rfl

@[simp] theorem State.views_get (c : Chan) : s.views.get c = s.view c := by simp [State.views]

end stages

/-! ### The credit (R72, R73) -/

theorem boundBy_bounds (b : Nat) (z : Int) : -(b : Int) ≤ boundBy b z ∧ boundBy b z ≤ b := by
  unfold boundBy
  omega

theorem boundBy_eq (b : Nat) (z : Int) : boundBy b z = max (-(b : Int)) (min (b : Int) z) := by
  rw [boundBy, min_comm]

theorem State.creditUsed_bounds (s : State) : -((s.fsc.demandMain / 10 : Nat) : Int) ≤ s.creditUsed
    ∧ s.creditUsed ≤ ((s.fsc.demandMain / 10 : Nat) : Int) := by
  unfold State.creditUsed
  split
  · exact boundBy_bounds ..
  · exact boundBy_bounds ..

theorem State.creditBasis_valid_iff (s : State) : s.creditBasis = .valid ↔ s.clc.mode = .normal ∧ (s.point 4).quality = .good := by
  unfold State.creditBasis creditState
  split
  next h => simp [h]
  next h => simp [h]

/-- Settles O20: the published credit is the one used, and the correction is what is published. -/
theorem creditIsBounded : Obligations.CreditIsBounded := by
  intro s
  obtain ⟨low, high⟩ := s.creditUsed_bounds
  refine ⟨low, high, fun k cap => ?_, fun cap => ?_, rfl, s.creditBasis_valid_iff, ⟨fun valid => ?_, fun frozen => ?_⟩,
    fun frozen => ?_, fun valid => ?_⟩
  · show capped s.fsc.flushCap _ ≤ k
    rw [cap]
    exact Nat.min_le_left ..
  · show ((capped s.fsc.flushCap (s.fsc.demandMain - s.creditUsed).toNat : Nat) : Int) = max 0 (s.fsc.demandMain - s.creditUsed)
    rw [cap, capped]
    omega
  · show s.creditUsed = _
    rw [State.creditUsed, show s.creditBasis = .valid from valid]
    exact boundBy_eq ..
  · show s.creditUsed = _
    rw [State.creditUsed, show s.creditBasis = .frozen from frozen]
    exact boundBy_eq ..
  · rw [State.takeStages_lastCredit, if_neg]
    rw [show s.creditBasis = .frozen from frozen]
    nofun
  · rw [State.takeStages_lastCredit, if_pos (show s.creditBasis = .valid from valid)]
    rfl

/-! ### The chlorine ceiling (R76, R80) -/

/-- A division of a whole by its parts hands out no more than the whole. -/
theorem sum_le_of_parts {l : List Chan} {f g : Chan → Nat} {n k : Nat} (some_ : 0 < n)
    (part : ∀ c ∈ l, f c * n ≤ g c * k) (whole : (l.map g).sum = n) : (l.map f).sum ≤ k := by
  have times (h : Chan → Nat) (m : Nat) : (l.map fun c => h c * m).sum = (l.map h).sum * m := by
    rw [List.sum_map_mul_right]
  have le : (l.map f).sum * n ≤ n * k :=
    calc (l.map f).sum * n = (l.map fun c => f c * n).sum := (times f n).symm
      _ ≤ (l.map fun c => g c * k).sum := List.sum_le_sum part
      _ = n * k := by rw [times, whole]
  exact Nat.le_of_mul_le_mul_right (by rwa [Nat.mul_comm k n]) some_

theorem sumWhere_le (vs : Views) (pick : ChanView → Bool) {f g : Chan → Nat}
    (le : ∀ c, pick (vs.get c) = true → f c ≤ g c) : sumWhere vs pick f ≤ sumWhere vs pick g :=
  List.sum_le_sum fun c mem => le c (List.mem_filter.mp mem).2

/-- A sum over one of two tests that exclude each other is the sum of the two. -/
theorem sumWhere_or (vs : Views) (p q : ChanView → Bool) (f : Chan → Nat) (apart : ∀ v, p v = true → q v = false) :
    sumWhere vs (fun v => p v || q v) f = sumWhere vs p f + sumWhere vs q f := by
  unfold sumWhere
  induction allChans with
  | nil => rfl
  | cons c l ih =>
    simp only [List.filter_cons]
    cases on : p (vs.get c) with
    | true =>
      rw [apart _ on]
      simp [ih, Nat.add_assoc]
    | false =>
      cases q (vs.get c) <;> simp [ih, Nat.add_left_comm]

/-- What stage 6 leaves of the running chlorine, above the ceiling (R76). -/
theorem chlorineStage_runningChlorine (vs : Views) (t : Flows) {g : Nat}
    (above : g * 1000 < fixedChlorine vs + runningChlorine vs t) :
    runningChlorine vs (chlorineStage vs (some g) t).targets ≤ g * 1000 - fixedChlorine vs := by
  simp only [chlorineStage, if_neg (Nat.not_le.mpr above)]
  by_cases allowed : g * 1000 ≤ fixedChlorine vs
  · refine (sumWhere_le vs _ (g := fun _ => 0) fun c pick => ?_).trans ((by simp [sumWhere] : _ = 0).trans_le (Nat.zero_le _))
    rw [Tbl.get_make, if_pos pick, scaled, if_pos (by omega), Nat.zero_mul]
  · refine sum_le_of_parts (n := runningChlorine vs t) (g := fun c => t.get c * (vs.get c).chlorine) (by omega)
      (fun c mem => ?_) rfl
    rw [Tbl.get_make, if_pos (List.mem_filter.mp mem).2]
    have share : scaled ((g * 1000 : Nat) - (fixedChlorine vs : Int)) (runningChlorine vs t) (vs.get c).minFlow (t.get c)
        * runningChlorine vs t ≤ t.get c * (g * 1000 - fixedChlorine vs) := by
      have same : ((g * 1000 : Nat) - (fixedChlorine vs : Int)).toNat = g * 1000 - fixedChlorine vs := by omega
      unfold scaled
      rw [same]
      split
      · simp
      · split
        · simp
        · exact Nat.div_mul_le_self ..
    calc _ = scaled _ _ _ _ * runningChlorine vs t * (vs.get c).chlorine := Nat.mul_right_comm ..
      _ ≤ t.get c * (g * 1000 - fixedChlorine vs) * (vs.get c).chlorine := Nat.mul_le_mul_right _ share
      _ = _ := Nat.mul_right_comm ..

/-- After stage 6 the chlorine is within the ceiling, where the fixed chlorine is (R76). -/
theorem chlorineStage_within (vs : Views) (t : Flows) {g : Nat} (fixed : fixedChlorine vs ≤ g * 1000) :
    fixedChlorine vs + runningChlorine vs (chlorineStage vs (some g) t).targets ≤ g * 1000 := by
  by_cases above : g * 1000 < fixedChlorine vs + runningChlorine vs t
  · have scaled := chlorineStage_runningChlorine vs t above
    omega
  · simp only [chlorineStage, if_pos (Nat.not_lt.mp above)]
    exact Nat.not_lt.mp above

theorem handedTargets_of_alt (vs : Views) (before after : Flows) {c : Chan} (cls : (vs.get c).cls = .alt) :
    (handedTargets vs before after).get c = after.get c := by
  simp [handedTargets, cls]

/-- The chlorine at the new setpoints is within that of the targets and of the setpoints that stand (R80). -/
theorem altChlorine_le (vs : Views) (k : Correction) (ceiling : Option Nat) :
    altChlorine vs (periodResult vs k ceiling).setpoints ≤ fixedChlorine vs + runningChlorine vs (chlorineStage vs ceiling
      (clampedTargets vs (firstTargets vs (available vs k.corrected)))).targets := by
  have split : (fun v : ChanView => v.state.active && v.cls == .alt)
      = fun v => (v.steady && v.cls == .alt) || (v.running && v.cls == .alt) := by
    funext v
    rw [← Bool.and_or_distrib_right]
    congr 1
    unfold ChanView.steady ChanView.running
    cases v.state <;> rfl
  rw [altChlorine, split, sumWhere_or _ _ _ _ fun v on => by
    unfold ChanView.steady at on
    unfold ChanView.running
    cases h : v.state <;> simp_all]
  refine Nat.add_le_add (sumWhere_le _ _ fun c pick => Nat.mul_le_mul_right _ ?_) (sumWhere_le _ _ fun c pick =>
    Nat.mul_le_mul_right _ ?_)
  · simp only [Bool.and_eq_true, beq_iff_eq] at pick
    simp only [periodResult, Tbl.get_make]
    obtain ⟨steady, cls⟩ := pick
    unfold ChanView.steady at steady
    unfold ChanView.newSetpoint
    cases on : (vs.get c).state <;> simp_all
  · simp only [Bool.and_eq_true, beq_iff_eq] at pick
    obtain ⟨running, cls⟩ := pick
    simp only [periodResult, Tbl.get_make, ChanView.newSetpoint_running (eq_of_beq running)]
    refine (ChanView.ramped_alt_le cls).trans ?_
    rw [handedTargets_of_alt _ _ _ cls]

/-! ### A firing period -/

/-- Two firing records that differ in the flows alone. -/
def Firing.Same (r x : Firing) : Prop := x = { r with target := x.target, setpoint := x.setpoint, clZeroed := x.clZeroed }

namespace Firing.Same

variable {r x : Firing}

theorem flows (h : Firing.Same r x) : ∃ a b c, x = { r with target := a, setpoint := b, clZeroed := c } := ⟨_, _, _, h⟩

theorem trans {y : Firing} (h : Firing.Same r x) (h' : Firing.Same x y) : Firing.Same r y := by
  obtain ⟨a, b, c, rfl⟩ := h.flows
  obtain ⟨d, e, f, rfl⟩ := h'.flows
  rfl

end Firing.Same

/-- Two states whose firing records differ in the flows alone. -/
def State.SameFiring (s t : State) : Prop := Firing.Same s.fsc t.fsc

namespace State.SameFiring

variable {s t u : State}

theorem refl (s : State) : SameFiring s s := rfl

theorem trans (h : SameFiring s t) (h' : SameFiring t u) : SameFiring s u := Firing.Same.trans h h'

theorem published (h : SameFiring s t) : t.fsc.published = s.fsc.published := by
  obtain ⟨a, b, c, same⟩ := Firing.Same.flows h
  rw [same]

theorem of_report (h : ReportTouch s t) : SameFiring s t := h.firing

theorem foldl {α : Type} {f : State → α → State} (h : ∀ s a, SameFiring s (f s a)) (l : List α) (s : State) :
    SameFiring s (l.foldl f s) := by
  induction l generalizing s with
  | nil => exact refl s
  | cons a l ih => exact (h s a).trans (ih _)

theorem offNotice (c : Chan) (b : Bool) (s : State) : SameFiring s (s.offNotice c b) := by
  have reconcile (s : State) (p : PointNo) : SameFiring s (s.reconcile p) := by
    unfold State.reconcile
    exact trans (t := s.setPoint p _) rfl (of_report (.reports (s.ptb.reports p) _))
  unfold State.offNotice
  exact foldl reconcile _ { s with ptb := { s.ptb with offMarks := s.ptb.offMarks.put c b } }

theorem stopEnds (c : Chan) (s : State) : SameFiring s (s.stopEnds c) := by
  unfold State.stopEnds
  split
  · exact offNotice c true (s.setChan c _)
  · exact refl s

end State.SameFiring

/-- A condition told by two marks of what was and what is to be reported. -/
def State.told (id : Identity) (before after : Bool) (s : State) : State :=
  if after && !before then s.comesFixed id else if !after && before then s.goes id else s

theorem State.told_sameFiring (id : Identity) (before after : Bool) (s : State) : SameFiring s (s.told id before after) := by
  unfold State.told
  split
  · exact .of_report (.comes ..)
  · split
    · exact .of_report (.goes ..)
    · exact .refl s

/-- The deficit condition of a location after a period: what it reports, from the count (R81). -/
def deficitTold (above : Bool) (delay count : Nat) (before : Bool) : Bool := above && (before || decide (delay ≤ count))

theorem deficitTold_comes {above before : Bool} {delay count : Nat}
    (h : above = true ∧ delay ≤ count ∧ before = false) : deficitTold above delay count before = true := by
  simp [deficitTold, h]

theorem deficitTold_goes {above before : Bool} {delay count : Nat} (h : above = false ∧ before = true) :
    deficitTold above delay count before = false := by
  simp [deficitTold, h]

theorem deficitTold_stands {above before : Bool} {delay count : Nat}
    (comes : ¬ (above = true ∧ delay ≤ count ∧ before = false)) (goes : ¬ (above = false ∧ before = true)) :
    deficitTold above delay count before = before := by
  cases above <;> cases before <;> simp_all [deficitTold]

theorem State.told_comes {id : Identity} {before after : Bool} (a : after = true) (b : before = false) (s : State) :
    s.told id before after = s.comesFixed id := by rw [told, a, b]; rfl

theorem State.told_goes {id : Identity} {before after : Bool} (a : after = false) (b : before = true) (s : State) :
    s.told id before after = s.goes id := by rw [told, a, b]; rfl

theorem State.told_same (id : Identity) (b : Bool) (s : State) : s.told id b b = s := by
  cases b <;> rfl

theorem State.told_present {id : Identity} (ordinary : id ≠ .system .tableFull) (before after : Bool) (s : State) :
    (s.told id before after).alt.isPresent id = if before = after then s.alt.isPresent id else after := by
  cases before <;> cases after
  · rfl
  · exact State.comes_present ordinary ..
  · exact State.goes_present ordinary s
  · rfl

theorem State.told_others {id : Identity} (before after : Bool) (s : State) :
    AlarmTable.OthersStand id s.alt (s.told id before after).alt := by
  cases before <;> cases after
  · exact .of_conditions rfl
  · exact .comes none _ s
  · exact .goes s
  · exact .of_conditions rfl

/-- The firing record with the deficit figures of MAIN after a period (R81). -/
def Firing.deficitMain (r : Firing) : Firing :=
  let above := aboveBand r.published.deficitMain r.published.correctedMain r.config.band
  let n := deficitCount above r.config.delay r.countMain
  { r with countMain := n, reportedMain := deficitTold above r.config.delay n r.reportedMain }

/-- The firing record with the deficit figures of CALC after a period (R81). -/
def Firing.deficitCalc (r : Firing) : Firing :=
  let above := aboveBand r.published.deficitCalc r.published.correctedCalc r.config.band
  let n := deficitCount above r.config.delay r.countCalc
  { r with countCalc := n, reportedCalc := deficitTold above r.config.delay n r.reportedCalc }

/-- The firing record with the figures of CL_LIMITED after a period (R82). -/
def Firing.clLimited (r : Firing) : Firing :=
  { r with
    inactive := if r.published.clActive = true ∨ r.reportedCl = false ∨ 60 ≤ r.inactive + 1 then 0 else r.inactive + 1
    reportedCl := r.published.clActive || (r.reportedCl && decide (r.inactive + 1 < 60)) }

namespace Firing.Same

variable {r x : Firing}

theorem deficitMain (h : Firing.Same r x) : Firing.Same r.deficitMain x.deficitMain := by
  obtain ⟨a, b, c, rfl⟩ := h.flows
  rfl

theorem deficitCalc (h : Firing.Same r x) : Firing.Same r.deficitCalc x.deficitCalc := by
  obtain ⟨a, b, c, rfl⟩ := h.flows
  rfl

theorem clLimited (h : Firing.Same r x) : Firing.Same r.clLimited x.clLimited := by
  obtain ⟨a, b, c, rfl⟩ := h.flows
  rfl

end Firing.Same

/-- A deficit condition after a period is its figures written, and then told. -/
theorem State.deficitMain_eq (s : State) : s.deficitMain = State.told (.firing .heatDeficitMain) s.fsc.reportedMain
    s.fsc.deficitMain.reportedMain { s with fsc := s.fsc.deficitMain } := by
  unfold State.deficitMain Firing.deficitMain
  simp only
  split
  next h =>
    rw [deficitTold_comes h]
    exact (State.told_comes rfl h.2.2 _).symm
  next comes =>
    split
    next h =>
      rw [deficitTold_goes h]
      exact (State.told_goes rfl h.2 _).symm
    next goes =>
      rw [deficitTold_stands comes goes]
      exact (State.told_same ..).symm

theorem State.deficitCalc_eq (s : State) : s.deficitCalc = State.told (.firing .heatDeficitCalc) s.fsc.reportedCalc
    s.fsc.deficitCalc.reportedCalc { s with fsc := s.fsc.deficitCalc } := by
  unfold State.deficitCalc Firing.deficitCalc
  simp only
  split
  next h =>
    rw [deficitTold_comes h]
    exact (State.told_comes rfl h.2.2 _).symm
  next comes =>
    split
    next h =>
      rw [deficitTold_goes h]
      exact (State.told_goes rfl h.2 _).symm
    next goes =>
      rw [deficitTold_stands comes goes]
      exact (State.told_same ..).symm

theorem State.clLimited_eq (s : State) : s.clLimited = State.told (.firing .clLimited) s.fsc.reportedCl
    s.fsc.clLimited.reportedCl { s with fsc := s.fsc.clLimited } := by
  have told {active reported : Bool} {n : Nat} (a : s.fsc.published.clActive = active) (r : s.fsc.reportedCl = reported)
      (i : (if active = true ∨ reported = false ∨ 60 ≤ s.fsc.inactive + 1 then 0 else s.fsc.inactive + 1) = n) :
      s.fsc.clLimited = { s.fsc with
        inactive := n, reportedCl := active || (reported && decide (s.fsc.inactive + 1 < 60)) } := by
    rw [Firing.clLimited, a, r, i]
  unfold State.clLimited
  simp only
  split
  next active =>
    split
    next reported =>
      rw [told active reported (if_pos (.inl rfl)), reported]
      exact (State.told_same ..).symm
    next reported =>
      rw [told active (Bool.not_eq_true _ ▸ reported) (if_pos (.inl rfl))]
      exact (State.told_comes rfl (Bool.not_eq_true _ ▸ reported) _).symm
  next active =>
    have active : s.fsc.published.clActive = false := Bool.not_eq_true _ ▸ active
    split
    next reported =>
      split
      next long =>
        have out : decide (s.fsc.inactive + 1 < 60) = false := decide_eq_false (Nat.not_lt.mpr long)
        rw [told active reported (if_pos (.inr (.inr long))), out]
        exact (State.told_goes rfl reported _).symm
      next short =>
        have stays : decide (s.fsc.inactive + 1 < 60) = true := decide_eq_true (Nat.not_le.mp short)
        have early : ¬ 60 ≤ s.fsc.inactive + 1 := short
        rw [told active reported (if_neg (by simpa using early)), reported, stays]
        exact (State.told_same ..).symm
    next reported =>
      have reported : s.fsc.reportedCl = false := Bool.not_eq_true _ ▸ reported
      rw [told active reported (if_pos (.inr (.inl rfl))), reported]
      exact (State.told_same ..).symm

theorem State.deficitMain_published (s : State) : s.deficitMain.fsc.published = s.fsc.published := by
  rw [State.deficitMain_eq, (State.told_sameFiring ..).published]
  rfl

theorem State.deficitCalc_published (s : State) : s.deficitCalc.fsc.published = s.fsc.published := by
  rw [State.deficitCalc_eq, (State.told_sameFiring ..).published]
  rfl

theorem State.clLimited_published (s : State) : s.clLimited.fsc.published = s.fsc.published := by
  rw [State.clLimited_eq, (State.told_sameFiring ..).published]
  rfl

/-- What a period publishes is what its stages find. -/
theorem State.firingPeriod_published (s : State) : s.firingPeriod.fsc.published = s.takeStages.fsc.published := by
  have ends := (SameFiring.foldl (fun s c => .stopEnds c s) allChans s.periodHanded).published
  rw [State.firingPeriod_eq, State.clLimited_published, State.deficitCalc_published, State.deficitMain_published, ends,
    State.periodHanded_fsc]

theorem exec_firingPeriod {s : State} (run : s.phase = .running) :
    exec .firingPeriodExpiry s = .next s.firingPeriod.after := by
  show finish (s.whileRunning State.firingPeriod) = _
  rw [State.whileRunning_running run, finish_eq]

/-- Settles O21: the chlorine at the new setpoints is within that of stage 6's targets and the fixed one. -/
theorem chlorineCeilingHolds : Obligations.ChlorineCeilingHolds := by
  intro s t g run ceiling stepped
  rw [exec_firingPeriod run] at stepped
  obtain rfl := Host.Outcome.next.inj stepped
  by_cases fixed : fixedChlorine s.views ≤ g * 1000
  · left
    have published : s.firingPeriod.after.fsc.published = s.takeStages.fsc.published := by
      rw [State.after_fsc, State.firingPeriod_published]
    have le := (altChlorine_le s.views s.correction (some g)).trans (chlorineStage_within s.views _ fixed)
    rw [published, State.takeStages_published, ceiling, figures]
    show (altChlorine s.views (periodResult s.views s.correction (some g)).setpoints + 999) / 1000 ≤ g
    generalize altChlorine s.views (periodResult s.views s.correction (some g)).setpoints = x at le
    omega
  · exact .inr (Nat.not_le.mp fixed)

/-! ### A pairing (R46, R90) -/

section pairing
variable {c : Chan} {l : FlowLimits} {k : Calibration}

theorem pairedSetpoint_le {r : ChannelRecord} (ordered : l.minFlow ≤ l.maxFlow) (b : Bool) (n : Nat) :
    pairedSetpoint r l b n ≤ l.maxFlow := by
  unfold pairedSetpoint
  split
  · exact ordered
  · split <;> omega
  all_goals exact Nat.min_le_right ..

/-- What a pairing leaves of its channel and of another. -/
theorem State.pair_chan (s : State) (d : Chan) : (s.pair c l k).chan d = if d = c then { s.chan c with
    config := { (s.chan c).config with halves := some { limits := l, calibration := k } }
    stagedLimits := none, stagedCalibration := none } else s.chan d := Tbl.get_put ..

theorem State.pair_setpoint (s : State) (d : Chan) : (s.pair c l k).setpoint d = if d = c then
    pairedSetpoint (s.chan c) l (s.fsc.clZeroed.get c && s.fsc.target.get c == 0) (s.setpoint c) else s.setpoint d :=
  State.drive_setpoint ..

theorem State.pair_target (s : State) (d : Chan) : (s.pair c l k).fsc.target.get d = if d = c then
    min (s.fsc.target.get c) l.maxFlow else s.fsc.target.get d := Tbl.get_put ..

theorem State.pair_feeder (s : State) (d : Chan) : (s.pair c l k).feeder d = if d = c then
    { (s.feeder c).recalibrated k with pendingRate := rateOf ((s.feeder c).recalibrated k) ((s.pair c l k).setpoint c) }
    else s.feeder d := by
  rw [State.pair_setpoint, if_pos rfl, State.pair, State.drive_feeder, State.setFeeder_feeder, State.setFeeder_feeder]
  split
  next e => rw [if_pos rfl]; rfl
  next => rfl

end pairing

/-- Settles O18: what `pair` writes, channel by channel. -/
theorem pairingEntersForce : Obligations.PairingEntersForce := by
  intro s c l k ordered
  have chan := State.pair_chan (c := c) (l := l) (k := k) s c
  have setpoint := State.pair_setpoint (c := c) (l := l) (k := k) s c
  have feeder := State.pair_feeder (c := c) (l := l) (k := k) s c
  have target := State.pair_target (c := c) (l := l) (k := k) s c
  rw [if_pos rfl] at chan setpoint feeder target
  refine ⟨by rw [chan], by rw [chan], by rw [chan], by rw [chan]; rfl, by rw [chan], by rw [feeder]; rfl, by rw [feeder]; rfl,
    by rw [feeder]; rfl, by rw [feeder]; rfl, by rw [feeder]; rfl, by rw [feeder]; rfl, ?_, target, ?_, fun starting => ?_,
    fun d ne => ⟨?_, ?_, ?_⟩⟩
  · rw [feeder]
    rfl
  · rw [setpoint]
    exact pairedSetpoint_le ordered ..
  · rw [setpoint, pairedSetpoint, starting]
  · rw [State.pair_chan, if_neg ne]
  · rw [State.pair_feeder, if_neg ne]
  · rw [State.pair_setpoint, if_neg ne]

end Sys2Proof.Machine
end

section
/-!
Proofs. O22: a firing period whole: its conditions, its hand-over, and what each stage finds.
-/
set_option Elab.async false

namespace Sys2Proof.Machine

/-! ### The conditions of a period (R81, R82) -/

section conditions
variable (s : State)

theorem State.deficitMain_same : Firing.Same s.fsc.deficitMain s.deficitMain.fsc := by
  rw [State.deficitMain_eq]
  exact State.told_sameFiring ..

theorem State.deficitCalc_same : Firing.Same s.fsc.deficitCalc s.deficitCalc.fsc := by
  rw [State.deficitCalc_eq]
  exact State.told_sameFiring ..

theorem State.clLimited_same : Firing.Same s.fsc.clLimited s.clLimited.fsc := by
  rw [State.clLimited_eq]
  exact State.told_sameFiring ..

theorem State.deficitMain_present : s.deficitMain.alt.isPresent (.firing .heatDeficitMain)
    = if s.fsc.reportedMain = s.fsc.deficitMain.reportedMain then s.alt.isPresent (.firing .heatDeficitMain)
      else s.fsc.deficitMain.reportedMain := by
  rw [State.deficitMain_eq]
  exact State.told_present (id := .firing _) nofun ..

theorem State.deficitCalc_present : s.deficitCalc.alt.isPresent (.firing .heatDeficitCalc)
    = if s.fsc.reportedCalc = s.fsc.deficitCalc.reportedCalc then s.alt.isPresent (.firing .heatDeficitCalc)
      else s.fsc.deficitCalc.reportedCalc := by
  rw [State.deficitCalc_eq]
  exact State.told_present (id := .firing _) nofun ..

theorem State.clLimited_present : s.clLimited.alt.isPresent (.firing .clLimited)
    = if s.fsc.reportedCl = s.fsc.clLimited.reportedCl then s.alt.isPresent (.firing .clLimited)
      else s.fsc.clLimited.reportedCl := by
  rw [State.clLimited_eq]
  exact State.told_present (id := .firing _) nofun ..

theorem State.deficitMain_others : AlarmTable.OthersStand (.firing .heatDeficitMain) s.alt s.deficitMain.alt := by
  rw [State.deficitMain_eq]
  exact State.told_others (id := .firing .heatDeficitMain) _ _ { s with fsc := s.fsc.deficitMain }

theorem State.deficitCalc_others : AlarmTable.OthersStand (.firing .heatDeficitCalc) s.alt s.deficitCalc.alt := by
  rw [State.deficitCalc_eq]
  exact State.told_others (id := .firing .heatDeficitCalc) _ _ { s with fsc := s.fsc.deficitCalc }

theorem State.clLimited_others : AlarmTable.OthersStand (.firing .clLimited) s.alt s.clLimited.alt := by
  rw [State.clLimited_eq]
  exact State.told_others (id := .firing .clLimited) _ _ { s with fsc := s.fsc.clLimited }

end conditions

/-- A channel-off notice reports on points alone. -/
theorem State.offNotice_present {id : Identity} (other : ∀ p k, id ≠ .point p k) (ordinary : id ≠ .system .tableFull)
    (c : Chan) (b : Bool) (s : State) : (s.offNotice c b).alt.isPresent id = s.alt.isPresent id := by
  have reconcile (s : State) (p : PointNo) : (s.reconcile p).alt.isPresent id = s.alt.isPresent id := by
    unfold State.reconcile
    rw [State.reports_present ordinary]
    refine List.foldlRecOn (s.ptb.reports p) (Report.presence id) (motive := fun b => b = s.alt.isPresent id) rfl ?_
    intro b same r mem
    obtain ⟨k, named⟩ := s.ptb.reports_identity p r mem
    rw [Report.presence, if_neg (by rw [named]; exact (other p k).symm), same]
  unfold State.offNotice
  exact foldl_keeps (fun s : State => s.alt.isPresent id) reconcile _ _

theorem State.stopEnds_present {id : Identity} (other : ∀ p k, id ≠ .point p k) (ordinary : id ≠ .system .tableFull)
    (c : Chan) (s : State) : (s.stopEnds c).alt.isPresent id = s.alt.isPresent id := by
  unfold State.stopEnds
  split
  · exact State.offNotice_present other ordinary c true _
  · rfl

/-- The state after the stops, before the conditions. -/
def State.periodStopped (s : State) : State := allChans.foldl (fun s c => s.stopEnds c) s.periodHanded

theorem State.periodStopped_same (s : State) : Firing.Same s.takeStages.fsc s.periodStopped.fsc := by
  have h : State.SameFiring s.periodHanded s.periodStopped := .foldl (fun s c => .stopEnds c s) allChans s.periodHanded
  unfold SameFiring at h
  rwa [State.periodHanded_fsc] at h

theorem State.periodStopped_present (s : State) (k : FiringCond) :
    s.periodStopped.alt.isPresent (.firing k) = s.alt.isPresent (.firing k) := by
  refine (foldl_keeps (fun s : State => s.alt.isPresent (.firing k))
    (fun s c => State.stopEnds_present (id := .firing k) (fun _ _ => nofun) nofun c s) allChans s.periodHanded).trans ?_
  rw [State.periodHanded_alone]
  rfl

/-- The firing record and the firing conditions after a period. -/
theorem State.firingPeriod_conditions (s : State) :
    let r := s.takeStages.fsc.deficitMain.deficitCalc.clLimited
    Firing.Same r s.firingPeriod.fsc
    ∧ s.firingPeriod.alt.isPresent (.firing .heatDeficitMain)
        = (if s.fsc.reportedMain = r.reportedMain then s.alt.isPresent (.firing .heatDeficitMain) else r.reportedMain)
    ∧ s.firingPeriod.alt.isPresent (.firing .heatDeficitCalc)
        = (if s.fsc.reportedCalc = r.reportedCalc then s.alt.isPresent (.firing .heatDeficitCalc) else r.reportedCalc)
    ∧ s.firingPeriod.alt.isPresent (.firing .clLimited)
        = if s.fsc.reportedCl = r.reportedCl then s.alt.isPresent (.firing .clLimited) else r.reportedCl := by
  have whole : s.firingPeriod = s.periodStopped.deficitMain.deficitCalc.clLimited := State.firingPeriod_eq s
  have same1 := s.periodStopped_same
  have same2 := same1.deficitMain.trans s.periodStopped.deficitMain_same
  have same3 := same2.deficitCalc.trans s.periodStopped.deficitMain.deficitCalc_same
  rw [whole]
  refine ⟨same3.clLimited.trans (State.clLimited_same _), ?_, ?_, ?_⟩
  · rw [State.clLimited_others _ (.firing .heatDeficitMain) nofun nofun, State.deficitCalc_others _ (.firing .heatDeficitMain) nofun nofun, State.deficitMain_present,
      State.periodStopped_present]
    obtain ⟨a, b, c, stopped⟩ := same1.flows
    rw [stopped]
    rfl
  · rw [State.clLimited_others _ (.firing .heatDeficitCalc) nofun nofun, State.deficitCalc_present, State.deficitMain_others _ (.firing .heatDeficitCalc) nofun nofun,
      State.periodStopped_present]
    obtain ⟨a, b, c, stopped⟩ := same2.flows
    rw [stopped]
    rfl
  · rw [State.clLimited_present, State.deficitCalc_others _ (.firing .clLimited) nofun nofun, State.deficitMain_others _ (.firing .clLimited) nofun nofun,
      State.periodStopped_present]
    obtain ⟨a, b, c, stopped⟩ := same3.flows
    rw [stopped]
    rfl

/-! ### The figures published (R80) -/

section stages
variable (vs : Views)

theorem ChannelState.active_eq (x : ChannelState) :
    x.active = (x == .running || (x == .starting || x == .holding || x == .stopping)) := by cases x <;> rfl

theorem deliveredWhere_eq (sp : Flows) (pick : ChanView → Bool) : deliveredWhere vs sp pick
    = sumWhere vs (fun v => (v.state == .running || (v.state == .starting || v.state == .holding || v.state == .stopping))
        && pick v) fun c => sp.get c * (vs.get c).ncv / 3600 := by
  unfold deliveredWhere
  simp only [ChannelState.active_eq]
  rfl

theorem altChlorine_eq (sp : Flows) : altChlorine vs sp
    = sumWhere vs (fun v => (v.state == .running || (v.state == .starting || v.state == .holding || v.state == .stopping))
        && v.cls == .alt) fun c => sp.get c * (vs.get c).chlorine := by
  unfold altChlorine
  simp only [ChannelState.active_eq]

/-! ### What each stage finds (R74 to R77) -/

@[simp] theorem eachLocation_at (f : Location → Nat) (l : Location) : (eachLocation f).at l = f l := by
  cases l <;> rfl

/-- The deficit and the surplus of each location (R80). -/
theorem figures_balance (k : Correction) (active : Bool) (sp : Flows) : let x := figures vs k active sp
    (x.deficitMain : Int) = max 0 ((x.correctedMain : Int) - x.deliveredMain)
      ∧ (x.surplusMain : Int) = max 0 ((x.deliveredMain : Int) - x.correctedMain)
      ∧ (x.deficitCalc : Int) = max 0 ((x.correctedCalc : Int) - x.deliveredCalc)
      ∧ (x.surplusCalc : Int) = max 0 ((x.deliveredCalc : Int) - x.correctedCalc) := by
  have sub (a b : Nat) : ((a - b : Nat) : Int) = max 0 ((a : Int) - b) := by omega
  exact ⟨sub _ _, sub _ _, sub _ _, sub _ _⟩

variable {vs} {c : Chan}

theorem firstTargets_running (avail : AtLocations) (on : (vs.get c).state = .running) : (firstTargets vs avail).get c
    = (vs.get c).mass (portion (avail.at (vs.get c).location) (vs.get c).share (shareSum vs (vs.get c).location)) := by
  simp only [firstTargets, Tbl.get_make, ChanView.running, on, beq_self_eq_true, if_true]

/-- The shares split the available heat, and no more. -/
theorem sum_portion_le (vs : Views) (pick : ChanView → Bool) (heat : Nat) :
    sumWhere vs pick (fun c => portion heat (vs.get c).share (sumWhere vs pick fun d => (vs.get d).share)) ≤ heat := by
  unfold portion
  split
  next none => simp [sumWhere]
  next some_ =>
    refine sum_le_of_parts (g := fun c => (vs.get c).share) (Nat.pos_of_ne_zero some_) (fun c _ => ?_) rfl
    rw [Nat.mul_comm (vs.get c).share]
    exact Nat.div_mul_le_self ..

/-- Stage 5 for a running channel: its target cut at the max flow, or raised by the heat cut off the others. -/
theorem clampedTargets_running (t : Flows) (on : (vs.get c).state = .running) : (clampedTargets vs t).get c
    = max (vs.get c).minFlow (min (vs.get c).maxFlow (if (vs.get c).maxFlow < t.get c then t.get c else
        t.get c + (vs.get c).mass (portion (cutHeat vs t (vs.get c).location) (vs.get c).share
          (uncutShares vs t (vs.get c).location)))) := by
  have cut : isCut vs t c = decide ((vs.get c).maxFlow < t.get c) := by simp [isCut, ChanView.running, on]
  simp only [clampedTargets, Tbl.get_make, ChanView.running, on, beq_self_eq_true, if_true, cut, eachLocation_at,
    decide_eq_true_eq]
  split
  · rfl
  · rfl

theorem max_min_bounds {a b n : Nat} (ordered : a ≤ b) : a ≤ max a (min b n) ∧ max a (min b n) ≤ b := by omega

theorem cutHeat_eq (vs : Views) (t : Flows) (l : Location) : cutHeat vs t l = ((allChans.filter fun d =>
    ((vs.get d).state == .running && (vs.get d).location == l) && decide ((vs.get d).maxFlow < t.get d)).map fun d =>
      (t.get d - (vs.get d).maxFlow) * (vs.get d).ncv / 3600).sum := by
  unfold cutHeat
  congr 2
  refine List.filter_congr fun d _ => ?_
  simp only [isCut, ChanView.running, Bool.and_right_comm]

theorem uncutShares_eq (vs : Views) (t : Flows) (l : Location) : uncutShares vs t l = ((allChans.filter fun d =>
    ((vs.get d).state == .running && (vs.get d).location == l) && !decide ((vs.get d).maxFlow < t.get d)).map fun d =>
      (vs.get d).share).sum := by
  unfold uncutShares
  congr 2
  refine List.filter_congr fun d _ => ?_
  unfold isCut ChanView.running
  cases (vs.get d).state == .running
  · rfl
  · rw [Bool.true_and, Bool.true_and, Bool.true_and, Bool.and_comm]

theorem chlorineStage_of_conv (ceiling : Option Nat) (t : Flows) (cls : (vs.get c).cls = .conv) :
    (chlorineStage vs ceiling t).targets.get c = t.get c := by
  unfold chlorineStage
  split
  · rfl
  · simp only
    split
    · rfl
    · simp [cls]

theorem chlorineStage_idle {ceiling : Option Nat} {t : Flows} (idle : (chlorineStage vs ceiling t).active = false) :
    (chlorineStage vs ceiling t).targets = t := by
  unfold chlorineStage at idle ⊢
  split
  · rfl
  · simp only at idle ⊢
    split
    · rfl
    next above =>
      rw [if_neg above] at idle
      cases idle

theorem chlorineStage_active_iff {ceiling : Option Nat} {t : Flows} : (chlorineStage vs ceiling t).active = true
    ↔ ∃ g, ceiling = some g ∧ g * 1000 < fixedChlorine vs + runningChlorine vs t := by
  unfold chlorineStage
  cases ceiling with
  | none => simp
  | some g =>
    simp only [Option.some.injEq, exists_eq_left']
    split
    next within => simp [within]
    next above => simpa using Nat.not_le.mp above

theorem chlorineStage_scaled {g : Nat} {t : Flows} (above : g * 1000 < fixedChlorine vs + runningChlorine vs t)
    (on : (vs.get c).state = .running) (cls : (vs.get c).cls = .alt) : (chlorineStage vs (some g) t).targets.get c
    = if g * 1000 ≤ fixedChlorine vs
        ∨ t.get c * (g * 1000 - fixedChlorine vs) / runningChlorine vs t < (vs.get c).minFlow then 0
      else t.get c * (g * 1000 - fixedChlorine vs) / runningChlorine vs t := by
  have allowed : ((g * 1000 : Nat) - (fixedChlorine vs : Int)).toNat = g * 1000 - fixedChlorine vs := by omega
  have none : ((g * 1000 : Nat) : Int) - (fixedChlorine vs : Int) ≤ 0 ↔ g * 1000 ≤ fixedChlorine vs := by omega
  simp only [chlorineStage, if_neg (Nat.not_le.mpr above), Tbl.get_make, ChanView.running, on, cls, beq_self_eq_true,
    Bool.and_self, if_true, scaled, allowed, none]
  by_cases spent : g * 1000 ≤ fixedChlorine vs
  · rw [if_pos spent, if_pos (.inl spent)]
  · rw [if_neg spent]
    exact if_congr (by simp [spent]) rfl rfl

theorem handedTargets_of_conv (before after : Flows) (on : (vs.get c).state = .running) (cls : (vs.get c).cls = .conv) :
    (handedTargets vs before after).get c = min (vs.get c).maxFlow (after.get c + (vs.get c).mass (portion
      (removedHeat vs before after (vs.get c).location) (vs.get c).share (convShares vs (vs.get c).location))) := by
  simp only [handedTargets, Tbl.get_make, ChanView.running, on, cls, beq_self_eq_true, Bool.and_self, if_true,
    eachLocation_at]

theorem removedHeat_eq (vs : Views) (before after : Flows) (l : Location) : removedHeat vs before after l
    = ((allChans.filter fun d => ((vs.get d).state == .running && (vs.get d).location == l) && (vs.get d).cls == .alt).map
      fun d => before.get d * (vs.get d).ncv / 3600 - after.get d * (vs.get d).ncv / 3600).sum := by
  unfold removedHeat sumWhere
  congr 2
  exact List.filter_congr fun d _ => Bool.and_right_comm ..

theorem convShares_eq (vs : Views) (l : Location) : convShares vs l
    = ((allChans.filter fun d => ((vs.get d).state == .running && (vs.get d).location == l) && (vs.get d).cls == .conv).map
      fun d => (vs.get d).share).sum := by
  unfold convShares sumWhere
  congr 2
  exact List.filter_congr fun d _ => Bool.and_right_comm ..

end stages

/-- The hand-over of a period and what follows it (R70, R87, R99). -/
theorem firingPeriod_hands {s : State} (run : s.phase = .running) : ∃ u : State,
    exec .firingPeriodExpiry s
      = .next (((allChans.foldl (fun x c => x.stopEnds c) u).deficitMain.deficitCalc.clLimited).after)
    ∧ u.fsc = s.takeStages.fsc
    ∧ (∀ c, u.feeder c = { s.feeder c with
        pendingRate := rateOf (s.feeder c) (u.setpoint c)
        expectedSum := (s.feeder c).expectedSum + u.setpoint c })
    ∧ u = { s with fsc := u.fsc, fdi := u.fdi } := by
  refine ⟨s.periodHanded, ?_, s.periodHanded_fsc, fun c => ?_, ?_⟩
  · rw [exec_firingPeriod run, State.firingPeriod_eq]
  · rw [State.periodHanded_feeder, State.periodHanded_setpoint]
  · rw [State.periodHanded_alone]
    rfl

/-- The stages write no count and no mark of a condition. -/
theorem State.takeStages_kept (s : State) : s.takeStages.fsc.config = s.fsc.config
    ∧ s.takeStages.fsc.countMain = s.fsc.countMain ∧ s.takeStages.fsc.reportedMain = s.fsc.reportedMain
    ∧ s.takeStages.fsc.countCalc = s.fsc.countCalc ∧ s.takeStages.fsc.reportedCalc = s.fsc.reportedCalc
    ∧ s.takeStages.fsc.inactive = s.fsc.inactive ∧ s.takeStages.fsc.reportedCl = s.fsc.reportedCl :=
  ⟨rfl, rfl, rfl, rfl, rfl, rfl, rfl⟩

/-- The firing record and the conditions that a period leaves. -/
theorem firingPeriod_leaves {s t : State} (run : s.phase = .running) (stepped : exec .firingPeriodExpiry s = .next t) :
    let r := s.takeStages.fsc.deficitMain.deficitCalc.clLimited
    Firing.Same r t.fsc
    ∧ t.alt.isPresent (.firing .heatDeficitMain)
        = (if s.fsc.reportedMain = r.reportedMain then s.alt.isPresent (.firing .heatDeficitMain) else r.reportedMain)
    ∧ t.alt.isPresent (.firing .heatDeficitCalc)
        = (if s.fsc.reportedCalc = r.reportedCalc then s.alt.isPresent (.firing .heatDeficitCalc) else r.reportedCalc)
    ∧ t.alt.isPresent (.firing .clLimited)
        = if s.fsc.reportedCl = r.reportedCl then s.alt.isPresent (.firing .clLimited) else r.reportedCl := by
  rw [exec_firingPeriod run] at stepped
  rw [← Host.Outcome.next.inj stepped, State.after_fsc, State.after_alt]
  exact s.firingPeriod_conditions

/-- Settles O22: the conditions by `firingPeriod_leaves`, the hand-over by `firingPeriod_hands`, the stages each by
its lemma. -/
theorem firingPeriodCompletes : Obligations.FiringPeriodCompletes := by
  refine ⟨fun s t run stepped => ?_, fun s run => firingPeriod_hands run, fun s => ?_⟩
  · obtain ⟨same, main, calc_, cl⟩ := firingPeriod_leaves run stepped
    obtain ⟨config, countMain, reportedMain, countCalc, reportedCalc, inactive, reportedCl⟩ := s.takeStages_kept
    generalize s.takeStages.fsc = r at *
    obtain ⟨a, b, c, fsc⟩ := same.flows
    dsimp only
    rw [fsc, ← config, ← countMain, ← reportedMain, ← countCalc, ← reportedCalc, ← inactive, ← reportedCl]
    rw [← reportedMain] at main
    rw [← reportedCalc] at calc_
    rw [← reportedCl] at cl
    exact ⟨rfl, rfl, rfl, main, rfl, rfl, calc_, rfl, rfl, cl⟩
  · rw [show s.view = s.views.get from funext fun c => (s.views_get c).symm]
    intro v x setpoint total heat mass part run stand active delivered demand n f
    have figure (pick : ChanView → Bool) : deliveredWhere s.views s.takeStages.fsc.setpoint pick
        = delivered fun c => pick (v c) := deliveredWhere_eq ..
    have alt : altChlorine s.views s.takeStages.fsc.setpoint
        = total (fun c => active c && (v c).cls == .alt) fun c => setpoint c * (v c).chlorine := altChlorine_eq ..
    obtain ⟨deficitMain, surplusMain, deficitCalc, surplusCalc⟩ := figures_balance s.views s.correction
      (periodResult s.views s.correction s.fsc.config.ceiling).active s.takeStages.fsc.setpoint
    refine ⟨⟨figure (·.location == .main), figure (·.location == .calc), deficitMain, surplusMain, deficitCalc, surplusCalc,
      congrArg (fun n => (n + 999) / 1000) alt, ?_⟩, ?_⟩
    · rw [← figure (·.cls == .alt)]
      rfl
    · let avail := available s.views s.correction.corrected
      let t4 := firstTargets s.views avail
      let t5 := clampedTargets s.views t4
      let t6 := (chlorineStage s.views s.fsc.config.ceiling t5).targets
      let t7 := handedTargets s.views t5 t6
      refine ⟨avail.at, t4.get, t5.get, t6.get, t7.get, fun l => ⟨?_, ?_⟩, fun c on => ?_, fun idle c => ?_, ?_,
        fun g ceiling above => ⟨?_, fun c on cls => ?_⟩, fun c => ⟨?_, ?_⟩⟩
      · cases l <;> rfl
      · exact sum_portion_le s.views (fun v => v.running && v.location == l) (avail.at l)
      · have five := clampedTargets_running t4 on
        rw [cutHeat_eq, uncutShares_eq] at five
        refine ⟨firstTargets_running avail on, ?_, fun ordered => ?_, fun cls => handedTargets_of_alt _ _ _ cls, fun cls =>
          ⟨chlorineStage_of_conv _ _ cls, ?_, fun ordered => ?_⟩⟩
        · exact five.trans (by simp only [decide_eq_true_eq]; rfl)
        · rw [five]
          exact max_min_bounds ordered
        · have seven := handedTargets_of_conv t5 t6 on cls
          rw [removedHeat_eq, convShares_eq] at seven
          exact seven
        · have six : t6.get c = t5.get c := chlorineStage_of_conv _ _ cls
          have low : (v c).minFlow ≤ t5.get c := five ▸ Nat.le_max_left ..
          have seven := handedTargets_of_conv t5 t6 on cls
          rw [six] at seven
          exact ⟨seven ▸ Nat.le_min.mpr ⟨ordered, low.trans (Nat.le_add_right ..)⟩, seven ▸ Nat.min_le_left ..⟩
      · exact congrArg (fun t : Flows => t.get c) (chlorineStage_idle idle)
      · exact chlorineStage_active_iff
      · have six := chlorineStage_runningChlorine s.views t5 above
        rw [← ceiling] at six
        exact six
      · have six := chlorineStage_scaled above on cls
        rw [← ceiling] at six
        exact six
      · exact (s.takeStages_target c).trans (by rw [← s.views_get]; rfl)
      · exact (s.takeStages_setpoint c).trans (by rw [← s.views_get]; rfl)

end Sys2Proof.Machine
end

section
/-!
Proofs. O26, O27: the cooler's requests, its period and its flush timer (chapter 6).
-/
set_option Elab.async false

namespace Sys2Proof.Machine

/-! ### The conditions of the cooler (R121) -/

theorem State.told_clc (id : Identity) (before after : Bool) (s : State) : (s.told id before after).clc = s.clc := by
  cases before <;> cases after
  · rfl
  · exact (congrArg State.clc (ReportTouch.comes id none id.fixedPriority s).rest).trans rfl
  · exact (congrArg State.clc (ReportTouch.goes id s).rest).trans rfl
  · rfl

theorem State.SameFiring.of_fsc {s t : State} (same : t.fsc = s.fsc) : State.SameFiring s t := by
  unfold State.SameFiring
  rw [same]
  rfl

section conditions
variable (s : State)

theorem State.heldReport_eq : s.heldReport = State.told (.cooler .held) s.clc.reportedHeld (s.clc.mode == .held)
    (s.setCooler { s.clc with reportedHeld := s.clc.mode == .held }) := by
  unfold State.heldReport
  simp only
  split
  next same => rw [same, State.told_same, ← same]; rfl
  next other =>
    cases due : (s.clc.mode == .held) with
    | true => rw [due] at other; exact (State.told_comes rfl (by simpa using other) _).symm
    | false => rw [due] at other; exact (State.told_goes rfl (by simpa using other) _).symm

theorem State.flushReport_eq : s.flushReport = State.told (.cooler .flush) s.clc.reportedFlush s.clc.flushTimer.isSome
    (s.setCooler { s.clc with reportedFlush := s.clc.flushTimer.isSome }) := by
  unfold State.flushReport
  simp only
  split
  next same => rw [same, State.told_same, ← same]; rfl
  next other =>
    cases due : s.clc.flushTimer.isSome with
    | true => rw [due] at other; exact (State.told_comes rfl (by simpa using other) _).symm
    | false => rw [due] at other; exact (State.told_goes rfl (by simpa using other) _).symm

theorem State.airShortReport_eq : s.airShortReport = State.told (.cooler .airShort) s.clc.reportedAirShort
    s.clc.airShortDue (s.setCooler { s.clc with reportedAirShort := s.clc.airShortDue }) := by
  unfold State.airShortReport
  simp only
  split
  next same => rw [same, State.told_same, ← same]; rfl
  next other =>
    cases due : s.clc.airShortDue with
    | true => rw [due] at other; exact (State.told_comes rfl (by simpa using other) _).symm
    | false => rw [due] at other; exact (State.told_goes rfl (by simpa using other) _).symm

theorem State.heldReport_clc : s.heldReport.clc = { s.clc with reportedHeld := s.clc.mode == .held } := by
  rw [State.heldReport_eq, State.told_clc]; rfl

theorem State.flushReport_clc : s.flushReport.clc = { s.clc with reportedFlush := s.clc.flushTimer.isSome } := by
  rw [State.flushReport_eq, State.told_clc]; rfl

theorem State.airShortReport_clc : s.airShortReport.clc = { s.clc with reportedAirShort := s.clc.airShortDue } := by
  rw [State.airShortReport_eq, State.told_clc]; rfl

theorem State.heldReport_same : State.SameFiring s s.heldReport := by
  rw [State.heldReport_eq]; exact .trans (.of_fsc (State.setCooler_fsc ..)) (State.told_sameFiring ..)

theorem State.flushReport_same : State.SameFiring s s.flushReport := by
  rw [State.flushReport_eq]; exact .trans (.of_fsc (State.setCooler_fsc ..)) (State.told_sameFiring ..)

theorem State.airShortReport_same : State.SameFiring s s.airShortReport := by
  rw [State.airShortReport_eq]; exact .trans (.of_fsc (State.setCooler_fsc ..)) (State.told_sameFiring ..)

end conditions

theorem State.SameFiring.flushCap {s t : State} (h : State.SameFiring s t) : t.fsc.flushCap = s.fsc.flushCap := by
  obtain ⟨a, b, c, same⟩ := Firing.Same.flows h
  rw [same]

/-! ### A period whole (R106) -/

/-- The cooler and the flush cap that a period leaves. -/
theorem State.coolerPeriod_leaves (s : State) :
    let k := s.clc.period s.pressuresRead s.coolerReadings (s.timer s.clc.config.flushTime)
    s.coolerPeriod.clc = { k with
      reportedHeld := k.mode == .held, reportedFlush := k.flushTimer.isSome, reportedAirShort := k.airShortDue }
    ∧ s.coolerPeriod.fsc.flushCap = if s.clc.mode = .normal ∧ s.clc.nextMode s.coolerReadings = .flush
        then some (if s.fsc.periodTaken then s.fsc.published.correctedMain else s.fsc.demandMain) else s.fsc.flushCap := by
  intro k
  unfold State.coolerPeriod
  simp only
  refine ⟨?_, ?_⟩
  · rw [State.airShortReport_clc, State.flushReport_clc, State.heldReport_clc]
    split
    · rfl
    · rfl
  · rw [(State.airShortReport_same _).flushCap, (State.flushReport_same _).flushCap, (State.heldReport_same _).flushCap]
    split
    · rfl
    · rfl

/-! ### Transitions and outputs (R110 to R115) -/

section period
variable {k : Cooler} {r : CoolerReadings} {cs : Tbl Compartment 8} {n : Comp}

theorem Cooler.nextMode_unusable (unusable : r.usable = false) : k.nextMode r
    = match k.mode with
      | .idle => .idle
      | .normal | .flush | .held => .held
      | .manual => .manual := by
  unfold nextMode
  cases k.mode <;> simp [unusable]

theorem Cooler.nextMode_usable (usable : r.usable = true) : k.nextMode r
    = match k.mode with
      | .idle => if 50 ≤ r.rate then .normal else .idle
      | .normal => if r.rate < 50 then .idle else if k.trigger r then .flush else .normal
      | .flush => .flush
      | .held => .normal
      | .manual => .manual := by
  have threshold : (Config.idleThreshold : Int) = 50 := rfl
  unfold nextMode
  cases k.mode <;> simp [usable, threshold]

theorem Cooler.triggered_eq_false (other : k.nextMode r ≠ .flush) : k.triggered r = false := by
  simp [triggered, other]

/-- The trigger of R115, with P8 usable. -/
theorem Cooler.trigger_iff (bed : r.bedUsable = true) : k.trigger r = true ↔ r.discharge = .high ∨ r.discharge = .critHigh
    ∨ ∃ v, k.previousP8 = some v ∧ (k.config.flushStep : Int) < r.bed - v := by
  simp [trigger, bed, or_assoc, Option.any_eq_true]

theorem CoolerConfig.bound_toNat (c : CoolerConfig) (z : Int) :
    ((c.bound z.toNat : Nat) : Int) = max (c.grateMin : Int) (min (c.grateMax : Int) z) := by
  unfold bound
  omega

/-- A sum over compartments by their configurations alone. -/
theorem sum_configs {cs ds : Tbl Compartment 8} (same : ∀ n, (cs.get n).config = (ds.get n).config)
    (pick : CompartmentConfig → Bool) (g : CompartmentConfig → Nat) :
    ((cs.list.filter fun x => pick x.config).map fun x => g x.config).sum
      = ((ds.list.filter fun x => pick x.config).map fun x => g x.config).sum := by
  unfold Tbl.list
  induction List.finRange 8 with
  | nil => rfl
  | cons n l ih =>
    simp only [List.map_cons, List.filter_cons, same n]
    split
    · simp only [List.map_cons, List.sum_cons, same n, ih]
    · exact ih

/-- A compartment after step 3: by control and mode (Table 6.6, R110, R111). -/
theorem outputs_get (mode : CoolerMode) (air : Nat) (rate : Int) : (outputs mode air rate cs).get n
    = Compartment.fixedTaken (match mode with
      | .idle => ((cs.get n).autoTakes (cs.get n).config.minSpeed).flagCleared
      | .normal => (cs.get n).distributed (rate.toNat * air / 10 - fixedAir cs) (autoWeights cs)
      | .flush =>
        if isRecup n then
          ((cs.get n).distributed (rate.toNat * air / 10 - fixedAir cs) (autoWeights cs)).autoTakes Config.speedMax
        else (cs.get n).distributed (rate.toNat * air / 10 - fixedAir cs) (autoWeights cs)
      | .held => cs.get n
      | .manual => ((cs.get n).autoTakes (cs.get n).manualSpeed).flagCleared) := by
  unfold outputs
  rw [Tbl.get_map]
  cases mode <;> simp only [distribution, Tbl.get_map, Tbl.get_make]

theorem Cooler.airShortDue_iff (k : Cooler) : k.airShortDue = true ↔ ∃ n, (k.compartments.get n).airShort = true := by
  simp [airShortDue, Tbl.mem_list]

end period

/-! ### A compartment at a period -/

section compartment
variable {x : Compartment} {rest weights speed : Nat}

theorem Compartment.distributed_fixed (fixed : x.config.control = .fixed) : x.distributed rest weights = x := by
  simp only [distributed, fixed]

theorem Compartment.distributed_auto (auto : x.config.control = .auto) : x.distributed rest weights
    = { x with
        speed := min 1000 (max x.config.minSpeed (x.config.asked rest weights))
        airShort := decide (1000 < x.config.asked rest weights) } := by
  simp only [distributed, auto]
  rfl

theorem Compartment.autoTakes_auto (auto : x.config.control = .auto) : x.autoTakes speed = { x with speed := speed } := by
  simp only [autoTakes, auto]

theorem Compartment.autoTakes_fixed (fixed : x.config.control = .fixed) : x.autoTakes speed = x := by
  simp only [autoTakes, fixed]

theorem Compartment.fixedTaken_fixed (fixed : x.config.control = .fixed) :
    x.fixedTaken = { x with speed := x.config.fixedSpeed } := by
  simp only [fixedTaken, fixed]

theorem Compartment.fixedTaken_auto (auto : x.config.control = .auto) : x.fixedTaken = x := by
  simp only [fixedTaken, auto]

end compartment

/-- What a period leaves of the cooler and of the flush cap, field by field. -/
structure CoolerLeft (s t : State) : Prop where
  mode      : t.clc.mode = s.clc.nextMode s.coolerReadings
  grate     : t.clc.grate = s.clc.nextGrate (s.clc.nextMode s.coolerReadings) s.coolerReadings
  timer     : t.clc.flushTimer = if s.clc.triggered s.coolerReadings then some ⟨s.clc.config.flushTime, s.moment⟩
    else s.clc.flushTimer
  bed       : t.clc.previousP8 = if (s.point 8).quality.usable then some (s.point 8).value else none
  cap       : t.fsc.flushCap = if s.clc.mode = .normal ∧ s.clc.nextMode s.coolerReadings = .flush
    then some (if s.fsc.periodTaken then s.fsc.published.correctedMain else s.fsc.demandMain) else s.fsc.flushCap
  comps     : t.clc.compartments = outputs (s.clc.nextMode s.coolerReadings) s.clc.config.specificAir (s.point 6).value
    s.pressuresRead
  held      : t.clc.reportedHeld = (t.clc.mode == .held)
  flush     : t.clc.reportedFlush = t.clc.flushTimer.isSome
  airShort  : t.clc.reportedAirShort = t.clc.airShortDue

theorem exec_coolerPeriod {s : State} (run : s.phase = .running) : exec .coolerPeriodExpiry s = .next s.coolerPeriod.after := by
  show finish (s.whileRunning State.coolerPeriod) = _
  rw [State.whileRunning_running run, finish_eq]

theorem coolerPeriod_left {s t : State} (run : s.phase = .running) (stepped : exec .coolerPeriodExpiry s = .next t) :
    CoolerLeft s t := by
  rw [exec_coolerPeriod run] at stepped
  obtain ⟨clc, cap⟩ := s.coolerPeriod_leaves
  rw [← State.after_clc, Host.Outcome.next.inj stepped] at clc
  rw [← State.after_fsc, Host.Outcome.next.inj stepped] at cap
  exact ⟨by rw [clc]; rfl, by rw [clc]; rfl, by rw [clc]; rfl, by rw [clc]; rfl, cap, by rw [clc]; rfl, by rw [clc],
    by rw [clc], by rw [clc]; rfl⟩

namespace CoolerLeft

variable {s t : State}

/-- A period that does not lead to CM_FLUSH leaves the flush timer and the cap. -/
theorem unflushed (h : CoolerLeft s t) (other : t.clc.mode ≠ .flush) :
    t.clc.flushTimer = s.clc.flushTimer ∧ t.fsc.flushCap = s.fsc.flushCap := by
  rw [h.mode] at other
  exact ⟨by rw [h.timer, Cooler.triggered_eq_false other]; rfl, by rw [h.cap, if_neg fun e => other e.2]⟩

/-- The modes after a period (Table 6.5), on a clinker rate or a bed point that cannot be used. -/
theorem mode_unusable (h : CoolerLeft s t) (unusable : s.coolerReadings.usable = false) :
    t.clc.mode = match s.clc.mode with
      | .idle => .idle
      | .normal | .flush | .held => .held
      | .manual => .manual := by rw [h.mode, Cooler.nextMode_unusable unusable]

theorem mode_usable (h : CoolerLeft s t) (usable : s.coolerReadings.usable = true) :
    t.clc.mode = match s.clc.mode with
      | .idle => if 50 ≤ (s.point 6).value then .normal else .idle
      | .normal => if (s.point 6).value < 50 then .idle else if s.clc.trigger s.coolerReadings then .flush else .normal
      | .flush => .flush
      | .held => .normal
      | .manual => .manual := by rw [h.mode, Cooler.nextMode_usable usable]; rfl

/-- The grate speed by the mode after the transition (Table 6.6). -/
theorem grate_eq (h : CoolerLeft s t) : t.clc.grate = s.clc.nextGrate t.clc.mode s.coolerReadings := by
  rw [h.grate, h.mode]

theorem grate_normal (h : CoolerLeft s t) (on : t.clc.mode = .normal) : (t.clc.grate : Int)
    = max (s.clc.config.grateMin : Int) (min (s.clc.config.grateMax : Int) (s.clc.grate + max (-5) (min 5
        ((s.clc.config.grateGain * ((s.point 8).value - s.clc.config.bedTarget) : Int).tdiv 1000)))) := by
  rw [h.grate_eq, on]
  exact CoolerConfig.bound_toNat ..

/-- A trigger starts or restarts the flush timer. -/
theorem timer_triggered (h : CoolerLeft s t) (before : s.clc.mode = .normal ∨ s.clc.mode = .flush)
    (after : t.clc.mode = .flush) (trigger : s.clc.trigger s.coolerReadings = true) :
    t.clc.flushTimer = some ⟨s.clc.config.flushTime, s.moment⟩ := by
  rw [h.mode] at after
  rw [h.timer, if_pos]
  obtain before | before := before <;> simp [Cooler.triggered, before, after, trigger]

theorem timer_untriggered (h : CoolerLeft s t) (trigger : s.clc.trigger s.coolerReadings = false) :
    t.clc.flushTimer = s.clc.flushTimer := by
  rw [h.timer, if_neg]
  simp [Cooler.triggered, trigger]

theorem cap_kept (h : CoolerLeft s t) (before : s.clc.mode ≠ .normal) : t.fsc.flushCap = s.fsc.flushCap := by
  rw [h.cap, if_neg fun e => before e.1]

end CoolerLeft

/-! ### The compartments of a period -/

/-- The figures of the air distribution at a period (R110). -/
def Cooler.restAir (k : Cooler) (rate : Int) : Nat := rate.toNat * k.config.specificAir / 10 - fixedAir k.compartments

theorem fixedAir_congr {cs ds : Tbl Compartment 8} (same : ∀ n, (cs.get n).config = (ds.get n).config) :
    fixedAir cs = fixedAir ds :=
  sum_configs same (fun c => c.control == .fixed) fun c => c.fixedSpeed * c.capacity / 1000

theorem autoWeights_congr {cs ds : Tbl Compartment 8} (same : ∀ n, (cs.get n).config = (ds.get n).config) :
    autoWeights cs = autoWeights ds := sum_configs same (fun c => c.control == .auto) (·.weight)

theorem State.pressuresRead_get (s : State) (n : Comp) : s.pressuresRead.get n = { s.clc.compartments.get n with
    pressure := (s.point (pressurePoint n)).value, pressureQuality := (s.point (pressurePoint n)).quality } :=
  Tbl.get_make ..

/-- A compartment after a period, from its record with the pressure read. -/
theorem CoolerLeft.comp {s t : State} (h : CoolerLeft s t) (n : Comp) : t.clc.compartments.get n
    = Compartment.fixedTaken (match t.clc.mode with
      | .idle => ((s.pressuresRead.get n).autoTakes (s.clc.compartments.get n).config.minSpeed).flagCleared
      | .normal => (s.pressuresRead.get n).distributed (s.clc.restAir (s.point 6).value) (autoWeights s.clc.compartments)
      | .flush =>
        if isRecup n then
          ((s.pressuresRead.get n).distributed (s.clc.restAir (s.point 6).value)
            (autoWeights s.clc.compartments)).autoTakes Config.speedMax
        else (s.pressuresRead.get n).distributed (s.clc.restAir (s.point 6).value) (autoWeights s.clc.compartments)
      | .held => s.pressuresRead.get n
      | .manual => ((s.pressuresRead.get n).autoTakes (s.clc.compartments.get n).manualSpeed).flagCleared) := by
  have same (n : Comp) : (s.pressuresRead.get n).config = (s.clc.compartments.get n).config := by
    rw [State.pressuresRead_get]
  have manual : (s.pressuresRead.get n).manualSpeed = (s.clc.compartments.get n).manualSpeed := by
    rw [State.pressuresRead_get]
  rw [h.comps, outputs_get, ← h.mode, fixedAir_congr same, autoWeights_congr same, same, manual]
  rfl

/-- A compartment's air-short flag after a period, where its control leaves it alone. -/
def CoolerMode.flagKept (m : CoolerMode) (flag : Bool) : Bool :=
  match m with
  | .idle | .manual => false
  | .normal | .flush | .held => flag

section control
variable {s t : State} {n : Comp}

theorem CoolerLeft.comp_fixed (h : CoolerLeft s t) (fixed : (s.clc.compartments.get n).config.control = .fixed) :
    t.clc.compartments.get n = { s.pressuresRead.get n with
      speed := (s.clc.compartments.get n).config.fixedSpeed
      airShort := t.clc.mode.flagKept (s.clc.compartments.get n).airShort } := by
  have read : (s.pressuresRead.get n).config.control = .fixed := by rw [State.pressuresRead_get]; exact fixed
  rw [h.comp]
  cases t.clc.mode <;>
    simp only [Compartment.autoTakes_fixed read, Compartment.distributed_fixed read, ite_self]
  · rw [Compartment.fixedTaken_fixed (by exact read), State.pressuresRead_get]; rfl
  · rw [Compartment.fixedTaken_fixed read, State.pressuresRead_get]; rfl
  · rw [Compartment.fixedTaken_fixed read, State.pressuresRead_get]; rfl
  · rw [Compartment.fixedTaken_fixed read, State.pressuresRead_get]; rfl
  · rw [Compartment.fixedTaken_fixed (by exact read), State.pressuresRead_get]; rfl

/-- The speed that the air distribution asks of a compartment (R110). -/
def Cooler.askedOf (k : Cooler) (rate : Int) (n : Comp) : Nat :=
  (k.compartments.get n).config.asked (k.restAir rate) (autoWeights k.compartments)

/-- The speed of an AUTO compartment after a period (Table 6.6). -/
def Cooler.autoSpeed (k : Cooler) (rate : Int) (m : CoolerMode) (n : Comp) : Nat :=
  match m with
  | .idle => (k.compartments.get n).config.minSpeed
  | .normal => min 1000 (max (k.compartments.get n).config.minSpeed (k.askedOf rate n))
  | .flush =>
    if n.val < 3 then 1000 else min 1000 (max (k.compartments.get n).config.minSpeed (k.askedOf rate n))
  | .held => (k.compartments.get n).speed
  | .manual => (k.compartments.get n).manualSpeed

/-- The air-short flag of an AUTO compartment after a period (R111). -/
def Cooler.autoFlag (k : Cooler) (rate : Int) (m : CoolerMode) (n : Comp) : Bool :=
  match m with
  | .idle | .manual => false
  | .normal | .flush => decide (1000 < k.askedOf rate n)
  | .held => (k.compartments.get n).airShort

theorem CoolerLeft.comp_auto (h : CoolerLeft s t) (auto : (s.clc.compartments.get n).config.control = .auto) :
    t.clc.compartments.get n = { s.pressuresRead.get n with
      speed := s.clc.autoSpeed (s.point 6).value t.clc.mode n
      airShort := s.clc.autoFlag (s.point 6).value t.clc.mode n } := by
  have read : (s.pressuresRead.get n).config.control = .auto := by rw [State.pressuresRead_get]; exact auto
  rw [h.comp]
  cases t.clc.mode <;> simp only [Compartment.autoTakes_auto read, Compartment.distributed_auto read]
  · rw [Compartment.fixedTaken_auto (by exact read), State.pressuresRead_get]; rfl
  · rw [Compartment.fixedTaken_auto (by exact read), State.pressuresRead_get]; rfl
  · rw [Cooler.autoSpeed, isRecup]
    by_cases recup : n.val < 3
    · simp only [recup, decide_true, if_true]
      rw [Compartment.autoTakes_auto (by exact read), Compartment.fixedTaken_auto (by exact read), State.pressuresRead_get]
      rfl
    · simp only [recup, decide_false, if_false, Bool.false_eq_true]
      rw [Compartment.fixedTaken_auto (by exact read), State.pressuresRead_get]
      rfl
  · rw [Compartment.fixedTaken_auto read, State.pressuresRead_get]; rfl
  · rw [Compartment.fixedTaken_auto (by exact read), State.pressuresRead_get]; rfl

/-- Every compartment keeps its configuration and manual speed, and takes the reading of its pressure point. -/
theorem CoolerLeft.comp_kept (h : CoolerLeft s t) (n : Comp) :
    (t.clc.compartments.get n).config = (s.clc.compartments.get n).config
      ∧ (t.clc.compartments.get n).manualSpeed = (s.clc.compartments.get n).manualSpeed
      ∧ (t.clc.compartments.get n).pressure = (s.point (pressurePoint n)).value
      ∧ (t.clc.compartments.get n).pressureQuality = (s.point (pressurePoint n)).quality := by
  cases control : (s.clc.compartments.get n).config.control with
  | fixed => rw [h.comp_fixed control, State.pressuresRead_get]; exact ⟨rfl, rfl, rfl, rfl⟩
  | auto => rw [h.comp_auto control, State.pressuresRead_get]; exact ⟨rfl, rfl, rfl, rfl⟩

end control

/-! ### The flush timer (R116) -/

section flush
variable {s : State}

theorem exec_flushTimer (run : s.phase = .running) : exec .flushTimerExpiry s = .next s.flushExpires.after := by
  show finish (s.whileRunning State.flushExpires) = _
  rw [State.whileRunning_running run, finish_eq]

/-- The cooler at the expiry of its flush timer, before the report. -/
def State.flushStopped (s : State) : State :=
  { s with
    clc := { s.clc with flushTimer := none, mode := if s.clc.mode = .flush then .normal else s.clc.mode }
    fsc := { s.fsc with flushCap := none } }

theorem State.flushExpires_eq {x : Timer} (running : s.clc.flushTimer = some x) :
    s.flushExpires = s.flushStopped.flushReport := by
  rw [State.flushExpires, running]
  rfl

end flush

/-- Settles O27. -/
theorem coolerTimersAct : Obligations.CoolerTimersAct := by
  refine ⟨fun s run => ⟨fun x running told => ?_, fun x running untold => ?_, exec_coolerPeriod run⟩, fun s t run stepped => ?_⟩
  · rw [exec_flushTimer run, State.flushExpires_eq running, State.flushReport_eq]
    refine congrArg (fun u : State => Host.Outcome.next u.after) ((State.told_goes rfl told _).trans ?_)
    rfl
  · rw [exec_flushTimer run, State.flushExpires_eq running, State.flushReport, if_pos (show s.flushStopped.clc.reportedFlush
      = s.flushStopped.clc.flushTimer.isSome from untold)]
    rfl
  · have h := coolerPeriod_left run stepped
    have unread (unusable : (s.point 6).quality.usable = false ∨ (s.point 8).quality.usable = false) :
        s.coolerReadings.usable = false := by
      obtain e | e := unusable <;> simp [CoolerReadings.usable, State.coolerReadings, e]
    refine ⟨fun manual => ?_, fun unusable => ?_, fun rate bed => ?_, h.bed, fun n => ?_, h.held, h.flush, ?_⟩
    · have mode : t.clc.mode = .manual := by rw [h.mode, Cooler.nextMode, manual]
      obtain ⟨timer, cap⟩ := h.unflushed (by rw [mode]; nofun)
      exact ⟨mode, by rw [h.grate_eq, mode]; rfl, timer, cap⟩
    · have mode := h.mode_unusable (unread unusable)
      refine ⟨fun before => ?_, fun idle => ?_, ?_⟩
      · have held : t.clc.mode = .held := by
          obtain e | e | e := before <;> rw [mode, e]
        exact ⟨held, by rw [h.grate_eq, held]; rfl⟩
      · rw [idle] at mode
        exact ⟨mode, by rw [h.grate_eq, mode]; rfl⟩
      · exact h.unflushed (by rw [mode]; cases s.clc.mode <;> nofun)
    · have usable : s.coolerReadings.usable = true := by simp [CoolerReadings.usable, State.coolerReadings, rate, bed]
      have mode := h.mode_usable usable
      have asks := Cooler.trigger_iff (k := s.clc) (r := s.coolerReadings) bed
      have flushing (on : t.clc.mode = .flush) : t.clc.grate = s.clc.config.grateMax := by rw [h.grate_eq, on]; rfl
      refine ⟨fun held => ?_, fun idle low => ?_, fun idle high => ?_, fun normal low => ?_, fun normal high trigger => ?_,
        fun normal high quiet => ?_, fun flush trigger => ?_, fun flush quiet => ?_, fun normal => ?_, fun idle => ?_⟩
      · rw [mode, held]
      · rw [mode, idle]
        exact if_neg (Int.not_le.mpr low)
      · rw [mode, idle]
        exact if_pos high
      · rw [mode, normal]
        exact if_pos low
      · rw [normal] at mode
        simp only [if_neg (Int.not_lt.mpr high), if_pos (asks.mpr trigger)] at mode
        exact ⟨mode, h.timer_triggered (.inl normal) mode (asks.mpr trigger), flushing mode,
          by rw [h.cap, if_pos ⟨normal, h.mode ▸ mode⟩]⟩
      · rw [mode, normal]
        simp only [if_neg (Int.not_lt.mpr high), if_neg (mt asks.mp quiet)]
      · rw [flush] at mode
        exact ⟨mode, h.timer_triggered (.inr flush) mode (asks.mpr trigger), flushing mode, h.cap_kept (by rw [flush]; nofun)⟩
      · rw [flush] at mode
        exact ⟨mode, h.timer_untriggered (by simpa using mt asks.mp quiet), flushing mode, h.cap_kept (by rw [flush]; nofun)⟩
      · obtain ⟨timer, cap⟩ := h.unflushed (by rw [normal]; nofun)
        exact ⟨timer, cap, h.grate_normal normal⟩
      · obtain ⟨timer, cap⟩ := h.unflushed (by rw [idle]; nofun)
        exact ⟨timer, cap, by rw [h.grate_eq, idle]; rfl⟩
    · obtain ⟨config, manual, pressure, quality⟩ := h.comp_kept n
      refine ⟨config, manual, fun p place => ?_, fun fixed => ⟨?_, fun on => ?_⟩, fun on => ?_, fun on => ?_, fun auto => ?_⟩
      · obtain rfl : p = pressurePoint n := Fin.ext place
        exact ⟨pressure, quality⟩
      · rw [h.comp_fixed fixed]
      · rw [h.comp_fixed fixed]
        obtain on | on := on <;> rw [on] <;> rfl
      · cases control : (s.clc.compartments.get n).config.control with
        | fixed => rw [h.comp_fixed control]; obtain on | on := on <;> rw [on] <;> rfl
        | auto => rw [h.comp_auto control]; obtain on | on := on <;> rw [on] <;> rfl
      · cases control : (s.clc.compartments.get n).config.control with
        | fixed => rw [h.comp_fixed control, on]; rfl
        | auto => rw [h.comp_auto control, on]; rfl
      · rw [h.comp_auto auto]
        refine ⟨fun on => ?_, fun on => ?_, fun on => ?_, fun on => ⟨?_, ?_⟩, fun on => ⟨?_, ?_⟩⟩ <;> rw [on] <;> rfl
    · rw [h.airShort]
      exact Cooler.airShortDue_iff _

/-! ### The requests (R107 to R109, R118, R119) -/

section requests
variable {p : Port} {f : List Byte} {s : State} {n : Comp}

theorem ownerSetCompartment_of (named : comp? (field f 0 1) = some n) (weight : field f 1 2 ≤ 1000)
    (low : 20000 ≤ field f 3 4) (high : field f 3 4 ≤ 200000) (slow : 100 ≤ field f 7 2) (fast : field f 7 2 ≤ 500) :
    ownerSetCompartment p f s = ⟨.ok, [], s.setCompartment n ((s.clc.compartments.get n).configured s.clc.mode (field f 1 2)
      (field f 3 4) (field f 7 2))⟩ := by
  have inRange : ¬ (Config.weightMax < field f 1 2 ∨ field f 3 4 < Config.fanCapacityMin ∨ Config.fanCapacityMax < field f 3 4
      ∨ field f 7 2 < Config.minSpeedMin ∨ Config.minSpeedMax < field f 7 2) := by
    simp only [Config.weightMax, Config.fanCapacityMin, Config.fanCapacityMax, Config.minSpeedMin, Config.minSpeedMax]
    omega
  rw [ownerSetCompartment, withComp_named named, if_neg inRange]
  rfl

theorem ownerSetCompartmentControl_of {k : CompControl} (named : comp? (field f 0 1) = some n)
    (control : control? (field f 1 1) = some k) : ownerSetCompartmentControl p f s
      = ⟨if 1000 < field f 2 2 then .okClamped else .ok, [],
        s.setCompartment n ((s.clc.compartments.get n).controlled s.clc.mode k (min 1000 (field f 2 2)))⟩ := by
  rw [ownerSetCompartmentControl, withComp_named named]
  simp only [control, takenClamped, Config.speedMax]
  congr 1
  exact if_congr decide_eq_true_iff rfl rfl

theorem ownerSetCoolerConfig_of (range : (coolerConfigOf f).inRange = true)
    (ordered : (coolerConfigOf f).grateMin ≤ (coolerConfigOf f).grateMax) :
    ownerSetCoolerConfig p f s = ⟨.ok, [], s.setCooler (s.clc.configured (coolerConfigOf f))⟩ := by
  simp only [ownerSetCoolerConfig, range, Bool.true_eq_false, if_false, if_neg (Nat.not_lt.mpr ordered)]
  rfl

theorem status_of_bne (v w : Nat) : (if (v != w) = true then Status.okClamped else .ok) = if v = w then .ok else .okClamped := by
  by_cases same : v = w <;> simp [same]

theorem ownerSetManualSpeed_of (named : comp? (field f 0 1) = some n) (manual : s.clc.mode = .manual)
    (auto : (s.clc.compartments.get n).config.control = .auto) {v : Nat}
    (bound : v = min 1000 (max (s.clc.compartments.get n).config.minSpeed (field f 1 2))) : ownerSetManualSpeed p f s
      = ⟨if v = field f 1 2 then .ok else .okClamped, [],
        s.setCompartment n { s.clc.compartments.get n with speed := v, manualSpeed := v }⟩ := by
  have same : (s.clc.compartments.get n).config.manualBound (field f 1 2) = v := bound.symm
  rw [ownerSetManualSpeed, withComp_named named, if_neg (by simp [manual, auto])]
  simp only [same, takenClamped, status_of_bne]

theorem ownerSetManualGrate_of (manual : s.clc.mode = .manual) {v : Nat}
    (bound : v = max s.clc.config.grateMin (min s.clc.config.grateMax (field f 0 2))) : ownerSetManualGrate p f s
      = ⟨if v = field f 0 2 then .ok else .okClamped, [], s.setCooler { s.clc with grate := v, manualGrate := v }⟩ := by
  have same : s.clc.config.bound (field f 0 2) = v := bound.symm
  rw [ownerSetManualGrate, if_neg (not_not.mpr manual)]
  simp only [same, takenClamped, status_of_bne]

theorem ownerCoolerMode_manual (asked : field f 0 1 = 1) (other : s.clc.mode ≠ .manual) :
    ownerCoolerMode p f s = ⟨.ok, u8 4, s.enterManual⟩ := by
  simp only [ownerCoolerMode, asked, if_neg other]
  rfl

theorem ownerCoolerMode_automatic (asked : field f 0 1 = 0) (manual : s.clc.mode = .manual) : ownerCoolerMode p f s
    = ⟨.ok, u8 s.automaticMode.code, s.setCooler { s.clc with mode := s.automaticMode }⟩ := by
  simp only [ownerCoolerMode, asked, if_pos manual]
  rfl

end requests

/-- Settles O26: each request by what its owner makes of the state it takes. -/
theorem coolerRequestsAct : Obligations.CoolerRequestsAct := by
  refine ⟨fun p q f s => ⟨fun n ready named weight low high slow fast => ?_, fun n k ready named control => ?_,
    fun c spelled ready range ordered => ?_, fun n v ready named manual auto bound => ?_, fun v ready manual bound => ?_⟩,
    fun p q f s ready => ⟨fun asked other => ?_, fun asked manual usable low => ?_, fun asked manual high => ?_⟩⟩
  · refine exec_of_owner ready q ((ownerSetCompartment_of (p := p) named weight low high slow fast).trans ?_)
    simp only [State.taking_clc]
  · refine exec_of_owner ready q ((ownerSetCompartmentControl_of (p := p) named control).trans ?_)
    simp only [State.taking_clc]
  · subst spelled
    refine exec_of_owner ready q ((ownerSetCoolerConfig_of (p := p) range ordered).trans ?_)
    simp only [State.taking_clc]
    rfl
  · refine exec_of_owner ready q ((ownerSetManualSpeed_of (p := p) named (by simpa using manual) (by simpa using auto)
      (by simpa using bound)).trans ?_)
    simp only [State.taking_clc, State.setCompartment]
  · refine exec_of_owner ready q ((ownerSetManualGrate_of (p := p) (by simpa using manual) (by simpa using bound)).trans ?_)
    simp only [State.taking_clc, State.setCooler]
  · refine exec_of_owner ready q ((ownerCoolerMode_manual (p := p) asked (by simpa using other)).trans ?_)
    simp only [State.enterManual, State.taking_clc, State.setCooler]
  · have idle : (s.taking p).automaticMode = .idle := if_pos (by rw [State.taking_point]; exact ⟨usable, low⟩)
    refine exec_of_owner ready q ((ownerCoolerMode_automatic (p := p) asked (by simpa using manual)).trans ?_)
    rw [idle, State.taking_clc]
    rfl
  · have normal : (s.taking p).automaticMode = .normal := if_neg fun e => by
      obtain unusable | high := high
      · rw [State.taking_point] at e
        exact absurd (e.1.symm.trans unusable) nofun
      · rw [State.taking_point] at e
        exact absurd e.2 (Int.not_lt.mpr high)
    refine exec_of_owner ready q ((ownerCoolerMode_automatic (p := p) asked (by simpa using manual)).trans ?_)
    rw [normal, State.taking_clc]
    rfl

end Sys2Proof.Machine
end

section
/-!
Proofs. Channels at rest.  A report changes no more of a channel in CH_OFF or CH_TRIPPED than its alarm holds, so what a
restart writes of the channels stands when its reports have been taken: `WarmRestartIsSafe`, `PowerOnLeavesTheStartValues`.
-/
set_option Elab.async false

namespace Sys2Proof.Machine

/-- What the state holds of a channel, its alarm holds left out. -/
def ChannelUnit.core (u : ChannelUnit) : ChannelUnit :=
  { u with chan := { u.chan with alarmHolds := [], holds := { u.chan.holds with alarm := false } } }

section core
variable {id : Identity} {u : ChannelUnit}

theorem ChannelUnit.acted_core (rest : u.chan.state.active = false) (hold trip : Bool) :
    (u.acted id hold trip).core = u.core := by
  have stays : (u.chan.state == .starting || u.chan.state == .running) = false := by
    cases h : u.chan.state <;> simp_all [ChannelState.active]
  simp [core, acted, ChannelRecord.acted, rest, stays]

theorem ChannelUnit.released_core (rest : u.chan.state.active = false) (b : Bool) : (u.released id b).core = u.core := by
  have stays : (u.chan.state == .holding) = false := by
    cases h : u.chan.state <;> simp_all [ChannelState.active]
  unfold released
  split
  · simp [core, freed, ChannelRecord.freed, stays]
  · rfl

end core

/-- A channel that is not active keeps all but its alarm holds. -/
def Rests (c : Chan) (s t : State) : Prop := (s.chan c).state.active = false → (t.unit c).core = (s.unit c).core

namespace Rests

variable {c : Chan} {s t u : State}

theorem of_unit (h : t.unit c = s.unit c) : Rests c s t := fun _ => by rw [h]

theorem refl (s : State) : Rests c s s := of_unit rfl

theorem state (h : (t.unit c).core = (s.unit c).core) : (t.chan c).state = (s.chan c).state :=
  congrArg (fun u => u.chan.state) h

theorem trans (a : Rests c s t) (b : Rests c t u) : Rests c s u := fun rest =>
  (b ((congrArg _ (state (a rest))).trans rest)).trans (a rest)

theorem foldl {α : Type} {f : State → α → State} (h : ∀ s a, Rests c s (f s a)) (l : List α) (s : State) :
    Rests c s (l.foldl f s) := by
  induction l generalizing s with
  | nil => exact refl s
  | cons a l ih => exact (h s a).trans (ih _)

theorem entryIntoForce (e : EntryNo) (s : State) : Rests c s (s.entryIntoForce e) := by
  cases rule : (s.alt.tripMap.get e).rule with
  | none => exact of_unit (by simp only [State.entryIntoForce, rule])
  | some r => exact fun rest => by rw [(s.entryIntoForce_effect e rule).1, ChannelUnit.acted_core rest]

theorem entryOutOfForce (e : EntryNo) (s : State) : Rests c s (s.entryOutOfForce e) := by
  cases rule : (s.alt.tripMap.get e).rule with
  | none =>
    refine of_unit ?_
    unfold State.entryOutOfForce
    split
    next h => rw [h] at rule; cases rule
    · rfl
    · rfl
  | some r => exact fun rest => by rw [(State.entryOutOfForce_effect e rule).1, ChannelUnit.released_core rest]

theorem intoForce (id : Identity) (s : State) : Rests c s (s.intoForce id) :=
  foldl (fun s e => by split; exacts [entryIntoForce e s, refl s]) _ s

theorem outOfForce (id : Identity) (s : State) : Rests c s (s.outOfForce id) :=
  foldl (fun s e => by split; exacts [entryOutOfForce e s, refl s]) _ s

theorem comesAfresh (id : Identity) (l : Option Level) (p : Priority) (s : State) : Rests c s (s.comesAfresh id l p) :=
  ((of_unit ((State.comesOnRecords_kept (id := id) _ s).2 c)).trans (intoForce id _)).trans
    ((of_unit (State.cameNotice_unit p c)).trans (of_unit (State.settle_unit c)))

theorem levelOfPresent (id : Identity) (k : Condition) (l : Option Level) (p : Priority) (s : State) :
    Rests c s (s.levelOfPresent id k l p) := by
  have records : ∃ a, s.levelOfPresent id k l p = ((s.setAlt a).intoForce id).settle := by
    unfold State.levelOfPresent
    simp only
    repeat' split
    all_goals exact ⟨_, rfl⟩
  obtain ⟨a, written⟩ := records
  rw [written]
  exact ((of_unit (State.setAlt_unit a c)).trans (intoForce id _)).trans (of_unit (State.settle_unit c))

theorem comes (id : Identity) (l : Option Level) (p : Priority) (s : State) : Rests c s (s.comes id l p) := by
  unfold State.comes
  split
  · exact comesAfresh id l p s
  · split
    · exact levelOfPresent id _ l p s
    · exact of_unit rfl

theorem comesFixed (id : Identity) (s : State) : Rests c s (s.comesFixed id) := comes id none _ s

theorem levelChanges (id : Identity) (l : Option Level) (p : Priority) (s : State) :
    Rests c s (s.levelChanges id l p) := by
  unfold State.levelChanges
  split
  · exact comesAfresh id l p s
  · exact levelOfPresent id _ l p s

theorem goes (id : Identity) (s : State) : Rests c s (s.goes id) := by
  unfold State.goes
  split
  · exact refl s
  next k _ =>
    exact ((of_unit ((State.goesOnRecords_kept (id := id) k s).2 c)).trans (outOfForce id _)).trans
      (of_unit (State.settle_unit c))

theorem report (r : Report) (s : State) : Rests c s (s.report r) := by
  cases r with
  | comes id l p => exact comes id l p s
  | goes id => exact goes id s
  | level id l p => exact levelChanges id l p s

theorem reconcile (n : PointNo) (s : State) : Rests c s (s.reconcile n) :=
  (of_unit (t := s.setPoint n (s.ptb.matched n)) rfl).trans (foldl (fun s r => report r s) _ _)

theorem reconcileAll (s : State) : Rests c s s.reconcileAll := foldl (fun s n => reconcile n s) _ s

theorem offNotice (d : Chan) (b : Bool) (s : State) : Rests c s (s.offNotice d b) :=
  (of_unit (t := { s with ptb := { s.ptb with offMarks := s.ptb.offMarks.put d b } }) rfl).trans
    (foldl (fun s n => reconcile n s) _ _)

theorem reconcileStore (s : State) : Rests c s s.reconcileStore := by
  have field : Rests c s { s with sst := { s.sst with reportedFault := !s.sst.imageValid } } := of_unit rfl
  unfold State.reconcileStore
  simp only
  repeat' split
  · exact refl s
  · exact field.trans (goes _ _)
  · exact field.trans (comesFixed _ _)

theorem resendOverdrawn (s : State) : Rests c s s.resendOverdrawn :=
  foldl (fun s d => by split; exacts [comesFixed _ s, refl s]) _ s

theorem resendStore (s : State) : Rests c s s.resendStore :=
  (of_unit (t := { s with sst := { s.sst with reportedFault := false } }) rfl).trans (reconcileStore _)

theorem resendLocked (s : State) : Rests c s s.resendLocked := by
  unfold State.resendLocked
  split
  · exact (of_unit (t := s.setAccess { s.acu with reportedLocked := true }) rfl).trans (comesFixed _ _)
  · exact refl s

end Rests

/-! ### The warm restart -/

/-- A channel after the trips of every channel. -/
theorem State.tripEvery_core (x : TripCause) (s : State) (c : Chan) :
    ((s.tripEvery x).unit c).core = ((s.unit c).tripped x).core := by
  have unit := tripAll_unit x s c
  unfold State.tripEvery
  generalize hu : allChans.foldl (fun s c => if (s.chan c).state = .tripped then s else s.tripTaken c x) s = u at unit ⊢
  have tripped : (u.chan c).state = .tripped := by rw [← hu]; exact tripAll_tripped x s c
  rw [← unit]
  exact Rests.foldl (fun s d => Rests.offNotice d false s) _ u (by rw [tripped]; rfl)

theorem ChannelUnit.tripped_core (x : TripCause) (u : ChannelUnit) : (u.tripped x).core = u.core.tripped x := by
  unfold tripped
  split
  next on => rw [if_pos (show u.core.chan.state = .tripped from on)]
  next on => rw [if_neg (show ¬ u.core.chan.state = .tripped from on)]; rfl

/-- Each channel as a warm restart leaves it, tripped where the trip line stands asserted (R65). -/
theorem State.warmRestart_core (s : State) (c : Chan) : (s.warmRestart.unit c).core
    = if s.tripLine then (s.blocksWarm.unit c).core.tripped .tripLine else (s.blocksWarm.unit c).core := by
  have off : (s.blocksWarm.chan c).state = .off := by
    simp [State.blocksWarm, State.chan, ChannelController.warm, ChannelRecord.warm]
  have before : Rests c s.blocksWarm (s.blocksWarm.reportNotice s.sht.reportDue).reconcileAll.resendOverdrawn :=
    .trans (.of_unit (t := s.blocksWarm.reportNotice s.sht.reportDue) rfl)
      (.trans (.reconcileAll _) (.resendOverdrawn _))
  have line : (s.blocksWarm.reportNotice s.sht.reportDue).reconcileAll.resendOverdrawn.tripLine = s.tripLine := by
    rw [(Touches.resendOverdrawn _).line, (Touches.reconcileAll _).line]; rfl
  unfold State.warmRestart
  simp only
  generalize State.resendOverdrawn _ = u at before line ⊢
  have same := before (by rw [off]; rfl)
  have rest : (u.chan c).state = .off := (Rests.state same).trans off
  have after (t : State) : Rests c t t.resendStore.resendLocked := .trans (.resendStore t) (.resendLocked _)
  simp only [State.resendTripLine, line]
  split
  · have tripped : (u.tripLineTaken.chan c).state = .tripped := tripLineTaken_tripped u c
    have every : ((u.tripEvery .tripLine).chan c).state = .tripped := tripEvery_tripped .tripLine u c
    rw [after _ (by rw [tripped]; rfl), State.tripLineTaken, Rests.comesFixed _ _ (by rw [every]; rfl),
      State.tripEvery_core, ChannelUnit.tripped_core, same]
  · rw [after _ (by rw [rest]; rfl), same]

/-- The condition of the trip line is re-sent with it. -/
theorem State.warmRestart_tripIn {s : State} (line : s.tripLine = true) :
    s.warmRestart.alt.isPresent (.system .tripIn) = true := by
  have asserted : (s.blocksWarm.reportNotice s.sht.reportDue).reconcileAll.resendOverdrawn.tripLine = true := by
    rw [(Touches.resendOverdrawn _).line, (Touches.reconcileAll _).line]; exact line
  have stored (t : State) : t.resendStore.alt.isPresent (.system .tripIn) = t.alt.isPresent (.system .tripIn) := by
    unfold State.resendStore State.reconcileStore
    simp only
    repeat' split
    · rfl
    · exact State.report_present (id := .system .tripIn) nofun (.goes (.system .storeFault)) _
    · exact State.report_present (id := .system .tripIn) nofun (.comes (.system .storeFault) none _) _
  have locked (t : State) : t.resendLocked.alt.isPresent (.system .tripIn) = t.alt.isPresent (.system .tripIn) := by
    unfold State.resendLocked
    split
    · exact State.report_present (id := .system .tripIn) nofun (.comes (.system .accessLocked) none _) _
    · rfl
  unfold State.warmRestart
  simp only
  rw [locked, stored, State.resendTripLine, if_pos asserted, State.tripLineTaken, State.comesFixed,
    State.comes_present (id := .system .tripIn) nofun]

theorem State.blocksWarm_unit (s : State) (c : Chan) :
    s.blocksWarm.unit c = ⟨(s.chan c).warm, 0, 0, (s.feeder c).zeroed⟩ := by
  simp [State.blocksWarm, State.unit, State.chan, State.setpoint, State.feeder, ChannelController.warm, Firing.warm]

/-- Settles O37: every channel rests after the blocks' own restart, and the re-sent reports move no channel at rest. -/
theorem warmRestartIsSafe : Obligations.WarmRestartIsSafe := by
  have core (s : State) (c : Chan) := (s.warmRestart_core c).trans (by rw [s.blocksWarm_unit])
  have apart {s : State} (line : s.tripLine = false) (c : Chan) :
      (s.warmRestart.unit c).core = ChannelUnit.core ⟨(s.chan c).warm, 0, 0, (s.feeder c).zeroed⟩ := by
    rw [core, if_neg (by simp [line])]
  have tripped {s : State} (line : s.tripLine = true) (c : Chan) : (s.warmRestart.unit c).core
      = (ChannelUnit.core ⟨(s.chan c).warm, 0, 0, (s.feeder c).zeroed⟩).tripped .tripLine := by
    rw [core, if_pos line]
  refine ⟨fun s => ⟨fun c => ?_, ?_⟩, fun s line c => ?_, fun s line => ⟨fun c => ?_, s.warmRestart_tripIn line, ?_⟩⟩
  · have still : (s.warmRestart.unit c).setpoint = 0 ∧ (s.warmRestart.unit c).target = 0
        ∧ (s.warmRestart.unit c).feeder.pendingRate = 0 ∧ (s.warmRestart.unit c).feeder.appliedRate = 0
        ∧ (s.warmRestart.unit c).chan.holds.operator = false := by
      have view (u : ChannelUnit) : u.setpoint = u.core.setpoint ∧ u.target = u.core.target ∧ u.feeder = u.core.feeder
          ∧ u.chan.holds.operator = u.core.chan.holds.operator := ⟨rfl, rfl, rfl, rfl⟩
      obtain ⟨setpoint, target, feeder, operator⟩ := view (s.warmRestart.unit c)
      rw [setpoint, target, feeder, operator, core]
      split
      · exact ⟨rfl, rfl, rfl, rfl, rfl⟩
      · exact ⟨rfl, rfl, rfl, rfl, rfl⟩
    have fed := ((Touches.warmRestart s).masses (of_decide_eq_true rfl) c).1
    generalize s.warmRestart = t at still fed
    obtain ⟨setpoint, target, pending, applied, operator⟩ := still
    exact ⟨operator, setpoint, target, pending, applied, fed⟩
  · have touched := Touches.warmRestart s
    have resent := warmRestart_resent s
    have acu := blocksWarm_thenResent_acu s
    exact ⟨by rw [resent.cooler]; rfl, by rw [acu]; rfl, touched.settings, touched.lots, warmRestart_image s,
      touched.clock, by rw [acu], touched.demands.1⟩
  · have unit := apart line c
    generalize s.warmRestart = t at unit
    exact ⟨congrArg (fun u => u.chan.state) unit, congrArg (fun u => u.chan.tripCause) unit⟩
  · have unit := tripped line c
    generalize s.warmRestart = t at unit
    exact ⟨congrArg (fun u => u.chan.state) unit, congrArg (fun u => u.chan.tripCause) unit⟩
  · rw [(Touches.warmRestart s).line]
    exact line

/-! ### A start -/

/-- What the reports of a start can change of the state, its points, and the notice of the store's condition. -/
structure Restarted (s t : State) : Prop where
  rest   : t = { s with
    ptb := t.ptb, chc := t.chc, fsc := t.fsc, fdi := t.fdi, alt := t.alt, sht := t.sht
    sst := { s.sst with reportedFault := t.sst.reportedFault } }
  point  : ∀ p, t.point p = { s.point p with
    reportedLo := (t.point p).reportedLo, reportedHi := (t.point p).reportedHi
    reportedQuality := (t.point p).reportedQuality }
  firing : t.fsc = { s.fsc with target := t.fsc.target, setpoint := t.fsc.setpoint, clZeroed := t.fsc.clZeroed }
  shift  : t.sht = { s.sht with current := { s.sht.current with
    channels := t.sht.current.channels, came := t.sht.current.came } }
  link   : t.chc.supervision = s.chc.supervision
  core   : ∀ c, Rests c s t

namespace Restarted

variable {s t u : State}

theorem refl (s : State) : Restarted s s := ⟨rfl, fun _ => rfl, rfl, rfl, rfl, fun _ => .refl s⟩

theorem trans (a : Restarted s t) (b : Restarted t u) : Restarted s u where
  rest := by rw [b.rest, a.rest]
  point p := by rw [b.point p, a.point p]
  firing := by rw [b.firing, a.firing]
  shift := by rw [b.shift, a.shift]
  link := b.link.trans a.link
  core c := (a.core c).trans (b.core c)

theorem foldl {α : Type} {f : State → α → State} (h : ∀ s a, Restarted s (f s a)) (l : List α) (s : State) :
    Restarted s (l.foldl f s) := by
  induction l generalizing s with
  | nil => exact refl s
  | cons a l ih => exact (h s a).trans (ih _)

theorem of_report (h : ReportTouch s t) (core : ∀ c, Rests c s t) : Restarted s t where
  rest := by rw [h.rest]
  point p := by rw [State.point, h.rest]; rfl
  firing := h.firing
  shift := h.shift
  link := h.supervision
  core := core

theorem reconcile (n : PointNo) (s : State) : Restarted s (s.reconcile n) := by
  have written : Restarted s (s.setPoint n (s.ptb.matched n)) := by
    refine ⟨rfl, fun p => ?_, rfl, rfl, rfl, fun c => .of_unit rfl⟩
    rw [show (s.setPoint n (s.ptb.matched n)).point p = if p = n then s.ptb.matched n else s.point p from Tbl.get_put ..]
    split
    next e => subst e; rfl
    next => rfl
  exact written.trans (of_report (.reports (s.ptb.reports n) _) fun c => .foldl (fun s r => .report r s) _ _)

theorem reconcileStore (s : State) : Restarted s s.reconcileStore := by
  have field : Restarted s { s with sst := { s.sst with reportedFault := !s.sst.imageValid } } :=
    ⟨rfl, fun _ => rfl, rfl, rfl, rfl, fun c => .of_unit rfl⟩
  unfold State.reconcileStore
  simp only
  repeat' split
  · exact refl s
  · exact field.trans (of_report (.goes _ _) fun c => .goes _ _)
  · exact field.trans (of_report (.comes _ none _ _) fun c => .comes _ none _ _)

theorem start (x : ResetCause) (s : State) : Restarted (s.fresh x) (s.start x) :=
  (foldl (fun s n => reconcile n s) _ _).trans (reconcileStore _)

end Restarted

theorem State.fresh_unit (x : ResetCause) (s : State) (c : Chan) : (s.fresh x).unit c
    = ⟨.start (s.sst.image.settings.channels.get c), 0, 0,
      .start ((s.sst.image.settings.channels.get c).halves.map (·.calibration))⟩ := by
  simp [State.fresh, State.unit, State.chan, State.setpoint, State.feeder, ChannelController.start, Firing.start, feedersStart]

theorem State.fresh_point (x : ResetCause) (s : State) (p : PointNo) : (s.fresh x).point p
    = { config := s.sst.image.settings.points.get p, value := 0, quality := .bad, age := 255, band := .normal
        reportedLo := none, reportedHi := none, reportedQuality := false } := by
  simp [State.fresh, State.point, PointTable.start, Config.ageMax]

/-- Settles O38: what the fresh blocks hold, the reports of the start leave. -/
theorem powerOnLeavesTheStartValues : Obligations.PowerOnLeavesTheStartValues := by
  intro s t ran
  obtain rfl := Host.Outcome.next.inj ran
  have restarted := Restarted.start .powerOn (s.halt .off)
  have cores (c : Chan) := (restarted.core c (by simp [State.fresh, State.chan, ChannelController.start,
    ChannelRecord.start, ChannelState.active])).trans (by rw [State.fresh_unit])
  have points (p : PointNo) := (restarted.point p).trans (by rw [State.fresh_point])
  obtain ⟨rest, -, firing, shift, link, -⟩ := restarted
  generalize (s.halt .off).start .powerOn = u at *
  refine ⟨by rw [rest]; rfl, by rw [rest]; rfl, by rw [rest]; rfl, fun c => ?_, fun c => ?_, fun p => ?_, fun i => ?_,
    fun c => ?_, ?_⟩
  · have unit := congrArg ChannelUnit.chan (cores c)
    exact ⟨congrArg (·.state) unit, congrArg (·.tripCause) unit, congrArg (·.startTimer) unit,
      congrArg (·.stagedLimits) unit, congrArg (·.stagedCalibration) unit, congrArg (·.holds.operator) unit,
      congrArg (·.holds.controlLost) unit, congrArg (·.fed) unit, congrArg (·.debited) unit, congrArg (·.unassigned) unit⟩
  · have unit := cores c
    have feeder := congrArg ChannelUnit.feeder unit
    exact ⟨congrArg ChannelUnit.setpoint unit, congrArg ChannelUnit.target unit, congrArg (·.pendingRate) feeder,
      congrArg (·.appliedRate) feeder, congrArg (·.trim) feeder, congrArg (·.residue) feeder, congrArg (·.pulses) feeder,
      congrArg (·.stallTime) feeder, congrArg (·.stallWindow) feeder⟩
  · exact ⟨congrArg (·.value) (points p), congrArg (·.quality) (points p), congrArg (·.age) (points p),
      congrArg (·.band) (points p)⟩
  · rw [show u.lrg = LotRegistry.start by rw [rest]; rfl]
    exact Tbl.get_all ..
  · rw [show u.lrg = LotRegistry.start by rw [rest]; rfl]
    exact ⟨Tbl.get_all .., Tbl.get_all ..⟩
  · refine ⟨congrArg (·.demandMain) firing, congrArg (·.demandCalc) firing, congrArg (·.lastCredit) firing,
      congrArg (·.flushCap) firing, congrArg (·.link) link, congrArg (·.supervisionTimer) link, ?_⟩
    have cooler := congrArg State.clc rest
    have access := congrArg State.acu rest
    have store := congrArg State.sst rest
    exact ⟨congrArg (·.mode) cooler, (congrArg (·.grate) cooler).trans (congrArg (·.config.grateMin) cooler).symm,
      congrArg (·.flushTimer) cooler, congrArg (·.previousP8) cooler, congrArg (·.clock) shift,
      congrArg (·.current.number) shift, congrArg (·.held) shift, congrArg (·.isOpen) access,
      congrArg (·.lockout) access, congrArg (·.mismatches) access, congrArg State.control rest,
      congrArg State.panel rest, congrArg (·.cause) store, congrArg (·.unclean) store, congrArg (·.inFlight) store,
      congrArg (·.lastResult) store⟩

end Sys2Proof.Machine
end

section
/-!
Proofs. The settings store and power: `StoreAndPowerAct`, `SettingsSurviveOrDefault`.
-/
set_option Elab.async false

namespace Sys2Proof.Machine

/-! ### The store in a warm restart -/

theorem reconcileStore_causes (s : State) :
    s.reconcileStore.sst.cause = s.sst.cause ∧ s.reconcileStore.sst.unclean = s.sst.unclean := by
  rw [(Restarted.reconcileStore s).rest]
  exact ⟨rfl, rfl⟩

theorem warmRestart_causes (s : State) :
    s.warmRestart.sst.cause = .warm ∧ s.warmRestart.sst.unclean = s.someChannelOn := by
  have resent (u : State) : u.resendStore.sst.cause = u.sst.cause ∧ u.resendStore.sst.unclean = u.sst.unclean :=
    reconcileStore_causes { u with sst := { u.sst with reportedFault := false } }
  have blocks (u : State) (h : u = s.blocksWarm.reportNotice s.sht.reportDue) :
      u.reconcileAll.resendOverdrawn.resendTripLine.sst = s.blocksWarm.sst := by
    rw [(Touches.resendTripLine _).store, (Touches.resendOverdrawn _).store, (Touches.reconcileAll _).store, h]
    rfl
  unfold State.warmRestart
  simp only
  rw [(Touches.resendLocked _).store, (resent _).1, (resent _).2, blocks _ rfl]
  exact ⟨rfl, rfl⟩

theorem State.someChannelOn_eq (s : State) : s.someChannelOn = decide (∃ c, (s.chan c).state ≠ .off) := by
  rw [Bool.eq_iff_iff]
  simp [State.someChannelOn]

theorem ownerWarmRestart_eq (p : Port) (f : List Byte) (s : State) : ownerWarmRestart p f s
    = ⟨.ok, [2#8, if ∃ c, (s.chan c).state ≠ .off then 1#8 else 0#8], s.warmRestart⟩ := by
  obtain ⟨cause, unclean⟩ := warmRestart_causes s
  simp only [ownerWarmRestart, taken, Store.causeBytes, cause, unclean, State.someChannelOn_eq]
  by_cases on : ∃ c, (s.chan c).state ≠ .off
  · rw [if_pos on, decide_eq_true on]; rfl
  · rw [if_neg on, decide_eq_false on]; rfl

theorem exec_resetAssert {s : State} (on : s.phase ≠ .off) : exec .resetAssert s = .next (s.halt .held).after := by
  show finish _ = _
  rw [if_neg on]
  rfl

theorem exec_pinReset {s : State} (on : s.phase ≠ .off) :
    exec .pinReset s = .next ((s.halt .held).start .pin).after := by
  show finish _ = _
  rw [if_neg on]
  rfl

/-- Settles O36: each command by what its owner or its event makes of the state. -/
theorem storeAndPowerAct : Obligations.StoreAndPowerAct := by
  refine ⟨fun p q f s => ⟨fun ready => ?_, fun ready => ?_⟩, fun s => ⟨rfl, fun on => ?_, fun off => ?_, fun on => ?_, rfl,
    fun phase line => ?_, fun phase line => ?_, fun st saving => ⟨?_, ?_⟩⟩⟩
  · refine exec_of_owner ready q ?_
    have same : (s.taking p).settings = s.settings := by rw [State.taking_eq]; rfl
    show (⟨.ok, [], _⟩ : Reply) = _
    rw [same, State.taking_sst]
  · refine exec_of_owner ready q ((ownerWarmRestart_eq p f _).trans ?_)
    simp only [State.taking_chan]
  · exact exec_pinReset on
  · show finish _ = _
    rw [if_pos off]; rfl
  · exact exec_resetAssert on
  · show finish _ = _
    rw [if_pos phase, State.startUpEnds]
    simp only [line]
    rfl
  · show finish _ = _
    rw [if_pos phase, State.startUpEnds]
    simp only [line]
    rfl
  · show finish (s.saveCompletes true) = _
    simp only [State.saveCompletes, saving]
    rfl
  · show finish (s.saveCompletes false) = _
    simp only [State.saveCompletes, saving]
    rfl

/-! ### Settings through a start -/

theorem State.fresh_settings (x : ResetCause) (s : State) : (s.fresh x).settings = s.sst.image.settings := by
  simp [State.settings, State.fresh, State.point, State.chan, PointTable.start, ChannelController.start,
    ChannelRecord.start, Firing.start, Cooler.start, Compartment.start, AlarmTable.start, ShiftUnit.start, Access.start]

theorem State.start_settings (x : ResetCause) (s : State) : (s.start x).settings = s.sst.image.settings := by
  unfold State.start
  rw [(Touches.reconcileStore _).settings, (Touches.reconcileAll _).settings, State.fresh_settings]

theorem State.start_store (x : ResetCause) (s : State) :
    (s.start x).sst = { s.sst.started x with reportedFault := !s.sst.image.valid } := by
  have reported (u : State) : u.reconcileStore.sst = { u.sst with reportedFault := !u.sst.imageValid } := by
    unfold State.reconcileStore
    simp only
    repeat' split
    next same => rw [← same]
    · exact (Touches.goes (.system .storeFault) _).store
    · exact (Touches.comesFixed (.system .storeFault) _).store
  unfold State.start
  rw [reported, (Touches.reconcileAll _).store]
  rfl

/-! ### The store fault of a start -/

/-- A point of which nothing is reported and nothing due. -/
structure PointRecord.Silent (r : PointRecord) : Prop where
  lo      : r.reportedLo = none
  hi      : r.reportedHi = none
  quality : r.reportedQuality = false
  band    : r.band = .normal
  alarm   : r.config.qualityAlarm = false

theorem State.reconcile_silent {s : State} {p : PointNo} (h : (s.point p).Silent) : s.reconcile p = s := by
  obtain ⟨reportedLo, reportedHi, reportedQuality, band, alarm⟩ := h
  have lo : s.ptb.dueLo p = none := by
    rw [PointTable.dueLo, show (s.ptb.points.get p).band = .normal from band, ite_self]
  have hi : s.ptb.dueHi p = none := by
    rw [PointTable.dueHi, show (s.ptb.points.get p).band = .normal from band, ite_self]
  have quality : s.ptb.dueQuality p = false := by
    rw [PointTable.dueQuality, show (s.ptb.points.get p).config.qualityAlarm = false from alarm, Bool.and_false]
  have reports : s.ptb.reports p = [] := by
    simp only [PointTable.reports, show (s.ptb.points.get p).reportedLo = none from reportedLo,
      show (s.ptb.points.get p).reportedHi = none from reportedHi,
      show (s.ptb.points.get p).reportedQuality = false from reportedQuality, lo, hi, quality]
    rfl
  have record : s.ptb.matched p = s.ptb.points.get p := by
    rw [PointTable.matched, lo, hi, quality]
    exact congr (congr (congrArg (fun a b c => { s.ptb.points.get p with
      reportedLo := a, reportedHi := b, reportedQuality := c }) reportedLo.symm) reportedHi.symm) reportedQuality.symm
  show (s.setPoint p (s.ptb.matched p)).reports (s.ptb.reports p) = s
  rw [reports, record, State.reports, List.foldl_nil, State.setPoint, Tbl.put_get]

theorem State.reconcileAll_silent {s : State} (h : ∀ p, (s.point p).Silent) : s.reconcileAll = s :=
  foldl_holds (P := fun t => t = s) (fun t p same => by subst same; exact State.reconcile_silent (h p)) _ rfl

/-- A comes report on a table without a record writes the first slot. -/
theorem State.comesAfresh_first {s : State} (free : ∀ i, (s.alt.slots.get i).content = .free) (id : Identity)
    (l : Option Level) (p : Priority) : (s.comesAfresh id l p).alt.record 0
      = some (newRecord id { level := l, priority := p, pending := false } false s.sht.stamp 0) := by
  have none : s.alt.slotOf id = none := AlarmTable.slotOf_eq_none_iff.mpr fun i r held => by
    rw [AlarmTable.record, free] at held; cases held
  have first : s.alt.slotForNew = some 0 := by
    have all : (fun i => (s.alt.slots.get i).content == .free) = fun _ => true := funext fun i => by rw [free]; rfl
    rw [AlarmTable.slotForNew, all]
    rfl
  unfold State.comesAfresh
  rw [show ∀ u : State, (u.cameNotice p).settle.alt.record 0 = u.alt.record 0 from fun _ => rfl,
    AlarmTable.record_of_offMap (State.intoForce_offMap id _)]
  simp only [State.comesOnRecords, none, first, State.setAlt_alt, AlarmTable.occupy_record]
  rfl

/-- A start from an image that is not valid: nothing is due of a point by the defaults, so the store's fault is the
first record, and it sounds. -/
theorem State.start_storeFault (x : ResetCause) {s : State} (default : s.sst.image.settings = .default)
    (broken : s.sst.image.valid = false) :
    (s.start x).alt.isPresent (.system .storeFault) = true ∧ (s.start x).alt.horn = true := by
  have points : (s.fresh x).reconcileAll = s.fresh x := State.reconcileAll_silent fun p => by
    rw [State.fresh_point, default]
    exact ⟨rfl, rfl, rfl, rfl, by simp [Settings.default, PointConfig.default]⟩
  have due : ¬ (s.fresh x).sst.reportedFault = !(s.fresh x).sst.imageValid := by
    rw [show (s.fresh x).sst.imageValid = false from broken]
    exact nofun
  have comes : ∃ u : State, u.alt = (s.fresh x).alt ∧ s.start x = u.comesFixed (.system .storeFault) := by
    refine ⟨{ s.fresh x with sst := { (s.fresh x).sst with reportedFault := !(s.fresh x).sst.imageValid } }, rfl, ?_⟩
    unfold State.start State.reconcileStore
    rw [points, if_neg due]
    dsimp only
    rw [if_neg (by rw [show (s.fresh x).sst.imageValid = false from broken]; exact nofun)]
  obtain ⟨u, alt, started⟩ := comes
  have driven := (State.OutputsDriven.start x s).settled.horn
  rw [started] at driven ⊢
  refine ⟨State.comes_present (id := .system .storeFault) nofun none _ _, driven.trans ?_⟩
  have absent : u.alt.condition (.system .storeFault) = none := by
    simp [alt, State.fresh, AlarmTable.start, AlarmTable.condition]
  have first : (u.comesFixed (.system .storeFault)).alt.record 0 = some (newRecord (.system .storeFault)
      { level := none, priority := .high, pending := false } false u.sht.stamp 0) := by
    have fresh : u.comesFixed (.system .storeFault) = u.comesAfresh (.system .storeFault) none .high := by
      simp only [State.comesFixed, State.comes, absent]
      rfl
    rw [fresh]
    exact State.comesAfresh_first (fun i => by simp [alt, State.fresh, AlarmTable.start]) ..
  exact List.any_eq_true.mpr ⟨0, List.mem_finRange 0, by rw [first]; rfl⟩

/-- A write that the store holds. -/
theorem State.saveCompletes_held {s : State} {st : Settings} (saving : s.sst.inFlight = some st) :
    (s.saveCompletes true).sst.image = .written st st.check ∧ (s.saveCompletes true).sst.inFlight = none
      ∧ (s.saveCompletes true).phase = s.phase := by
  simp only [State.saveCompletes, saving]
  rw [reconcileStore_image, reconcileStore_inFlight, (Touches.reconcileStore _).phase]
  exact ⟨rfl, rfl, rfl⟩

theorem Image.valid_written (st : Settings) : Image.valid (.written st st.check) = true := beq_self_eq_true _

/-- Settles O39: the image outlives the reset input, and a start takes its settings from it. -/
theorem settingsSurviveOrDefault : Obligations.SettingsSurviveOrDefault := by
  refine ⟨fun s t u v st run saving completed asserted released => ?_, fun s t u saving lost up => ?_⟩
  · obtain ⟨image, idle, phase⟩ := State.saveCompletes_held saving
    obtain rfl : (s.saveCompletes true).after = t := Host.Outcome.next.inj completed
    generalize s.saveCompletes true = w at *
    have on : w.after.phase ≠ .off := by
      show w.phase ≠ .off
      rw [phase, run]
      exact nofun
    obtain rfl := Host.Outcome.next.inj ((exec_resetAssert on).symm.trans asserted)
    obtain rfl := Host.Outcome.next.inj ((exec_pinReset (s := (w.after.halt .held).after) nofun).symm.trans released)
    generalize hx : (w.after.halt .held).after.halt .held = x
    have kept : x.sst.image = .written st st.check := by
      rw [← hx]
      show (if w.sst.inFlight.isSome then Image.spoiled else w.sst.image) = _
      rw [idle, image]
      rfl
    have store := x.start_store .pin
    have settings := x.start_settings .pin
    have starting := start_phase .pin x
    rw [kept] at store settings
    rw [Image.settings, if_pos (Image.valid_written st)] at settings
    rw [Image.valid_written] at store
    generalize x.start .pin = v at *
    have valid : x.sst.image.valid = true := by rw [kept, Image.valid_written]
    exact ⟨settings, starting, (congrArg (·.imageValid) store).trans valid, congrArg (·.cause) store,
      congrArg (·.reportedFault) store⟩
  · obtain rfl : (s.halt .off).after = t := Host.Outcome.next.inj lost
    obtain rfl : (((s.halt .off).after.halt .off).start .powerOn).after = u := Host.Outcome.next.inj up
    generalize hx : (s.halt .off).after.halt .off = x
    have spoiled : x.sst.image = .spoiled := by
      rw [← hx]
      show (if s.sst.inFlight.isSome then Image.spoiled else s.sst.image) = _
      rw [if_pos saving]
    have store := x.start_store .powerOn
    have settings := x.start_settings .powerOn
    obtain ⟨fault, horn⟩ := x.start_storeFault .powerOn (by rw [spoiled]; rfl) (by rw [spoiled]; rfl)
    have cores (c : Chan) := (Restarted.start .powerOn x).core c (by simp [State.fresh, State.chan, ChannelController.start,
      ChannelRecord.start, ChannelState.active])
    have broken : x.sst.image.valid = false := by rw [spoiled]; rfl
    simp only [State.fresh_unit] at cores
    rw [spoiled] at store settings cores
    generalize x.start .powerOn = u at *
    refine ⟨settings, (congrArg (·.imageValid) store).trans broken, congrArg (·.reportedFault) store, fault, horn,
      fun c => (congrArg (·.chan.pairState) (cores c)).trans ?_, congrArg (·.word) settings⟩
    simp [Image.settings, Settings.default, ChannelUnit.core, ChannelRecord.start, ChannelRecord.pairState, ChannelConfig.default]

end Sys2Proof.Machine
end

section
/-!
Proofs. The loss of the control link and its end (R59, R61), and the second of the shift timer (R158, R159):
`LinkLossHoldsAndEnds`, `ShiftSecondIsCounted`.
-/
set_option Elab.async false

namespace Sys2Proof.Machine

/-! ### The loss -/

/-- A channel's record as a loss leaves it. -/
def ChannelRecord.lossHeld (r : ChannelRecord) : ChannelRecord :=
  match r.state with
  | .starting | .running => { r with
      state := .holding, startTimer := none, holds := { r.holds with controlLost := true } }
  | .holding => { r with holds := { r.holds with controlLost := true } }
  | .off | .stopping | .tripped => r

theorem State.holdForLoss_chan (c d : Chan) (s : State) : (s.holdForLoss c).chan d
    = if d = c then (s.chan c).lossHeld else s.chan d := by
  have stands (r : ChannelRecord) (h : r = s.chan c) : s.chan d = if d = c then r else s.chan d := by
    split
    next e => rw [h, e]
    next => rfl
  unfold State.holdForLoss ChannelRecord.lossHeld
  cases on : (s.chan c).state with
  | starting | running =>
    simp only [State.freeze_chan, State.setChan_chan, on]
    split <;> simp_all
  | holding =>
    simp only [State.freeze_chan, State.setChan_chan, on]
    split <;> simp_all
  | off | stopping | tripped => exact stands _ rfl

theorem ChannelRecord.lossHeld_holds (r : ChannelRecord) : r.lossHeld.state ≠ .starting ∧ r.lossHeld.state ≠ .running
    ∧ (r.lossHeld.state = .holding → r.lossHeld.holds.controlLost = true) := by
  unfold lossHeld
  cases on : r.state <;> simp [on]

theorem State.lossHeld_chan (s : State) (c : Chan) : ∃ r : ChannelRecord, s.lossHeld.chan c = r.lossHeld :=
  ⟨_, (foldl_chans State.chan (fun s c => s.holdForLoss c) (fun _ => ChannelRecord.lossHeld)
    (fun s c d => s.holdForLoss_chan c d) allChans allChans_nodup _ c).trans (if_pos (mem_allChans c))⟩

theorem State.lossHeld_present (s : State) : s.lossHeld.alt.isPresent (.system .controlLost) = true := by
  have held (u : State) (c : Chan) : (u.holdForLoss c).alt = u.alt := by
    unfold State.holdForLoss
    split
    all_goals first | rfl | exact State.freeze_alt ..
  unfold State.lossHeld
  rw [foldl_keeps State.alt held]
  exact State.comes_present (id := .system .controlLost) nofun none _ _

/-- A link just lost: the condition is present and the channels are held, whether the hold timer starts or the fallback
does (R59). -/
theorem State.linkLost_holds (s : State) : s.linkLost.alt = s.lossHeld.alt
    ∧ ∀ c, (s.linkLost.chan c).state = (s.lossHeld.chan c).state
      ∧ (s.linkLost.chan c).holds.controlLost = (s.lossHeld.chan c).holds.controlLost := by
  rw [State.linkLost_eq]
  split
  · have touched := Touches.holdRunsOut s.lossHeld
    exact ⟨touched.alarms, fun c => ⟨(touched.runs (of_decide_eq_true rfl) c).1, touched.losses (of_decide_eq_true rfl) c⟩⟩
  · exact ⟨State.setSupervision_alt .., fun c => by rw [State.setSupervision_chan]; exact ⟨rfl, rfl⟩⟩

theorem exec_supervisionExpiry {s : State} (run : s.phase = .running) (live : s.chc.supervision.link = .live)
    (timed : s.chc.supervision.supervisionTimer.isSome = true) : exec .supervisionExpiry s = .next s.linkLost.after := by
  show finish _ = _
  rw [State.whileRunning_running run, State.supervisionExpires, if_pos ⟨live, timed⟩]
  rfl

/-! ### The end of a loss -/

theorem State.endLoss_present (s : State) : s.endLoss.alt.isPresent (.system .controlLost) = false := by
  unfold State.endLoss
  simp only
  rw [foldl_keeps State.alt fun u c => State.resume_alt c u]
  exact State.goes_present (id := .system .controlLost) nofun _

/-- After the channels have resumed, one that still holds has a cause. -/
theorem State.endLoss_holding (s : State) (c : Chan) (holding : (s.endLoss.chan c).state = .holding) :
    (s.endLoss.chan c).holds.isEmpty = false := by
  have resumed : ∃ u : ChannelUnit, s.endLoss.unit c = u.resumed := by
    unfold State.endLoss
    dsimp only
    generalize State.goes _ _ = u
    refine ⟨u.unit c, ?_⟩
    rw [foldl_chans State.unit _ (fun _ => ChannelUnit.resumed) (fun s c d => State.resume_unit c d) _ allChans_nodup,
      if_pos (mem_allChans c)]
  obtain ⟨u, unit⟩ := resumed
  generalize s.endLoss = t at *
  have chan : t.chan c = u.resumed.chan := congrArg ChannelUnit.chan unit
  rw [chan] at holding ⊢
  unfold ChannelUnit.resumed at holding ⊢
  split at holding
  · cases holding
  next h =>
    rw [if_neg h]
    simpa [holding] using h

/-- Settles O45: the loss channel by channel, its end channel by channel. -/
theorem linkLossHoldsAndEnds : Obligations.LinkLossHoldsAndEnds := by
  refine ⟨fun s t run live timed lost => ?_, fun s lost => ?_⟩
  · obtain rfl := Host.Outcome.next.inj ((exec_supervisionExpiry run live timed).symm.trans lost)
    have supervision := linkLost_supervision s
    have acu := linkLost_acu s
    obtain ⟨alt, chans⟩ := s.linkLost_holds
    rw [State.after_alt, State.after_acu, State.after_chc, alt, acu, supervision]
    refine ⟨s.lossHeld_present, rfl, ?_, fun hold => ?_, fun hold => ?_, fun c => ?_⟩
    · split <;> rfl
    · rw [if_neg hold]
      exact ⟨rfl, rfl⟩
    · rw [if_pos hold]
    · obtain ⟨r, held⟩ := s.lossHeld_chan c
      rw [State.after_chan, (chans c).1, (chans c).2, held]
      exact r.lossHeld_holds
  · have ends : s.refresh = s.endLoss := by
      unfold State.refresh
      split
      next live => exact absurd live lost
      all_goals rfl
    have supervision := endLoss_supervision s
    rw [ends]
    exact ⟨by rw [supervision], by rw [supervision], by rw [supervision]; rfl, s.endLoss_present,
      (Touches.endLoss s).access, fun c => ⟨endLoss_losses s c, s.endLoss_holding c⟩⟩

/-! ### The shift second -/

theorem Clock.next_eq {k : Clock} (secs : k.secs < 86400) (day : k.day < 65536) :
    k.next = ⟨(k.day + (k.secs + 1) / 86400) % 65536, (k.secs + 1) % 86400⟩ := by
  show (if k.secs + 1 < 86400 then { k with secs := k.secs + 1 } else { day := (k.day + 1) % 65536, secs := 0 } : Clock) = _
  by_cases within : k.secs + 1 < 86400
  · rw [if_pos within, Nat.div_eq_of_lt within, Nat.mod_eq_of_lt within, Nat.add_zero k.day,
      Nat.mod_eq_of_lt day]
  · rw [if_neg within, show k.secs + 1 = 86400 by omega]

theorem State.sampled_clock (s : State) : s.sampled.clock = s.sht.clock := by
  unfold State.sampled ShiftUnit.clinkerTaken
  split <;> rfl

theorem exec_shiftTimerExpiry {s : State} (run : s.phase = .running) :
    exec .shiftTimerExpiry s = .next s.shiftSecond.after := by
  show finish _ = _
  rw [State.whileRunning_running run]
  rfl

theorem State.shiftSecond_unset {s : State} (unset : s.sht.clock = none) : s.shiftSecond = s.setShift s.sampled := by
  have clock : (s.setShift s.sampled).sht.clock = none := (State.sampled_clock s).trans unset
  simp only [State.shiftSecond, clock]

theorem State.shiftSecond_set {s : State} {k : Clock} (set : s.sht.clock = some k) : s.shiftSecond
    = if s.sht.plan.isBoundary k.next.secs then (s.setShift { s.sampled with clock := some k.next }).boundary
      else s.setShift { s.sampled with clock := some k.next } := by
  have clock : (s.setShift s.sampled).sht.clock = some k := (State.sampled_clock s).trans set
  simp only [State.shiftSecond, clock]
  rfl

theorem ModeSeconds.step_sum (n : ModeSeconds) (m : CoolerMode) :
    (n.step m).idle + (n.step m).normal + (n.step m).flush + (n.step m).held + (n.step m).manual
      = n.idle + n.normal + n.flush + n.held + n.manual + 1 := by
  cases m <;> simp only [ModeSeconds.step] <;> omega

theorem State.sampled_modes (s : State) : s.sampled.current.modes = s.sht.current.modes.step s.clc.mode := by
  unfold State.sampled ShiftUnit.clinkerTaken
  split <;> rfl

theorem State.sampled_good {s : State} (good : (s.point 6).quality = .good) :
    s.sampled.current.missing = s.sht.current.missing
      ∧ s.sampled.clinkerResidue = (s.sht.clinkerResidue + (s.point 6).value.toNat * 100) % 3600
      ∧ s.sampled.current.clinker
        = s.sht.current.clinker + (s.sht.clinkerResidue + (s.point 6).value.toNat * 100) / 3600 := by
  simp [State.sampled, ShiftUnit.clinkerTaken, good, Tally.runningStepped]

theorem State.sampled_missing {s : State} (unknown : (s.point 6).quality ≠ .good) :
    s.sampled.current.missing = s.sht.current.missing + 1 ∧ s.sampled.current.clinker = s.sht.current.clinker := by
  unfold State.sampled ShiftUnit.clinkerTaken
  split
  next good => exact absurd good unknown
  all_goals exact ⟨rfl, rfl⟩

/-- Settles O33: the second is the sample, then the clock, then the boundary. -/
theorem shiftSecondIsCounted : Obligations.ShiftSecondIsCounted := by
  intro s run
  have second := exec_shiftTimerExpiry run
  refine ⟨fun k set apart secs day => ?_, fun k u set boundary secs day taken => ?_, fun unset => ?_, ?_, fun good => ?_,
    State.sampled_missing⟩
  · rw [State.shiftSecond_set set, Clock.next_eq secs day, if_neg (by rw [apart]; exact nofun)] at second
    exact ⟨_, second, rfl, rfl⟩
  · rw [State.shiftSecond_set set, Clock.next_eq secs day, if_pos boundary, ← taken] at second
    have held : u.held = s.sht.held := by rw [taken]; exact State.OutputsDriven.sampled_held s
    refine ⟨fun free => second.trans ?_, fun full => second.trans ?_⟩
    · rw [State.boundary, if_pos (show (s.setShift u).sht.held.isNone = true by rw [State.setShift, held, free]; rfl)]
      rfl
    · rw [State.boundary, if_neg (show ¬ (s.setShift u).sht.held.isNone = true by
        simpa [State.setShift, held, Option.isSome_iff_ne_none] using full)]
      rfl
  · rw [State.shiftSecond_unset unset] at second
    exact second
  · rw [State.sampled_modes]
    exact ModeSeconds.step_sum ..
  · obtain ⟨missing, residue, clinker⟩ := State.sampled_good good
    refine ⟨missing, ?_⟩
    rw [residue, clinker]
    omega

end Sys2Proof.Machine
end

section
/-!
Proofs. The trip input and the timers of a running part (R5, R48, R54, R59, R60, R136, R158, R171): `TimersAct`.
-/
set_option Elab.async false

namespace Sys2Proof.Machine

/-! ### Start timers, trip line, hold timer -/

section events
variable {s : State}

/-- An event of the blocks, in a running part. -/
theorem finish_whileRunning (run : s.phase = .running) (f : State → State) :
    finish (s.whileRunning f) = .next (f s).after := by rw [State.whileRunning_running run, finish_eq]

theorem exec_startTimerExpiry (run : s.phase = .running) (c : Chan) :
    exec (.startTimerExpiry c) s = .next (s.startExpires c).after := finish_whileRunning run _

theorem exec_holdTimerExpiry (run : s.phase = .running) (lost : s.chc.supervision.link = .lostHold)
    (timed : s.chc.supervision.holdTimer.isSome = true) : exec .holdTimerExpiry s = .next s.holdRunsOut.after := by
  refine (finish_whileRunning run _).trans ?_
  rw [State.holdExpires, if_pos ⟨lost, timed⟩]

end events

/-! ### The fallback (R60) -/

/-- What a channel held for the loss falls to at the fallback. -/
def ChannelUnit.fallenBack (u : ChannelUnit) : ChannelUnit :=
  if u.chan.state = .holding ∧ u.chan.holds.controlLost = true ∧ u.chan.fuelClass = .alt ∧ u.chan.minFlow < u.setpoint then
    { u with setpoint := u.chan.minFlow, feeder := { u.feeder with pendingRate := rateOf u.feeder u.chan.minFlow } }
  else u

theorem State.fallBack_unit (c d : Chan) (s : State) :
    (s.fallBack c).unit d = if d = c then (s.unit c).fallenBack else s.unit d := by
  unfold State.fallBack
  simp only
  split
  next falls =>
    have unit : (s.drive c (s.chan c).minFlow).unit d = if d = c then { s.unit c with
        setpoint := (s.chan c).minFlow
        feeder := { s.feeder c with pendingRate := rateOf (s.feeder c) (s.chan c).minFlow } } else s.unit d := by
      simp only [State.unit, State.drive_setpoint, State.drive_feeder]
      split
      next e => subst e; rfl
      next => rfl
    rw [unit, ChannelUnit.fallenBack, if_pos (show (s.unit c).chan.state = .holding ∧ (s.unit c).chan.holds.controlLost = true
      ∧ (s.unit c).chan.fuelClass = .alt ∧ (s.unit c).chan.minFlow < (s.unit c).setpoint from falls)]
    rfl
  next stands =>
    rw [ChannelUnit.fallenBack, if_neg (show ¬ ((s.unit c).chan.state = .holding ∧ (s.unit c).chan.holds.controlLost = true
      ∧ (s.unit c).chan.fuelClass = .alt ∧ (s.unit c).chan.minFlow < (s.unit c).setpoint) from stands)]
    split
    next e => rw [e]
    next => rfl

theorem State.holdRunsOut_unit (s : State) (c : Chan) : s.holdRunsOut.unit c = (s.unit c).fallenBack := by
  unfold State.holdRunsOut
  rw [foldl_chans State.unit _ (fun _ => ChannelUnit.fallenBack) (fun s c d => State.fallBack_unit c d s) _ allChans_nodup,
    if_pos (mem_allChans c)]
  rfl

/-- Two states differ in setpoints and feeders alone. -/
def SetpointsMoved (s t : State) : Prop :=
  t = { s with fsc := { s.fsc with setpoint := t.fsc.setpoint }, fdi := t.fdi }

theorem SetpointsMoved.trans {s t u : State} (a : SetpointsMoved s t) (b : SetpointsMoved t u) : SetpointsMoved s u := by
  unfold SetpointsMoved at *
  rw [b, a]

theorem SetpointsMoved.fallBack (l : List Chan) (s : State) : SetpointsMoved s (l.foldl (fun s c => s.fallBack c) s) := by
  induction l generalizing s with
  | nil => rfl
  | cons c l ih =>
    have one : SetpointsMoved s (s.fallBack c) := by
      unfold State.fallBack
      simp only
      split
      · rfl
      · rfl
    exact one.trans (ih _)

/-! ### Ageing (R5) -/

theorem State.staleCheck_others {p q : PointNo} (ne : q ≠ p) (s : State) :
    (s.staleCheck p).point q = s.point q ∧ (s.staleCheck p).ptb.offMarks = s.ptb.offMarks := by
  unfold State.staleCheck
  split
  · rw [State.reconcile_point, if_neg ne, State.reconcile_offMarks]
    exact ⟨Tbl.get_put_ne ne .., rfl⟩
  · exact ⟨rfl, rfl⟩

theorem State.foldl_staleCheck_others {q : PointNo} (l : List PointNo) (out : q ∉ l) (s : State) :
    (l.foldl (fun s p => s.staleCheck p) s).point q = s.point q
      ∧ (l.foldl (fun s p => s.staleCheck p) s).ptb.offMarks = s.ptb.offMarks := by
  induction l generalizing s with
  | nil => exact ⟨rfl, rfl⟩
  | cons p l ih =>
    obtain ⟨point, marks⟩ := State.staleCheck_others (List.ne_of_not_mem_cons out) s
    obtain ⟨points, allMarks⟩ := ih (List.not_mem_of_not_mem_cons out) (s.staleCheck p)
    exact ⟨points.trans point, allMarks.trans marks⟩

/-- The check of a point alone: it turns stale, and its quality condition is reported where it is due. -/
theorem State.staleCheck_self (p : PointNo) (s : State) : (s.staleCheck p).point p = { s.point p with
    quality := if (s.point p).turnsStale then .stale else (s.point p).quality
    reportedLo := ((s.staleCheck p).point p).reportedLo, reportedHi := ((s.staleCheck p).point p).reportedHi
    reportedQuality := ((s.staleCheck p).point p).reportedQuality }
    ∧ ((s.point p).turnsStale = false → (s.staleCheck p).point p = s.point p)
    ∧ ((s.point p).turnsStale = true → ((s.staleCheck p).point p).reportedQuality
        = ((s.point p).config.qualityAlarm && !s.ptb.suppressed p)) := by
  unfold State.staleCheck
  cases turns : (s.point p).turnsStale with
  | false => exact ⟨rfl, fun _ => rfl, nofun⟩
  | true =>
    rw [if_pos rfl, if_pos rfl, State.reconcile_point, if_pos rfl]
    have record : (s.setPoint p { s.point p with quality := .stale }).ptb.points.get p
        = { s.point p with quality := .stale } := Tbl.get_put_self ..
    refine ⟨?_, nofun, fun _ => ?_⟩
    · rw [PointTable.matched, record]
    · show PointTable.dueQuality _ p = _
      rw [PointTable.dueQuality, PointTable.suppressed, record]
      show (!PointTable.suppressed s.ptb p && true && (s.point p).config.qualityAlarm) = _
      rw [Bool.and_true, Bool.and_comm]

/-- A point at an ageing expiry is the check of it alone, on its stepped age. -/
theorem State.age_point (s : State) (p : PointNo) : ∃ t : State, s.age.point p = (t.staleCheck p).point p
    ∧ t.point p = (s.point p).aged ∧ t.ptb.suppressed p = s.ptb.suppressed p := by
  obtain ⟨before, after, points⟩ := List.append_of_mem (List.mem_finRange p)
  have once : (before ++ p :: after).Nodup := points ▸ List.nodup_finRange 48
  have first : p ∉ before := fun mem => (List.nodup_append.mp once).2.2 p mem p List.mem_cons_self rfl
  have last : p ∉ after := (List.nodup_cons.mp (List.nodup_append.mp once).2.1).1
  unfold State.age
  rw [points, List.foldl_append, List.foldl_cons]
  have older : ∃ u : State, u = { s with ptb := s.ptb.aged } ∧ u.point p = (s.point p).aged
      ∧ u.ptb.offMarks = s.ptb.offMarks := ⟨_, rfl, Tbl.get_map .., rfl⟩
  obtain ⟨u, same, aged, marks⟩ := older
  rw [← same]
  obtain ⟨point, kept⟩ := State.foldl_staleCheck_others before first u
  refine ⟨_, (State.foldl_staleCheck_others after last _).1, point.trans aged, ?_⟩
  have config : ((before.foldl (fun s p => s.staleCheck p) u).ptb.points.get p).config.associated
      = (s.ptb.points.get p).config.associated := congrArg (·.config.associated) (point.trans aged)
  rw [PointTable.suppressed, kept, marks, config]
  rfl

theorem PointRecord.aged_turnsStale (r : PointRecord) : r.aged.turnsStale = true ↔ r.config.staleLimit ≠ 0
    ∧ r.config.staleLimit ≤ min 255 (r.age + 1) ∧ (r.quality = .good ∨ r.quality = .uncertain) := by
  have usable : r.quality.usable = true ↔ r.quality = .good ∨ r.quality = .uncertain := by
    cases r.quality <;> simp [Quality.usable]
  simp only [turnsStale, Bool.and_eq_true, bne_iff_ne, decide_eq_true_eq, and_assoc]
  exact and_congr_right fun _ => and_congr_right fun _ => usable

/-- A point after an ageing expiry (R5). -/
theorem State.age_shows (s : State) (p : PointNo) :
    let r := s.point p
    let t := s.age
    t.point p = { r with
      age := min 255 (r.age + 1)
      quality := if r.config.staleLimit ≠ 0 ∧ r.config.staleLimit ≤ min 255 (r.age + 1)
        ∧ (r.quality = .good ∨ r.quality = .uncertain) then .stale else r.quality
      reportedLo := (t.point p).reportedLo, reportedHi := (t.point p).reportedHi
      reportedQuality := (t.point p).reportedQuality }
    ∧ (r.quality = (t.point p).quality → t.point p = { r with age := min 255 (r.age + 1) })
    ∧ (r.quality ≠ (t.point p).quality → (t.point p).reportedQuality
        = (r.config.qualityAlarm && !s.ptb.suppressed p)) := by
  obtain ⟨u, same, aged, suppressed⟩ := s.age_point p
  have stale := State.staleCheck_self p u
  rw [← same, aged, suppressed] at stale
  dsimp only
  clear same
  generalize s.age = t at stale ⊢
  generalize t.point p = x at stale ⊢
  obtain ⟨record, stands, reported⟩ := stale
  have turns := (s.point p).aged_turnsStale
  have quality : x.quality = if (s.point p).aged.turnsStale = true then .stale else (s.point p).quality :=
    congrArg (·.quality) record
  refine ⟨record.trans ?_, fun same => ?_, fun changed => ?_⟩
  · simp only [turns]
    rfl
  · refine stands ((Bool.eq_false_iff).mpr fun on => ?_)
    rw [on, if_pos rfl] at quality
    obtain ⟨-, -, usable⟩ := turns.mp on
    rw [same, quality] at usable
    exact usable.elim nofun nofun
  · refine reported ?_
    by_contra off
    rw [if_neg off] at quality
    exact changed quality.symm

/-- Settles O46: each timer by its event, the folds over points and channels place by place. -/
theorem timersAct : Obligations.TimersAct := by
  refine ⟨fun s run => ⟨?_, ?_, fun c on timed high => ?_, fun c on timed low => ?_, fun c other => ?_,
    exec_supervisionExpiry run, exec_holdTimerExpiry run⟩, fun s run => ⟨?_, ?_, fun i r n held shelved last => ?_,
    fun t ran p => ?_, fun lost timed => ?_, fun t ran i => ?_, ?_, exec_shiftTimerExpiry run⟩⟩
  · exact finish_whileRunning (s := { s with tripLine := true }) run _
  · exact finish_whileRunning (s := { s with tripLine := false }) run _
  · rw [exec_startTimerExpiry run, State.startExpires, if_pos ⟨on, timed⟩, State.enterRunning, if_neg (Nat.not_lt.mpr high)]
  · rw [exec_startTimerExpiry run, State.startExpires, if_pos ⟨on, timed⟩, State.enterRunning, if_pos low]
  · rw [exec_startTimerExpiry run, State.startExpires, if_neg fun h => other h.1]
  · exact finish_whileRunning run State.age
  · exact finish_whileRunning run State.shelvingTick
  · refine (finish_whileRunning run (State.shelfEnds i)).trans ?_
    simp only [State.shelfEnds, held, shelved, Option.any_some, decide_eq_true last]
    rfl
  · obtain rfl := Host.Outcome.next.inj ((finish_whileRunning run State.age).symm.trans ran)
    have shows := s.age_shows p
    generalize s.age = t at shows ⊢
    exact shows
  · have moved : SetpointsMoved (s.setSupervision { s.chc.supervision with link := .lostFallback, holdTimer := none })
        s.holdRunsOut := .fallBack _ _
    have unit := s.holdRunsOut_unit
    have supervision := holdRunsOut_supervision s
    refine ⟨_, exec_holdTimerExpiry run lost timed, ?_, fun c => ?_⟩
    · generalize s.holdRunsOut = t at moved
      unfold SetpointsMoved at moved
      rw [moved]
      rfl
    · have chan : s.holdRunsOut.chan c = s.chan c := by
        have kept := congrArg (·.chan) (unit c)
        rw [ChannelUnit.fallenBack] at kept
        split at kept
        · exact kept
        · exact kept
      generalize s.holdRunsOut = t at *
      have units := unit c
      rw [ChannelUnit.fallenBack] at units
      dsimp only
      split
      next falls =>
        rw [if_pos (show (s.unit c).chan.state = .holding ∧ (s.unit c).chan.holds.controlLost = true
          ∧ (s.unit c).chan.fuelClass = .alt ∧ (s.unit c).chan.minFlow < (s.unit c).setpoint from falls)] at units
        exact ⟨congrArg (·.setpoint) units, congrArg (·.feeder) units⟩
      next stands =>
        rw [if_neg (show ¬ ((s.unit c).chan.state = .holding ∧ (s.unit c).chan.holds.controlLost = true
          ∧ (s.unit c).chan.fuelClass = .alt ∧ (s.unit c).chan.minFlow < (s.unit c).setpoint) from stands)] at units
        refine ⟨congrArg (·.setpoint) units, congrArg (·.feeder) units, ?_⟩
        show ((t.chan c).holds.controlLost && t.chc.supervision.link == .lostFallback) = _
        rw [chan, supervision]
        exact Bool.and_true _
  · obtain rfl := Host.Outcome.next.inj ((finish_whileRunning run State.shelvingTick).symm.trans ran)
    have slot : (s.shelvingTick.after.alt.slots.get i) = (s.alt.slots.get i).shelfTick s.sht.stamp := Tbl.get_map ..
    rw [slot, AlarmSlot.shelfTick]
    cases content : (s.alt.slots.get i).content with
    | free => exact ⟨rfl, content⟩
    | stub => exact ⟨rfl, content⟩
    | live r =>
      refine ⟨rfl, congrArg SlotContent.live ?_⟩
      rw [AlarmRecord.shelfTick]
      cases r.shelvedUntil with
      | none => rfl
      | some n =>
        by_cases more : 1 < n
        · simp only [if_pos more, if_neg (Nat.not_le.mpr more)]
        · simp only [if_neg more, if_pos (Nat.not_lt.mp more)]
          rfl
  · exact finish_whileRunning run State.closeAccess

end Sys2Proof.Machine
end

section
/-!
Proofs. The channel requests (R43 to R51, R55, R57, R58): `StartAndStopAct`, `HoldAndTripRequestsAct`,
`ChannelSettingsWrite`.
-/
set_option Elab.async false

namespace Sys2Proof.Machine

section channel
variable {p : Port} {f : List Byte} {s : State} {c : Chan}

/-! ### Start and stop -/

theorem State.startRefusal_taking (p : Port) (c : Chan) (s : State) : (s.taking p).startRefusal c = s.startRefusal c := by
  simp only [State.startRefusal, State.taking_tripLine, State.taking_chc, State.taking_chan, State.taking_lrg]

theorem State.startRefusal_none (line : s.tripLine = false) (live : s.chc.supervision.link = .live)
    (off : (s.chan c).state = .off) (free : (s.chan c).holds.isEmpty = true) (halves : (s.chan c).config.halves.isSome = true)
    (head : (s.lrg.head c).isSome = true) : s.startRefusal c = none := by
  simp [State.startRefusal, line, live, off, free, Option.isNone_eq_false_iff.mpr halves, Option.isNone_eq_false_iff.mpr head]

theorem ownerStartChannel_of (named : chan? (field f 0 1) = some c) (may : s.startRefusal c = none) :
    ownerStartChannel p f s = ⟨.ok, [], s.startChannel c⟩ := by
  rw [ownerStartChannel, withChan_named named]
  simp only [may]
  rfl

theorem ownerStartChannel_refused {n : Nat} (named : chan? (field f 0 1) = some c) (may : s.startRefusal c = some n) :
    ownerStartChannel p f s = ⟨.wrongState, u8 n, s⟩ := by
  rw [ownerStartChannel, withChan_named named]
  simp only [may]
  rfl

theorem State.enterOff_state (c : Chan) (s : State) : ((s.enterOff c).chan c).state = .off := by
  unfold State.enterOff
  exact ((Touches.offNotice c true _).offs (of_decide_eq_true rfl) c).mpr (by rw [State.setChan_chan_self])

theorem ownerStopChannel_of (named : chan? (field f 0 1) = some c)
    (on : (s.chan c).state = .starting ∨ (s.chan c).state = .running ∨ (s.chan c).state = .holding) :
    ownerStopChannel p f s = ⟨.ok, u8 ((s.stopChannel c).chan c).state.code, s.stopChannel c⟩ := by
  rw [ownerStopChannel, withChan_named named]
  obtain on | on | on := on
  all_goals
    simp only [on]
    rfl

theorem State.stopChannel_alt (alt : (s.chan c).fuelClass = .alt) : s.stopChannel c = (s.drive c 0).enterOff c := by
  simp only [State.stopChannel, alt]

theorem State.stopChannel_idle (conv : (s.chan c).fuelClass = .conv) (idle : s.setpoint c = 0) :
    s.stopChannel c = s.enterOff c := by
  simp only [State.stopChannel, conv, if_pos idle]

theorem State.stopChannel_fed (conv : (s.chan c).fuelClass = .conv) (fed : s.setpoint c ≠ 0) :
    s.stopChannel c = s.setChan c { s.chan c with state := .stopping, startTimer := none } := by
  simp only [State.stopChannel, conv, if_neg fed]

end channel

/-- Settles O13: the refusal, or what the state and fuel class ask for. -/
theorem startAndStopAct : Obligations.StartAndStopAct := by
  refine ⟨fun p q f s c ready named => ⟨fun line live off free halves head => ?_, fun n refused => ?_⟩,
    fun p q f s c ready named on => ?_⟩
  · have may : (s.taking p).startRefusal c = none := by
      rw [State.startRefusal_taking, State.startRefusal_none line live off free halves head]
    refine exec_of_owner ready q ((ownerStartChannel_of (p := p) named may).trans ?_)
    simp only [State.startChannel, State.timer, State.taking_chan, State.taking_moment]
    rfl
  · exact exec_of_owner ready q (ownerStartChannel_refused (p := p) named ((s.startRefusal_taking p c).trans refused))
  · have stops := ownerStopChannel_of (p := p) (s := s.taking p) named (by simpa using on)
    refine ⟨fun alt => ?_, fun conv idle => ?_, fun conv fed => ?_⟩
    · rw [State.stopChannel_alt (by simpa using alt), State.enterOff_state] at stops
      exact exec_of_owner ready q stops
    · rw [State.stopChannel_idle (by simpa using conv) (by simpa using idle), State.enterOff_state] at stops
      exact exec_of_owner ready q stops
    · rw [State.stopChannel_fed (by simpa using conv) (by simpa using fed), State.setChan_chan_self, State.taking_chan] at stops
      exact exec_of_owner ready q stops

/-! ### Holds and trips -/

section hold
variable {p : Port} {f : List Byte} {s : State} {c : Chan}

theorem ownerHoldChannel_of (named : chan? (field f 0 1) = some c) (free : (s.chan c).holds.operator = false) :
    ownerHoldChannel p f s = ⟨.ok, u8 (((s.setOperatorHold c true).freeze c).chan c).state.code,
      (s.setOperatorHold c true).freeze c⟩ := by
  rw [ownerHoldChannel, withChan_named named, if_neg (by simp [free])]
  rfl

theorem State.setOperatorHold_chan (c : Chan) (b : Bool) (s : State) : (s.setOperatorHold c b).chan c
    = { s.chan c with holds := { (s.chan c).holds with operator := b } } := State.setChan_chan_self ..

/-- An operator hold freezes a starting or running channel (R51). -/
theorem State.operatorHold_freezes (on : (s.chan c).state = .starting ∨ (s.chan c).state = .running) :
    (s.setOperatorHold c true).freeze c = s.setChan c { s.chan c with
      state := .holding, startTimer := none, holds := { (s.chan c).holds with operator := true } } := by
  unfold State.freeze
  rw [State.setOperatorHold_chan]
  obtain on | on := on
  all_goals
    simp only [on]
    exact State.setChan_setChan ..

theorem State.operatorHold_stands (starting : (s.chan c).state ≠ .starting) (running : (s.chan c).state ≠ .running) :
    (s.setOperatorHold c true).freeze c = s.setOperatorHold c true := by
  unfold State.freeze
  rw [State.setOperatorHold_chan]
  cases on : (s.chan c).state with
  | starting => exact absurd on starting
  | running => exact absurd on running
  | off | holding | stopping | tripped => rfl

theorem ownerReleaseHold_of (named : chan? (field f 0 1) = some c) (held : (s.chan c).holds.operator = true) :
    ownerReleaseHold p f s = ⟨.ok, [], (s.setOperatorHold c false).resume c⟩ := by
  rw [ownerReleaseHold, withChan_named named, if_neg (by simp [held])]
  rfl

theorem State.release_stays (other : (s.chan c).state ≠ .holding ∨ (s.chan c).holds.controlLost = true
    ∨ (s.chan c).holds.alarm = true) : (s.setOperatorHold c false).resume c = s.setOperatorHold c false := by
  rw [State.resume, if_neg]
  rw [State.setOperatorHold_chan]
  rintro ⟨holding, empty⟩
  simp only [HoldCauses.isEmpty, Bool.and_eq_true, Bool.not_eq_true'] at empty
  obtain ⟨⟨lost, -⟩, alarm⟩ := empty
  obtain other | other | other := other
  · exact other holding
  · rw [lost] at other; cases other
  · rw [alarm] at other; cases other

/-- The last hold cause of a holding channel removed: it runs (R48, R51). -/
theorem State.release_runs (holding : (s.chan c).state = .holding) (lost : (s.chan c).holds.controlLost = false)
    (alarm : (s.chan c).holds.alarm = false) : (s.setOperatorHold c false).resume c
      = (s.setOperatorHold c false).enterRunning c := by
  rw [State.resume, if_pos]
  rw [State.setOperatorHold_chan]
  exact ⟨holding, by simp [HoldCauses.isEmpty, lost, alarm]⟩

theorem State.released_running (c : Chan) (s : State) : (s.setOperatorHold c false).setChan c
    { (s.setOperatorHold c false).chan c with state := .running, startTimer := none }
    = s.setChan c { s.chan c with
        state := .running, startTimer := none, holds := { (s.chan c).holds with operator := false } } := by
  rw [State.setOperatorHold_chan]
  exact State.setChan_setChan ..

theorem State.clearRefusal_taking (p : Port) (c : Chan) (s : State) : (s.taking p).clearRefusal c = s.clearRefusal c := by
  simp only [State.clearRefusal, State.taking_tripLine, State.taking_alt, State.taking_chan]

theorem ownerClearTrip_of (named : chan? (field f 0 1) = some c) (may : s.clearRefusal c = none) :
    ownerClearTrip p f s = ⟨.ok, [], s.enterOff c⟩ := by
  rw [ownerClearTrip, withChan_named named]
  simp only [may]
  rfl

theorem ownerClearTrip_refused {n : Nat} (named : chan? (field f 0 1) = some c) (may : s.clearRefusal c = some n) :
    ownerClearTrip p f s = ⟨.wrongState, u8 n, s⟩ := by
  rw [ownerClearTrip, withChan_named named]
  simp only [may]
  rfl

end hold

/-- Settles O14: each request by the hold set or the refusal it finds. -/
theorem holdAndTripRequestsAct : Obligations.HoldAndTripRequestsAct := by
  refine ⟨fun p q f s c named => ⟨fun ready free on => ?_, fun ready free starting running => ?_,
    fun ready held holding lost alarm high => ?_, fun ready held holding lost alarm low => ?_,
    fun ready held other => ?_⟩, fun p q f s => ⟨fun ready => ?_, fun c ready named may => ?_,
    fun c n ready named refused => ?_⟩⟩
  · have holds := ownerHoldChannel_of (p := p) (s := s.taking p) named (by simpa using free)
    rw [State.operatorHold_freezes (by simpa using on), State.setChan_chan_self, State.taking_chan] at holds
    exact exec_of_owner ready q holds
  · have holds := ownerHoldChannel_of (p := p) (s := s.taking p) named (by simpa using free)
    rw [State.operatorHold_stands (by simpa using starting) (by simpa using running), State.setOperatorHold_chan,
      State.setOperatorHold, State.taking_chan] at holds
    exact exec_of_owner ready q holds
  · have releases := ownerReleaseHold_of (p := p) (s := s.taking p) named (by simpa using held)
    rw [State.release_runs (by simpa using holding) (by simpa using lost) (by simpa using alarm), State.enterRunning,
      if_neg, State.released_running, State.taking_chan] at releases
    · exact exec_of_owner ready q releases
    · rw [State.setOperatorHold_chan, State.setOperatorHold, State.setChan_setpoint, State.taking_setpoint, State.taking_chan]
      exact Nat.not_lt.mpr high
  · have releases := ownerReleaseHold_of (p := p) (s := s.taking p) named (by simpa using held)
    rw [State.release_runs (by simpa using holding) (by simpa using lost) (by simpa using alarm), State.enterRunning,
      if_pos, State.released_running, State.setOperatorHold_chan, State.taking_chan] at releases
    · exact exec_of_owner ready q releases
    · rw [State.setOperatorHold_chan, State.setOperatorHold, State.setChan_setpoint, State.taking_setpoint, State.taking_chan]
      exact low
  · have releases := ownerReleaseHold_of (p := p) (s := s.taking p) named (by simpa using held)
    rw [State.release_stays (by simpa using other), State.setOperatorHold, State.taking_chan] at releases
    exact exec_of_owner ready q releases
  · exact exec_of_owner ready q rfl
  · exact exec_of_owner ready q (ownerClearTrip_of (p := p) named ((s.clearRefusal_taking p c).trans may))
  · exact exec_of_owner ready q (ownerClearTrip_refused (p := p) named ((s.clearRefusal_taking p c).trans refused))

/-! ### Settings of a channel -/

section settings
variable {p : Port} {f : List Byte} {s : State} {c : Chan}

theorem ownerSetChannelFuel_of {l : Location} {kinds : BitVec 7} (named : chan? (field f 0 1) = some c)
    (access : s.acu.isOpen = true) (location : location? (field f 1 1) = some l) (set : kindSet? (field f 2 1) = some kinds)
    (one : oneClass kinds = true) (may : s.mayTakeFuel c l kinds = true) : ownerSetChannelFuel p f s
      = ⟨.ok, u8 (classOf kinds).code,
        (s.setChanConfig c { (s.chan c).config with location := l, kinds := kinds }).startOpenTimer⟩ := by
  rw [ownerSetChannelFuel, withChan_named named, if_neg (by simp [access])]
  simp only [location, set, one, may]
  rfl

theorem ownerSetLotClLimit_of (named : chan? (field f 0 1) = some c) (access : s.acu.isOpen = true)
    (range : field f 1 2 ≤ Config.clLimitMax) : ownerSetLotClLimit p f s
      = ⟨.ok, [], (s.setChanConfig c { (s.chan c).config with clLimit := field f 1 2 }).startOpenTimer⟩ := by
  rw [ownerSetLotClLimit, withChan_named named, if_neg (by simp [access]), if_neg (Nat.not_lt.mpr range)]
  rfl

theorem ownerSetShare_of (named : chan? (field f 0 1) = some c) : ownerSetShare p f s
    = ⟨if 1000 < field f 1 2 then .okClamped else .ok, [],
      s.setChanConfig c { (s.chan c).config with share := min 1000 (field f 1 2) }⟩ := by
  rw [ownerSetShare, withChan_named named]
  simp only [takenClamped, Config.shareMax]
  congr 1
  exact if_congr decide_eq_true_iff rfl rfl

theorem ownerSetLinkTimes_of (least : 1 ≤ field f 0 2) (most : field f 0 2 ≤ 10) (hold : field f 2 2 ≤ 600) :
    ownerSetLinkTimes p f s = ⟨.ok, [], s.setSupervision { s.chc.supervision with
      supervisionTime := field f 0 2, holdTime := field f 2 2 }⟩ := by
  rw [ownerSetLinkTimes, if_neg]
  · rfl
  · simp only [Config.supervisionTimeMin, Config.supervisionTimeMax, Config.holdTimeMax]
    omega

/-! ### The halves -/

theorem ownerSetFlowLimits_of {l : FlowLimits} (spelled : l = ⟨field f 1 2, field f 3 2, field f 5 2⟩)
    (named : chan? (field f 0 1) = some c) (access : s.acu.isOpen = true) (order : l.minFlow ≤ l.maxFlow)
    (most : l.maxFlow ≤ 60000) (slow : 1 ≤ l.ramp) (fast : l.ramp ≤ 20000) : ownerSetFlowLimits p f s
      = ⟨.ok, u8 ((s.writeLimitsHalf c l).chan c).pairState.code, (s.writeLimitsHalf c l).startOpenTimer⟩ := by
  subst spelled
  have range : ¬ (Config.flowMax < field f 1 2 ∨ Config.flowMax < field f 3 2 ∨ field f 5 2 < Config.rampMin
      ∨ Config.rampMax < field f 5 2) := by
    simp only [Config.flowMax, Config.rampMin, Config.rampMax]
    dsimp only at order most slow fast
    omega
  rw [ownerSetFlowLimits, withChan_named named, if_neg (by simp [access]), if_neg range, if_neg (Nat.not_lt.mpr order)]
  rfl

theorem ownerSetCalibration_of {k : Calibration} (spelled : k = ⟨field f 1 4, field f 5 2⟩)
    (named : chan? (field f 0 1) = some c) (access : s.acu.isOpen = true) (low : 100 ≤ k.capacity)
    (high : k.capacity ≤ 80000) (light : 1 ≤ k.pulseMass) (heavy : k.pulseMass ≤ 50000) : ownerSetCalibration p f s
      = ⟨.ok, u8 ((s.writeCalibrationHalf c k).chan c).pairState.code, (s.writeCalibrationHalf c k).startOpenTimer⟩ := by
  subst spelled
  have range : ¬ (field f 1 4 < Config.capacityMin ∨ Config.capacityMax < field f 1 4 ∨ field f 5 2 < Config.pulseMassMin
      ∨ Config.pulseMassMax < field f 5 2) := by
    simp only [Config.capacityMin, Config.capacityMax, Config.pulseMassMin, Config.pulseMassMax]
    dsimp only at low high light heavy
    omega
  rw [ownerSetCalibration, withChan_named named, if_neg (by simp [access]), if_neg range]
  rfl

theorem State.writeLimitsHalf_staged (l : FlowLimits) (waits : (s.chan c).stagedCalibration = none) :
    s.writeLimitsHalf c l = s.setChan c { s.chan c with stagedLimits := some l } := by
  simp only [State.writeLimitsHalf, waits]

theorem State.writeLimitsHalf_paired (l : FlowLimits) {k : Calibration} (waits : (s.chan c).stagedCalibration = some k) :
    s.writeLimitsHalf c l = s.pair c l k := by
  simp only [State.writeLimitsHalf, waits]

theorem State.writeCalibrationHalf_staged (k : Calibration) (waits : (s.chan c).stagedLimits = none) :
    s.writeCalibrationHalf c k = s.setChan c { s.chan c with stagedCalibration := some k } := by
  simp only [State.writeCalibrationHalf, waits]

theorem State.writeCalibrationHalf_paired (k : Calibration) {l : FlowLimits} (waits : (s.chan c).stagedLimits = some l) :
    s.writeCalibrationHalf c k = s.pair c l k := by
  simp only [State.writeCalibrationHalf, waits]

theorem State.pair_pairState (c : Chan) (l : FlowLimits) (k : Calibration) (s : State) :
    ((s.pair c l k).chan c).pairState = .complete := by
  rw [State.pair_chan, if_pos rfl]
  rfl

end settings

/-- Settles O17: each setting where its checks pass, each half staged or paired. -/
theorem channelSettingsWrite : Obligations.ChannelSettingsWrite := by
  refine ⟨fun p q f s => ⟨fun c l kinds ready named access location set one may => ?_, fun c ready named access range => ?_,
    fun c ready named => ?_, fun ready least most hold => ?_⟩, fun p q f s c named access =>
    ⟨fun l spelled ready order most slow fast => ?_, fun k spelled ready low high light heavy => ?_⟩⟩
  · have may' : (s.taking p).mayTakeFuel c l kinds = true := by
      simpa only [State.mayTakeFuel, State.taking_chan, State.taking_lrg] using may
    refine exec_of_owner ready q ((ownerSetChannelFuel_of (p := p) named (by simpa using access) location set one may').trans ?_)
    simp only [State.setChanConfig, State.taking_chan]
  · refine exec_of_owner ready q ((ownerSetLotClLimit_of (p := p) named (by simpa using access) range).trans ?_)
    simp only [State.setChanConfig, State.taking_chan]
  · refine exec_of_owner ready q ((ownerSetShare_of (p := p) named).trans ?_)
    simp only [State.setChanConfig, State.taking_chan]
  · refine exec_of_owner ready q ((ownerSetLinkTimes_of (p := p) least most hold).trans ?_)
    simp only [State.setSupervision, State.taking_chc]
  · have writes := ownerSetFlowLimits_of (p := p) (s := s.taking p) spelled named (by simpa using access) order most slow fast
    refine ⟨fun waits => ?_, fun k waits => ?_⟩
    · rw [State.writeLimitsHalf_staged l (by simpa using waits), State.setChan_chan_self, State.taking_chan] at writes
      exact exec_of_owner ready q writes
    · rw [State.writeLimitsHalf_paired l (by simpa using waits), State.pair_pairState] at writes
      exact exec_of_owner ready q writes
  · have writes := ownerSetCalibration_of (p := p) (s := s.taking p) spelled named (by simpa using access) low high light heavy
    refine ⟨fun waits => ?_, fun l waits => ?_⟩
    · rw [State.writeCalibrationHalf_staged k (by simpa using waits), State.setChan_chan_self, State.taking_chan] at writes
      have awaits : ChannelRecord.pairState { s.chan c with stagedCalibration := some k } = .awaitLimits := by
        simp [ChannelRecord.pairState, waits]
      rw [awaits] at writes
      exact exec_of_owner ready q writes
    · rw [State.writeCalibrationHalf_paired k (by simpa using waits), State.pair_pairState] at writes
      exact exec_of_owner ready q writes

end Sys2Proof.Machine
end

section
/-!
Proofs. Requests of the firing computation, the feeders, the alarm table, the shift tally unit and the access unit:
`FiringSettingsWrite`, `FeederCommandsAct`, `AcknowledgementsAct`, `ShiftRequestsAct`, `CloseMovesTheOpenRecord`,
`AccessRequestsAct`.
-/
set_option Elab.async false

namespace Sys2Proof.Machine

/-! ### Firing settings -/

section firing
variable {p : Port} {f : List Byte} {s : State}

theorem ownerSetDemand_of {l : Location} (named : location? (field f 0 1) = some l) : ownerSetDemand p f s
    = ⟨if 2500 < field f 1 2 then .okClamped else .ok, u32 (100 * min 2500 (field f 1 2)),
      s.setDemand l (100 * min 2500 (field f 1 2))⟩ := by
  simp only [ownerSetDemand, named, takenClamped, Config.demandMax]
  congr 1
  exact if_congr decide_eq_true_iff rfl rfl

theorem location?_none {n : Nat} (h : 2 ≤ n) : location? n = none := by
  match n, h with
  | n + 2, _ => rfl

theorem ownerSetDemand_refused (other : 2 ≤ field f 0 1) : ownerSetDemand p f s = ⟨.outOfRange, [], s⟩ := by
  simp only [ownerSetDemand, location?_none other]
  rfl

theorem ownerSetClCeiling_of (access : s.acu.isOpen = true) (range : ∀ v, (takeOpt 4 f).1 = some v → v ≤ 400000) :
    ownerSetClCeiling p f s
      = ⟨.ok, [], (s.setFiringConfig { s.fsc.config with ceiling := (takeOpt 4 f).1 }).startOpenTimer⟩ := by
  have within : ¬ (takeOpt 4 f).1.any (fun v => Config.ceilingMax < v) = true := by
    rw [Option.any_eq_true]
    rintro ⟨v, given, above⟩
    exact absurd (range v given) (Nat.not_le.mpr (of_decide_eq_true above))
  rw [ownerSetClCeiling, if_neg (by simp [access]), if_neg within]
  rfl

theorem ownerSetCreditParams_of (access : s.acu.isOpen = true) (cold : 600 ≤ field f 0 2) (hot : field f 0 2 ≤ 1300)
    (gain : field f 2 2 ≤ 500) : ownerSetCreditParams p f s
      = ⟨.ok, [], (s.setFiringConfig { s.fsc.config with tRef := field f 0 2, kSa := field f 2 2 }).startOpenTimer⟩ := by
  have range : ¬ (field f 0 2 < Config.tRefMin ∨ Config.tRefMax < field f 0 2 ∨ Config.kSaMax < field f 2 2) := by
    simp only [Config.tRefMin, Config.tRefMax, Config.kSaMax]
    omega
  rw [ownerSetCreditParams, if_neg (by simp [access]), if_neg range]
  rfl

theorem ownerSetDeficitAlarm_of (narrow : 10 ≤ field f 0 2) (wide : field f 0 2 ≤ 200) (short : 10 ≤ field f 2 2)
    (long : field f 2 2 ≤ 600) : ownerSetDeficitAlarm p f s
      = ⟨.ok, [], s.setFiringConfig { s.fsc.config with band := field f 0 2, delay := field f 2 2 }⟩ := by
  have range : ¬ (field f 0 2 < Config.bandMin ∨ Config.bandMax < field f 0 2 ∨ field f 2 2 < Config.delayMin
      ∨ Config.delayMax < field f 2 2) := by
    simp only [Config.bandMin, Config.bandMax, Config.delayMin, Config.delayMax]
    omega
  rw [ownerSetDeficitAlarm, if_neg range]
  rfl

end firing

/-- Settles O19: each setting where its checks pass. -/
theorem firingSettingsWrite : Obligations.FiringSettingsWrite := by
  refine fun p q f s => ⟨fun ready main => ?_, fun ready calciner => ?_, fun ready other => ?_, fun ready access range => ?_,
    fun ready access cold hot gain => ?_, fun ready narrow wide short long => ?_⟩
  · refine exec_of_owner ready q ((ownerSetDemand_of (p := p) (l := .main) (by rw [main]; rfl)).trans ?_)
    simp only [State.setDemand, State.taking_fsc]
  · refine exec_of_owner ready q ((ownerSetDemand_of (p := p) (l := .calc) (by rw [calciner]; rfl)).trans ?_)
    simp only [State.setDemand, State.taking_fsc]
  · exact exec_of_owner ready q (ownerSetDemand_refused (p := p) other)
  · refine exec_of_owner ready q ((ownerSetClCeiling_of (p := p) (by simpa using access) range).trans ?_)
    simp only [State.setFiringConfig, State.taking_fsc]
  · refine exec_of_owner ready q ((ownerSetCreditParams_of (p := p) (by simpa using access) cold hot gain).trans ?_)
    simp only [State.setFiringConfig, State.taking_fsc]
  · refine exec_of_owner ready q ((ownerSetDeficitAlarm_of (p := p) narrow wide short long).trans ?_)
    simp only [State.setFiringConfig, State.taking_fsc]

/-! ### Feeders -/

section feeder
variable {p : Port} {f : List Byte} {s : State} {c : Chan}

theorem State.weigh_grams {m : Nat} (grams : (s.feeder c).residue + m < 1000) :
    s.weigh c m = s.setFeeder c { s.feeder c with residue := (s.feeder c).residue + m } := by
  rw [State.weigh, if_pos (Nat.div_eq_of_lt grams), Nat.mod_eq_of_lt grams]

theorem State.weigh_kilograms {m : Nat} (whole : 1000 ≤ (s.feeder c).residue + m) : s.weigh c m
    = (s.setFeeder c { s.feeder c with residue := ((s.feeder c).residue + m) % 1000 }).feed c
      (((s.feeder c).residue + m) / 1000) := by
  rw [State.weigh, if_neg (Nat.div_pos whole (by decide)).ne']

theorem exec_feederPulse (run : s.phase = .running) (c : Chan) : exec (.feederPulse c) s = .next (s.pulse c).after :=
  finish_whileRunning run _

/-- The feeder of a pulse taken, before its mass is weighed. -/
theorem State.pulse_uncalibrated (none : (s.feeder c).calibration = none) : s.pulse c = s.setFeeder c { s.feeder c with
    pulses := ((s.feeder c).pulses + 1) % 4294967296
    uncalibratedPulses := ((s.feeder c).uncalibratedPulses + 1) % 4294967296
    stallWindow := (s.feeder c).stallWindow.map fun _ => ⟨(s.feeder c).stallTime, s.moment⟩ } := by
  simp only [State.pulse, none, FeederBlock.pulsed]
  rfl

theorem State.pulse_calibrated {k : Calibration} (calibrated : (s.feeder c).calibration = some k) :
    s.pulse c = (s.setFeeder c { s.feeder c with
      pulses := ((s.feeder c).pulses + 1) % 4294967296
      stallWindow := (s.feeder c).stallWindow.map fun _ => ⟨(s.feeder c).stallTime, s.moment⟩ }).weigh c k.pulseMass := by
  simp only [State.pulse, calibrated, FeederBlock.pulsed]
  rfl

theorem exec_stallWindowExpiry (run : s.phase = .running) (timed : (s.feeder c).stallWindow.isSome = true) :
    exec (.stallWindowExpiry c) s = .next (s.stalls c).after := by
  refine (finish_whileRunning run _).trans ?_
  rw [State.stallExpires, if_pos timed]

theorem ownerSetStallTime_of (named : chan? (field f 0 1) = some c) (short : 2 ≤ field f 1 2) (long : field f 1 2 ≤ 30) :
    ownerSetStallTime p f s = ⟨.ok, [], s.setFeeder c { s.feeder c with stallTime := field f 1 2 }⟩ := by
  rw [ownerSetStallTime, withChan_named named, if_neg]
  · rfl
  · simp only [Config.stallTimeMin, Config.stallTimeMax]
    omega

theorem ownerSetStallTime_refused (named : chan? (field f 0 1) = some c) (out : field f 1 2 < 2 ∨ 30 < field f 1 2) :
    ownerSetStallTime p f s = ⟨.outOfRange, [], s⟩ := by
  rw [ownerSetStallTime, withChan_named named, if_pos (show field f 1 2 < Config.stallTimeMin
    ∨ Config.stallTimeMax < field f 1 2 from out)]
  rfl

end feeder

/-- Settles O25: a pulse below a kilogram adds to the residue, and from a kilogram on the whole ones are fed. -/
theorem feederCommandsAct : Obligations.FeederCommandsAct := by
  refine ⟨fun c s run => ⟨finish_whileRunning run _, fun none => ?_, fun k calibrated grams => ?_,
    fun k calibrated whole => ?_, fun timed active => ?_, fun timed rest => ?_⟩, fun p q f s c ready named =>
    ⟨fun short long => ?_, fun out => ?_⟩⟩
  · rw [exec_feederPulse run, State.pulse_uncalibrated none]
    rfl
  · rw [exec_feederPulse run, State.pulse_calibrated calibrated, State.weigh_grams, State.setFeeder_setFeeder,
      State.setFeeder_feeder_self]
    · rfl
    · rw [State.setFeeder_feeder_self]
      exact grams
  · rw [exec_feederPulse run, State.pulse_calibrated calibrated, State.weigh_kilograms, State.setFeeder_setFeeder,
      State.setFeeder_feeder_self]
    · rfl
    · rw [State.setFeeder_feeder_self]
      exact whole
  · rw [exec_stallWindowExpiry run timed, State.stalls, if_pos active]
    rfl
  · rw [exec_stallWindowExpiry run timed, State.stalls, if_neg (by simp [rest])]
    rfl
  · refine exec_of_owner ready q ((ownerSetStallTime_of (p := p) named short long).trans ?_)
    simp only [State.setFeeder, State.feeder, State.taking_fdi]
  · exact exec_of_owner ready q (ownerSetStallTime_refused (p := p) named out)

/-! ### Acknowledgements -/

section acknowledge
variable {p : Port} {f : List Byte} {s : State} {i : SlotNo} {r : AlarmRecord}

theorem ownerAckAlarm_active (slot : field f 0 1 = i.val) (held : s.alt.record i = some r)
    (generation : field f 1 1 = (s.alt.slots.get i).generation) (used : field f 1 1 ≠ 0) (active : r.state = .activeUnack) :
    ownerAckAlarm p f s = ⟨.ok, u8 2, (s.setAlt (s.alt.rewrite i (r.acked p s.sht.stamp))).settle⟩ := by
  rw [ownerAckAlarm, withAlarm_named slot held generation used]
  simp only [active, State.acknowledge, held]
  rfl

theorem ownerAckAlarm_cleared (slot : field f 0 1 = i.val) (held : s.alt.record i = some r)
    (generation : field f 1 1 = (s.alt.slots.get i).generation) (used : field f 1 1 ≠ 0) (cleared : r.state = .clearedUnack) :
    ownerAckAlarm p f s = ⟨.ok, u8 0, (s.retire i).settle⟩ := by
  rw [ownerAckAlarm, withAlarm_named slot held generation used]
  simp only [cleared, State.acknowledge, held]
  rfl

theorem ownerAckAll_of (some : s.alt.slotsIn .activeUnack ≠ [] ∨ s.alt.slotsIn .clearedUnack ≠ []) : ownerAckAll p f s
    = ⟨.ok, u16 ((s.alt.slotsIn .activeUnack).length - s.ackAll.retiredAmong (s.alt.slotsIn .activeUnack))
        ++ u16 ((s.alt.slotsIn .clearedUnack).length + s.ackAll.retiredAmong (s.alt.slotsIn .activeUnack)), s.ackAll⟩ := by
  have waits : ¬ ((s.alt.slotsIn .activeUnack).isEmpty && (s.alt.slotsIn .clearedUnack).isEmpty) = true := by
    rw [Bool.and_eq_true, List.isEmpty_iff, List.isEmpty_iff]
    exact fun ⟨a, b⟩ => some.elim (· a) (· b)
  simp only [ownerAckAll, if_neg waits]
  rfl

end acknowledge

/-- Settles O28: by the state of the record the handle names. -/
theorem acknowledgementsAct : Obligations.AcknowledgementsAct := by
  refine ⟨fun p q f s i r ready slot held generation used => ⟨fun active => ?_, fun cleared => ?_⟩,
    fun p q f s ready some => ?_⟩
  · refine exec_of_owner ready q ((ownerAckAlarm_active (p := p) slot (by simpa using held) (by simpa using generation)
      used active).trans ?_)
    simp only [State.taking_alt, State.taking_sht, AlarmRecord.acked, AlarmRecord.touched]
  · exact exec_of_owner ready q (ownerAckAlarm_cleared (p := p) slot (by simpa using held) (by simpa using generation)
      used cleared)
  · refine exec_of_owner ready q ((ownerAckAll_of (p := p) (f := f) (s := s.taking p) (by simpa using some)).trans ?_)
    simp only [State.taking_alt]

/-! ### The shift tally unit -/

section shift
variable {p : Port} {f : List Byte} {s : State} {t : Tally}

theorem ownerSetClock_of (day : field f 0 2 ≤ 65535) (secs : field f 2 4 ≤ 86399) : ownerSetClock p f s
    = ⟨.ok, [], s.setShift (s.sht.clockSet ⟨field f 0 2, field f 2 4⟩)⟩ := by
  rw [ownerSetClock, if_neg]
  · rfl
  · simp only [Config.dayCountMax, Config.daySeconds]
    omega

theorem ownerSetShiftPlan_of (length : field f 0 2 = 360 ∨ field f 0 2 = 480 ∨ field f 0 2 = 720)
    (start : field f 2 2 ≤ 1439) :
    ownerSetShiftPlan p f s = ⟨.ok, [], s.setShift { s.sht with plan := ⟨field f 0 2, field f 2 2⟩ }⟩ := by
  rw [ownerSetShiftPlan]
  exact if_pos ⟨length, start⟩

theorem ownerShiftClose_of (free : s.sht.held = none) :
    ownerShiftClose p f s = ⟨.ok, u16 s.sht.current.number, s.closeShift⟩ := by
  rw [ownerShiftClose, free]
  rfl

theorem ownerReleaseShift_plain (held : s.sht.held = some t) (number : t.number = field f 0 2)
    (onTime : s.sht.current.overrun = false) : ownerReleaseShift p f s = ⟨.ok, [0#8], s.freeHeld t⟩ := by
  simp only [ownerReleaseShift, held, if_neg (not_not.mpr number), onTime]
  rfl

theorem ownerReleaseShift_overrun (held : s.sht.held = some t) (number : t.number = field f 0 2)
    (late : s.sht.current.overrun = true) :
    ownerReleaseShift p f s = ⟨.ok, 1#8 :: u16 s.sht.current.number, (s.freeHeld t).closeShift⟩ := by
  simp only [ownerReleaseShift, held, if_neg (not_not.mpr number), late]
  rfl

theorem ownerCorrectShift_of (held : s.sht.held = some t) (number : t.number = field f 0 2)
    (range : field f 2 6 ≤ 281474976710655) : ownerCorrectShift p f s = ⟨.ok, opt u48 (t.specificHeatFor (field f 2 6)),
      s.setShift { s.sht with held := some (t.clinkerCorrected (field f 2 6)) }⟩ := by
  have within : ¬ Config.countMax < field f 2 6 := Nat.not_lt.mpr range
  simp only [ownerCorrectShift, held, if_neg (not_not.mpr number), if_neg within]
  rfl

end shift

/-- Settles O31: each request where its checks pass, a release by the report's marks and the overrun flag. -/
theorem shiftRequestsAct : Obligations.ShiftRequestsAct := by
  refine fun p q f s => ⟨fun ready day secs => ?_, fun ready length start => ?_, fun ready free => ?_,
    fun t ready held number onTime read => ?_, fun t ready held number onTime unread => ?_,
    fun t ready held number late => ?_, fun t ready held number range => ?_⟩
  · refine exec_of_owner ready q ((ownerSetClock_of (p := p) day secs).trans ?_)
    simp only [State.setShift, ShiftUnit.clockSet, State.taking_sht]
  · refine exec_of_owner ready q ((ownerSetShiftPlan_of (p := p) length start).trans ?_)
    simp only [State.setShift, State.taking_sht]
  · refine exec_of_owner ready q ((ownerShiftClose_of (p := p) (f := f) (by simpa using free)).trans ?_)
    simp only [State.taking_sht]
  · refine exec_of_owner ready q ((ownerReleaseShift_plain (p := p) (by simpa using held) number (by simpa using onTime)).trans ?_)
    simp only [State.freeHeld, if_pos read, State.setShift, State.taking_sht]
  · refine exec_of_owner ready q ((ownerReleaseShift_plain (p := p) (by simpa using held) number (by simpa using onTime)).trans ?_)
    rw [State.freeHeld, if_neg (by simp [unread])]
    simp only [State.setShift, State.reportNotice, State.settle, State.setAlt, State.taking_sht, State.taking_alt]
  · refine exec_of_owner ready q ((ownerReleaseShift_overrun (p := p) (by simpa using held) number (by simpa using late)).trans ?_)
    simp only [State.taking_sht]
  · refine exec_of_owner ready q ((ownerCorrectShift_of (p := p) (by simpa using held) number range).trans ?_)
    simp only [State.setShift, Tally.clinkerCorrected, Tally.specificHeatFor, State.taking_sht]

theorem State.closeShift_sht (s : State) : s.closeShift.sht = { s.sht with
    held := some (s.sht.current.closed s.sht.stamp)
    current := .opened (nextShift s.sht.current.number)
      (s.sht.stamp.map fun t => { t with shift := nextShift s.sht.current.number })
    lastTags := Tbl.all 6 none } := rfl

theorem State.closeShift_outputs (s : State) : s.closeShift.alt.reportWaiting = true ∧ s.closeShift.alt.attention = true :=
  ⟨rfl, by
    simp [State.closeShift, State.reportNotice, State.settle, AlarmTable.settled, AlarmTable.attentionDue]⟩

theorem ShiftUnit.stamp_renumbered (u : ShiftUnit) (n : Nat) :
    (u.stamp.map fun t => { t with shift := n }) = u.clock.map fun k => ⟨k.day, k.secs, n⟩ := by
  cases h : u.clock <;> simp [ShiftUnit.stamp, h]

/-- Settles O32: the held record is the open one closed, the open one fresh. -/
theorem closeMovesTheOpenRecord : Obligations.CloseMovesTheOpenRecord := by
  intro s r n opened next
  subst opened
  have number : nextShift s.sht.current.number = n := next.symm
  rw [State.closeShift_sht, number]
  exact ⟨rfl, congrArg (Tally.opened n) (s.sht.stamp_renumbered n), rfl, rfl, rfl, fun c => Tbl.get_all .., rfl, rfl,
    s.closeShift_outputs⟩

/-! ### Access -/

section access
variable {p : Port} {f : List Byte} {s : State}

theorem ownerAccessOpen_match (free : s.acu.lockout = false) (word : s.acu.word = BitVec.allOnes 64 ∨ wordOf f = s.acu.word) :
    ownerAccessOpen p f s = ⟨.ok, [], s.openAccess⟩ := by
  have opens : s.acu.opens (wordOf f) = true := by
    rw [Access.opens, Bool.or_eq_true, beq_iff_eq, beq_iff_eq]
    exact word
  rw [ownerAccessOpen, if_neg (by simp [free]), if_pos opens]
  rfl

theorem ownerAccessOpen_locked (locked : s.acu.lockout = true) : ownerAccessOpen p f s = ⟨.accessLocked, [], s⟩ := by
  rw [ownerAccessOpen, if_pos locked]
  rfl

theorem ownerAccessOpen_wrong (free : s.acu.lockout = false) (set : s.acu.word ≠ BitVec.allOnes 64)
    (wrong : wordOf f ≠ s.acu.word) : ownerAccessOpen p f s = if s.acu.mismatches < 2 then
      ⟨.accessDenied, [], s.setAccess { s.acu with mismatches := s.acu.mismatches + 1 }⟩
      else ⟨.accessLocked, [], s.lockOut⟩ := by
  have stays : ¬ s.acu.opens (wordOf f) = true := by
    rw [Access.opens, Bool.or_eq_true, beq_iff_eq, beq_iff_eq]
    exact not_or.mpr ⟨set, wrong⟩
  rw [ownerAccessOpen, if_neg (by simp [free]), if_neg stays]
  exact if_congr Nat.succ_lt_succ_iff rfl rfl

theorem ownerAccessClose_of (access : s.acu.isOpen = true) : ownerAccessClose p f s = ⟨.ok, [], s.closeAccess⟩ := by
  rw [ownerAccessClose, if_pos access]
  rfl

theorem ownerSetAccessWord_of (access : s.acu.isOpen = true) : ownerSetAccessWord p f s
    = ⟨.ok, [], (s.setAccess { s.acu with word := wordOf f }).startOpenTimer⟩ := by
  rw [ownerSetAccessWord, if_neg (by simp [access])]
  rfl

end access

/-- Settles O34: a match, a mismatch below the limit, the mismatch that reaches it, and the lockout. -/
theorem accessRequestsAct : Obligations.AccessRequestsAct := by
  refine ⟨fun p q f s => ⟨fun ready free word => ?_, fun ready access => ?_, fun ready access => ?_⟩, fun p q f s ready =>
    ⟨fun locked => ?_, fun free set wrong => ⟨fun few => ?_, fun many => ?_⟩⟩⟩
  · refine exec_of_owner ready q ((ownerAccessOpen_match (p := p) (by simpa using free) (by simpa using word)).trans ?_)
    simp only [State.openAccess, State.setAccess, State.startOpenTimer, State.timer, State.taking_acu, State.taking_moment]
    rfl
  · refine exec_of_owner ready q ((ownerAccessClose_of (p := p) (f := f) (by simpa using access)).trans ?_)
    simp only [State.closeAccess, State.taking_acu]
  · refine exec_of_owner ready q ((ownerSetAccessWord_of (p := p) (by simpa using access)).trans ?_)
    simp only [State.setAccess, State.startOpenTimer, State.timer, State.taking_acu, State.taking_moment]
    rfl
  · exact exec_of_owner ready q (ownerAccessOpen_locked (p := p) (by simpa using locked))
  · refine exec_of_owner ready q ((ownerAccessOpen_wrong (p := p) (by simpa using free) (by simpa using set)
      (by simpa using wrong)).trans ((if_pos (by simpa using few)).trans ?_))
    simp only [State.setAccess, State.taking_acu]
  · refine exec_of_owner ready q ((ownerAccessOpen_wrong (p := p) (by simpa using free) (by simpa using set)
      (by simpa using wrong)).trans ((if_neg (by rw [State.taking_acu]; exact Nat.not_lt.mpr many)).trans ?_))
    simp only [State.lockOut, State.closeAccess, State.setAccess, State.taking_acu]
    rfl

end Sys2Proof.Machine
end

section
/-!
Proofs. The lookups, and the state after reset: `LookupsAnswer`, `ResetIsSound`.
-/
set_option Elab.async false

namespace Sys2Proof.Machine

/-! ### Lookups -/

section lookups
variable (p : Port) (s : State)

theorem State.coolerBytes_taking : (s.taking p).coolerBytes = s.coolerBytes := by cases p <;> rfl
theorem State.accessBytes_taking : (s.taking p).accessBytes = s.accessBytes := by cases p <;> rfl
theorem State.channelBytes_taking (c : Chan) : (s.taking p).channelBytes c = s.channelBytes c := by cases p <;> rfl
theorem State.feederBytes_taking (c : Chan) : (s.taking p).feederBytes c = s.feederBytes c := by cases p <;> rfl

end lookups

section shift
variable {f : List Byte} {s : State} {part : ShiftPart} {t : Tally}

theorem ownerReadShift_current {p : Port} (named : shiftPart? (field f 1 1) = some part) (current : field f 0 1 = 0) :
    ownerReadShift p f s = ⟨.ok, s.sht.current.partBytes part, s⟩ := by
  simp only [ownerReadShift, current, named]
  rfl

theorem ownerReadShift_panel (named : shiftPart? (field f 1 1) = some part) (second : field f 0 1 = 1)
    (held : s.sht.held = some t) : ownerReadShift .panel f s = ⟨.ok, t.partBytes part, s⟩ := by
  simp only [ownerReadShift, second, named, held]
  rfl

theorem ownerReadShift_control (named : shiftPart? (field f 1 1) = some part) (second : field f 0 1 = 1)
    (held : s.sht.held = some t) : ownerReadShift .control f s = ⟨.ok, t.partBytes part, s.readHeld part t⟩ := by
  simp only [ownerReadShift, second, named, held]
  rfl

end shift

/-- Settles O4: a lookup is its owner's answer, and only a control-port read of the held report writes its mark. -/
theorem lookupsAnswer : Obligations.LookupsAnswer := by
  refine ⟨fun p q f s => ⟨fun ready => ?_, fun ready => ?_, fun ready => ?_, fun ready => ?_, fun ready => ?_, fun ready => ?_,
    fun ready => ?_, fun ready => ?_⟩, fun p q f s => ⟨fun n ready named => ?_, fun c ready named => ?_,
    fun c ready named => ?_, fun c ready named => ?_, fun i r ready named held => ?_, fun i r ready named held => ?_,
    fun i r ready slot held generation used => ?_, fun id ready named => ?_⟩, fun p q f s part ready named =>
    ⟨fun current => ?_, fun t second held => ⟨fun panel => ?_, fun control same => ?_, fun control before after => ?_⟩⟩⟩
  · exact exec_of_owner ready q rfl
  · exact exec_of_owner ready q rfl
  · refine exec_of_owner ready q (show taken _ _ = _ from ?_)
    rw [State.taking_fsc]
    rfl
  · refine exec_of_owner ready q (show taken _ _ = _ from ?_)
    rw [State.coolerBytes_taking]
    rfl
  · refine exec_of_owner ready q (show taken _ _ = _ from ?_)
    rw [State.taking_alt]
    rfl
  · refine exec_of_owner ready q (show taken _ _ = _ from ?_)
    rw [State.taking_alt]
    rfl
  · refine exec_of_owner ready q (show taken _ _ = _ from ?_)
    rw [State.taking_sht]
    rfl
  · refine exec_of_owner ready q (show taken _ _ = _ from ?_)
    rw [State.accessBytes_taking]
    rfl
  · refine exec_of_owner ready q (show ownerReadPoint p f _ = _ from ?_)
    simp only [ownerReadPoint, named, State.taking_ptb, taken]
  · refine exec_of_owner ready q (show ownerReadChannel p f _ = _ from ?_)
    simp only [ownerReadChannel, withChan_named named, State.channelBytes_taking, taken]
  · refine exec_of_owner ready q (show ownerReadFeeder p f _ = _ from ?_)
    simp only [ownerReadFeeder, withChan_named named, State.feederBytes_taking, taken]
  · refine exec_of_owner ready q (show ownerReadQueue p f _ = _ from ?_)
    simp only [ownerReadQueue, named, State.taking_lrg, taken]
  · refine exec_of_owner ready q (show ownerReadLot p f _ = _ from ?_)
    rw [ownerReadLot, withLot_named (i := i) (r := r) (by simpa using named) (by simpa using held)]
    simp only [State.taking_lrg, taken]
  · refine exec_of_owner ready q (show ownerFindLot p f _ = _ from ?_)
    simp only [ownerFindLot, State.taking_lrg, named, held, taken]
  · refine exec_of_owner ready q (show ownerReadAlarm p f _ = _ from ?_)
    rw [ownerReadAlarm, withAlarm_named (i := i) (r := r) slot (by simpa using held) (by simpa using generation) used]
    simp only [State.taking_alt, taken]
  · refine exec_of_owner ready q (show ownerFindAlarm p f _ = _ from ?_)
    simp only [ownerFindAlarm, named, State.taking_alt, taken]
  · refine exec_of_owner ready q ((ownerReadShift_current (p := p) named current).trans ?_)
    simp only [State.taking_sht]
  · subst panel
    exact exec_of_owner ready q (ownerReadShift_panel named second (by simpa using held))
  · subst control
    refine exec_of_owner ready q ((ownerReadShift_control named second (t := t) (by simpa using held)).trans ?_)
    rw [State.readHeld, if_neg (fun h => by rw [same, h.1] at h; exact nomatch h.2)]
    simp only [State.setShift, State.taking_sht]
  · subst control
    refine exec_of_owner ready q ((ownerReadShift_control named second (t := t) (by simpa using held)).trans ?_)
    rw [State.readHeld, if_pos ⟨before, after⟩]
    simp only [State.setShift, State.reportNotice, State.settle, State.setAlt, State.taking_sht, State.taking_alt]

/-! ### The state after reset -/

theorem reset_eq_start : State.reset = State.off.start .powerOn := by decide +kernel

/-- The state after reset comes by a start of the part without power, and meets what every start keeps. -/
theorem Kept.reset {P : State → Prop} (kept : Kept P) (off : P State.off) : P State.reset := by
  rw [reset_eq_start]
  exact kept.event (.start .powerOn) State.off (.inl rfl) off

namespace State

theorem off_chan (c : Chan) : off.chan c = .start (.default c) := by
  simp [off, chan, ChannelController.start, Settings.default]

theorem off_feeder (c : Chan) : off.feeder c = .start none := by
  simp [off, feeder, feedersStart, Settings.default, ChannelConfig.default]

theorem off_absent (id : Identity) : off.alt.condition id = none := by
  simp [off, AlarmTable.start, AlarmTable.condition]

theorem off_record (i : SlotNo) : off.alt.record i = none := by
  simp [off, AlarmTable.start, AlarmTable.record]

theorem off_idle (c : Chan) : off.setpoint c = 0 ∧ off.fsc.target.get c = 0 := by
  simp [off, setpoint, Firing.start]

theorem off_massBalanced : off.MassBalanced := fun c => by rw [off_chan]; rfl

theorem off_lotsSound : off.LotsSound := by
  have none (i : LotNo) : off.lrg.lot i = none := by simp [off, LotRegistry.start, LotRegistry.lot]
  have empty (c : Chan) : off.lrg.queues.get c = [] := by simp [off, LotRegistry.start]
  refine ⟨⟨fun c => ?_, fun c => ?_, fun c d i mem => ?_, fun c i mem => ?_, fun i r held => ?_⟩, fun i j r r' held => ?_⟩
  · rw [empty]; exact Nat.zero_le _
  · rw [empty]; exact List.nodup_nil
  · rw [empty] at mem; cases mem
  · rw [empty] at mem; cases mem
  · rw [none] at held; cases held
  · rw [none] at held; cases held

theorem off_tripsHold : off.TripsHold where
  line run := nomatch run
  cause c := by rw [off_chan]; exact iff_of_false nofun nofun
  idle c _ := (off_idle c).1
  silent c on := by rw [off_chan] at on; cases on

theorem off_linkAgrees : off.LinkAgrees where
  starting on := nomatch on
  supervised on := nomatch on
  holding := iff_of_false nofun nofun
  released _ c := by rw [off_chan]; rfl

theorem off_flowsBounded : off.FlowsBounded where
  ordered c x halves := by rw [off_chan] at halves; cases halves
  staged c l staged := by rw [off_chan] at staged; cases staged
  stored := Settings.flowsOrdered_default
  saving st saves := nomatch saves
  setpoint c := by rw [(off_idle c).1]; exact Nat.zero_le _
  target c := by rw [(off_idle c).2]; exact Nat.zero_le _

theorem off_feedersBounded : off.FeedersBounded where
  trim c := by rw [off_feeder]; decide
  rates c := by rw [off_feeder]; decide
  residue c := by rw [off_feeder]; decide
  counts c := by rw [off_feeder]; decide
  window linked := nomatch linked

theorem off_alarmSound : off.alt.Sound where
  distinct i j r r' held := by rw [off_record] at held; cases held
  reserved i r held := by rw [off_record] at held; cases held
  waiting id k present := by rw [off_absent] at present; cases present
  shown id k present := by rw [off_absent] at present; cases present
  gone i r held := by rw [off_record] at held; cases held
  full pending := absurd (by simp [AlarmTable.pendings, off_absent]) pending
  tableFull := by simp [AlarmTable.pendings, AlarmTable.isPresent, off_absent]

theorem off_outputsAgree : off.OutputsAgree where
  driven linked := nomatch linked
  dark _ := ⟨rfl, rfl, fun c => by rw [off_feeder]; rfl⟩
  noSave _ := rfl
  report := rfl

theorem off_accessSound : off.acu.Sound := ⟨nofun, fun _ => by decide, rfl⟩

end State

theorem State.reset_stores {Q : Settings → Prop} (default : Q .default) : State.reset.StoreHolds Q := by
  rw [reset_eq_start]
  exact State.StoreHolds.event (.start .powerOn) default ⟨default, fun _ saves => nomatch saves⟩

theorem State.reset_coolerBounded : State.reset.CoolerBounded := by
  refine State.coolerBounded_iff.mpr ⟨?_, State.reset_stores Settings.coolerBounded_default⟩
  rw [reset_eq_start]
  exact State.CoolerBounded.start .powerOn Settings.coolerBounded_default

theorem State.reset_tripMapAgrees : State.reset.TripMapAgrees := by
  refine State.tripMapAgrees_iff.mpr ⟨?_, State.reset_stores Settings.mappable_default⟩
  rw [reset_eq_start]
  exact State.TripsAgree.start .powerOn Settings.mappable_default

/-- Settles O47: the part without power holds nothing, and the start from it keeps every invariant. -/
theorem resetIsSound : Obligations.ResetIsSound := by
  obtain ⟨ordered, apart⟩ := kept_lotsSound.reset State.off_lotsSound
  have points : State.reset.PointsAgree := by rw [reset_eq_start]; exact pointsAgree_start ..
  have shift : State.reset.sht.Sound := by rw [reset_eq_start]; exact start_tallies ..
  exact ⟨kept_massBalanced.reset State.off_massBalanced, ordered, apart, kept_tripsHold.reset State.off_tripsHold,
    kept_linkAgrees.reset State.off_linkAgrees, kept_flowsBounded.reset State.off_flowsBounded,
    kept_feedersBounded.reset State.off_feedersBounded, State.reset_coolerBounded, points,
    kept_alarmTableSound.reset State.off_alarmSound, State.reset_tripMapAgrees,
    kept_outputsAgree.reset State.off_outputsAgree, shift, kept_accessSound.reset State.off_accessSound,
    kept_saveHolds.reset fun _ saves => nomatch saves⟩

end Sys2Proof.Machine
end

section
/-!
Proofs. What the two ports do with a frame that no owner answers: `PortsAnswerWhatTheyRefuse`,
`ControlTransfersAct`, `PanelEventsAct`.
-/
set_option Elab.async false

namespace Sys2Proof.Machine

/-! ### The acceptance checks, one by one (R185) -/

section Accept

variable {k : Kind} {o : Owner} {p : Port} {f : List Byte} {s : State}

theorem accept_startUp (starting : s.phase = .startUp) : accept k o p f s = refuse .busy s := if_pos starting

theorem accept_notPermitted (running : s.phase = .running) (mayNot : panelMay k = false) :
    accept k o .panel f s = refuse .notPermitted s := by
  simp [accept, running, mayNot]

theorem accept_wrongLength (running : s.phase = .running) (permitted : p = .panel → panelMay k = true)
    (wrong : lengthOk k f = false) : accept k o p f s = refuse .outOfRange s := by
  have passes : ¬(p = .panel ∧ panelMay k = false) := fun no => by simp [permitted no.1] at no
  simp only [accept, running, wrong, if_neg passes, reduceCtorEq, if_false, if_true]

theorem accept_saving (running : s.phase = .running) (permitted : p = .panel → panelMay k = true)
    (length : lengthOk k f = true) (busy : busyDuringSave k = true) (saving : s.sst.inFlight.isSome = true) :
    accept k o p f s = refuse .busy s := by
  have passes : ¬(p = .panel ∧ panelMay k = false) := fun no => by simp [permitted no.1] at no
  simp [accept, running, length, busy, if_neg passes, Store.saving, saving]

theorem acceptUnknown_running (running : s.phase = .running) : acceptUnknown s = refuse .unknownRequest s := by
  simp [acceptUnknown, running]

theorem answerRequest_refused {st : Status} (q : Byte)
    (refused : accept k o p f (s.countTaken p) = refuse st (s.countTaken p)) :
    answerRequest k o p q f s = (⟨k.code, st, q, []⟩, s.countTaken p) := by
  unfold answerRequest; rw [refused]; rfl

end Accept

theorem answerUnknown_running {p : Port} {s : State} (kind q : Byte) (running : s.phase = .running) :
    answerUnknown p kind q s = (⟨kind, .unknownRequest, q, []⟩, s.countTaken p) := by
  have still : (s.countTaken p).phase = .running := by cases p <;> exact running
  unfold answerUnknown; rw [acceptUnknown_running still]; rfl

@[simp] theorem Kind.ofCode_code (k : Kind) : Kind.ofCode k.code = some k := by cases k <;> rfl

theorem routed_code (p : Port) (k : Kind) (q : Byte) (f : List Byte) :
    routed p k.code q f = answerRequest k (ownerOf k) p q f := by
  unfold routed; rw [Kind.ofCode_code]

theorem routed_unknown {kind : Byte} (unknown : Kind.ofCode kind = none) (p : Port) (q : Byte) (f : List Byte) :
    routed p kind q f = answerUnknown p kind q := by
  unfold routed; rw [unknown]

theorem State.linked_of_running {s : State} (running : s.phase = .running) : s.linked = true := by
  simp [State.linked, running]

theorem State.linked_of_startUp {s : State} (starting : s.phase = .startUp) : s.linked = true := by
  simp [State.linked, starting]

/-! ### A write transfer of the control port (R178, R181, R188) -/

theorem State.controlArrives_running {s u : State} {r : Response} {h : Handler} (n : Nat)
    (running : s.phase = .running) (answer : h s = (r, u)) :
    s.controlArrives n h = ((u.writeControl r).shiftOut (List.replicate n 0#8)).refresh := by
  unfold State.controlArrives
  rw [if_pos (State.linked_of_running running), answer]
  exact if_pos (by simp [State.runs, running])

theorem State.controlArrives_startUp {s u : State} {r : Response} {h : Handler} (n : Nat)
    (starting : s.phase = .startUp) (answer : h s = (r, u)) :
    s.controlArrives n h = (u.writeControl r).shiftOut (List.replicate n 0#8) := by
  unfold State.controlArrives
  rw [if_pos (State.linked_of_startUp starting), answer]
  exact if_neg (by simp [State.runs, starting])

theorem State.controlFails_running {s : State} (n : Nat) (running : s.phase = .running) :
    s.controlFails n
      = ((s.countBad .control).writeControl badFrameResponse).shiftOut (List.replicate n 0#8) :=
  if_pos (State.linked_of_running running)

theorem exec_control_refused {k : Kind} {f : List Byte} {s : State} {st : Status} (q : Byte)
    (running : s.phase = .running)
    (refused : accept k (ownerOf k) .control f (s.countTaken .control) = refuse st (s.countTaken .control)) :
    exec (k.instr .control q f) s
      = .next ((((s.countTaken .control).writeControl ⟨k.code, st, q, []⟩).shiftOut
          (List.replicate (f.length + 6) 0#8)).refresh).after := by
  rw [exec_instr]
  exact congrArg finish (State.controlArrives_running _ running (answerRequest_refused q refused))

theorem exec_control_startUp (k : Kind) (q : Byte) (f : List Byte) {s : State} (starting : s.phase = .startUp) :
    exec (k.instr .control q f) s
      = .next (((s.countTaken .control).writeControl ⟨k.code, .busy, q, []⟩).shiftOut
          (List.replicate (f.length + 6) 0#8)).after := by
  rw [exec_instr]
  exact congrArg finish
    (State.controlArrives_startUp _ starting (answerRequest_refused q (accept_startUp starting)))

/-! ### A frame the panel's receiver finishes (R183, R184): taken, held, or dropped -/

theorem State.panelHandOn_free {s : State} (fr : Frame) (h : Handler) (idle : s.panel.sending = none)
    (empty : s.panel.held = none) : s.panelHandOn fr h = s.panelTake h := if_pos (by simp [idle, empty])

theorem State.panelHandOn_taken {s u : State} {r : Response} {h : Handler} (fr : Frame)
    (idle : s.panel.sending = none) (empty : s.panel.held = none) (answer : h s = (r, u)) :
    s.panelHandOn fr h = { u with panel := { u.panel with sending := some r } } := by
  rw [State.panelHandOn_free fr h idle empty]
  unfold State.panelTake
  rw [answer]

theorem State.panelHandOn_waits {s : State} (fr : Frame) (h : Handler)
    (sending : s.panel.sending.isSome = true) (empty : s.panel.held = none) :
    s.panelHandOn fr h = { s with panel := { s.panel with held := some fr } } := by
  unfold State.panelHandOn
  rw [if_neg (fun idle => by simp [Option.isNone_iff_eq_none.mp idle.1] at sending)]
  exact if_pos (by simp [empty])

theorem State.panelHandOn_dropped {s : State} (fr : Frame) (h : Handler) (held : s.panel.held.isSome = true) :
    s.panelHandOn fr h
      = { s with panel := { s.panel with discardedFrames := min 65535 (s.panel.discardedFrames + 1) } } := by
  have full : ¬s.panel.held.isNone = true := fun none => by
    simp [Option.isNone_iff_eq_none.mp none] at held
  unfold State.panelHandOn
  rw [if_neg (fun idle => full idle.2)]
  exact if_neg full

theorem State.panelArrives_linked {s : State} (fr : Frame) (h : Handler) (linked : s.linked = true) :
    s.panelArrives fr h = (s.setReceiver .hunt).panelHandOn fr h := if_pos linked

theorem State.panelFails_linked {s : State} (linked : s.linked = true) :
    s.panelFails = ((s.setReceiver .hunt).countBad .panel).panelHandOn .failed answerFailed := if_pos linked

theorem exec_panel_linked {k : Kind} (q : Byte) (f : List Byte) {s : State} (linked : s.linked = true) :
    exec (k.instr .panel q f) s
      = .next ((s.setReceiver .hunt).panelHandOn (.checked k.code q f)
          (answerRequest k (ownerOf k) .panel q f)).after := by
  rw [exec_instr]
  exact congrArg finish (State.panelArrives_linked _ _ linked)

theorem exec_panel_refused {k : Kind} {f : List Byte} {s : State} {st : Status} (q : Byte) (linked : s.linked = true)
    (idle : s.panel.sending = none) (empty : s.panel.held = none)
    (refused : accept k (ownerOf k) .panel f (s.taking .panel) = refuse st (s.taking .panel)) :
    exec (k.instr .panel q f) s
      = .next (State.after { s.taking .panel with
          panel := { (s.taking .panel).panel with sending := some ⟨k.code, st, q, []⟩ } }) := by
  rw [exec_panel_linked q f linked]
  exact congrArg (Host.Outcome.next ∘ State.after)
    (State.panelHandOn_taken _ idle empty (answerRequest_refused q refused))

theorem not_busyDuringSave_of_panelMay {k : Kind} (may : panelMay k = true) : busyDuringSave k = false := by
  cases k <;> first | rfl | exact absurd may Bool.false_ne_true

/-- Settles O40: each clause is one acceptance check, or one way the panel hands a frame on. -/
theorem portsAnswerWhatTheyRefuse : Obligations.PortsAnswerWhatTheyRefuse := by
  refine ⟨fun k q f s starting => ⟨exec_control_startUp k q f starting, fun idle empty => ?_⟩,
    fun k q f s running => ⟨fun wrong => ?_, fun length busy saving => ?_, fun idle empty =>
      ⟨fun mayNot => ?_, not_busyDuringSave_of_panelMay, fun may wrong => ?_⟩⟩,
    fun k q f s on => ?_⟩
  · exact exec_panel_refused q (State.linked_of_startUp starting) idle empty (accept_startUp starting)
  · exact exec_control_refused q running (accept_wrongLength running nofun wrong)
  · exact exec_control_refused q running (accept_saving running nofun length busy saving)
  · exact exec_panel_refused q (State.linked_of_running running) idle empty (accept_notPermitted running mayNot)
  · exact exec_panel_refused q (State.linked_of_running running) idle empty
      (accept_wrongLength running (fun _ => may) wrong)
  · have linked : s.linked = true := on.elim State.linked_of_startUp State.linked_of_running
    refine ⟨fun sending empty => ?_, fun held => ?_⟩ <;> rw [exec_panel_linked q f linked]
    · exact congrArg (Host.Outcome.next ∘ State.after) (State.panelHandOn_waits _ _ sending empty)
    · exact congrArg (Host.Outcome.next ∘ State.after) (State.panelHandOn_dropped _ _ held)

/-! ### Transfers of the control port that carry no request of the catalogue -/

theorem State.transfer_ignored {bytes : List Byte} (form : Instr.wellFormed (.ignoredTransfer bytes) = true)
    (s : State) : s.transfer bytes = s := by
  cases bytes with
  | nil => rfl
  | cons b rest =>
    have ⟨noSync, noRead⟩ : b ≠ Config.sync ∧ b ≠ Config.readCommand := by simpa [Instr.wellFormed] using form
    simp only [State.transfer, if_neg noSync, if_neg noRead]

theorem State.transfer_failed {bytes : List Byte} (form : Instr.wellFormed (.controlBadFrame bytes) = true)
    (s : State) : s.transfer bytes = s.controlFails bytes.length := by
  cases bytes with
  | nil => simp [Instr.wellFormed] at form
  | cons b rest =>
    have ⟨sync, failed⟩ : b = Config.sync ∧ readTransfer (b :: rest) = .failed := by
      simpa [Instr.wellFormed] using form
    simp only [State.transfer, if_pos sync, State.writeTransfer, failed]

theorem State.controlRead_running {s : State} (n : Nat) (running : s.phase = .running) :
    s.controlRead n = { s with control := { s.control with
      dataOut := Config.readFirstByte s.moment :: s.control.readOut n
      buffer := if s.control.buffer.any (fun r => r.frame.length ≤ n) then none else s.control.buffer } } :=
  if_pos (State.linked_of_running running)

theorem ControlPort.readOut_empty {x : ControlPort} (empty : x.buffer = none) (n : Nat) :
    x.readOut n = List.replicate n 0#8 := by
  simp [ControlPort.readOut, empty]

theorem ControlPort.readOut_whole {x : ControlPort} {r : Response} {n : Nat} (holds : x.buffer = some r)
    (whole : r.frame.length ≤ n) : x.readOut n = r.frame ++ List.replicate (n - r.frame.length) 0#8 := by
  simp only [ControlPort.readOut, holds]
  exact List.take_of_length_le (by simp [whole])

theorem ControlPort.readOut_part {x : ControlPort} {r : Response} {n : Nat} (holds : x.buffer = some r)
    (part : n < r.frame.length) : x.readOut n = r.frame.take n := by
  simp only [ControlPort.readOut, holds]
  exact List.take_append_of_le_length (Nat.le_of_lt part)

/-- Settles O41: a transfer is ignored, fails, reads the buffer, or carries a frame. -/
theorem controlTransfersAct : Obligations.ControlTransfersAct := by
  intro s running
  refine ⟨fun bytes form => congrArg finish (State.transfer_ignored form s), fun bytes form => ?_, fun n empty => ?_,
    fun n r holds whole => ?_, fun n r holds part => ?_, fun kind q f unknown => ?_⟩
  · exact congrArg finish ((State.transfer_failed form s).trans (State.controlFails_running _ running))
  · refine congrArg finish ((State.controlRead_running n running).trans ?_)
    rw [ControlPort.readOut_empty empty]
    simp [empty]
  · refine congrArg finish ((State.controlRead_running n running).trans ?_)
    rw [ControlPort.readOut_whole holds whole]
    simp [holds, whole]
  · refine congrArg finish ((State.controlRead_running n running).trans ?_)
    rw [ControlPort.readOut_part holds part]
    simp [holds, Nat.not_le.mpr part]
  · show finish (s.controlArrives _ (routed .control kind q f)) = _
    rw [routed_unknown unknown]
    exact congrArg finish (State.controlArrives_running _ running (answerUnknown_running kind q running))

/-! ### The panel port's own events -/

theorem State.setReceiver_same {s : State} {r : Receiver} (h : s.panel.receiver = r) : s.setReceiver r = s := by
  subst h; rfl

section PanelEvents

variable {s : State} (linked : s.linked = true)
include linked

theorem exec_panelBadFrame_linked : exec .panelBadFrame s
    = .next (((s.setReceiver .hunt).countBad .panel).panelHandOn .failed answerFailed).after :=
  congrArg finish (State.panelFails_linked linked)

theorem exec_unknown_panel_linked {kind : Byte} (unknown : Kind.ofCode kind = none) (q : Byte) (f : List Byte) :
    exec (.unknownRequest .panel kind q f) s
      = .next ((s.setReceiver .hunt).panelHandOn (.checked kind q f) (answerUnknown .panel kind q)).after := by
  show finish (s.panelArrives _ (routed .panel kind q f)) = _
  rw [routed_unknown unknown]
  exact congrArg finish (State.panelArrives_linked _ _ linked)

theorem exec_panelTransmitDone_sending (sending : s.panel.sending.isSome = true) :
    exec .panelTransmitDone s = .next s.transmitEnds.after :=
  congrArg finish (if_pos ⟨linked, sending⟩)

theorem exec_panelReceiverByte_linked (b : Byte) : exec (.panelReceiverByte b) s = .next (s.receiveByte b).after :=
  congrArg finish (if_pos linked)

end PanelEvents

theorem State.panelFinished_code (k : Kind) (q : Byte) (f : List Byte) (s : State) :
    finish (s.panelFinished (.checked k.code q f)) = exec (k.instr .panel q f) s := by
  rw [exec_instr]
  show finish (s.panelArrives _ (routed .panel k.code q f)) = _
  rw [routed_code]
  rfl

theorem State.transmitEnds_held {s : State} {fr : Frame} (held : s.panel.held = some fr) :
    s.transmitEnds = State.panelTake (heldHandler fr)
      { s with panel := { s.panel with sending := none, held := none } } := by
  unfold State.transmitEnds; rw [held]

theorem heldHandler_code (k : Kind) (q : Byte) (f : List Byte) :
    heldHandler (.checked k.code q f) = answerRequest k (ownerOf k) .panel q f := routed_code .panel k q f

/-- The held frame that the transmitter takes is the request it is. -/
theorem exec_panelTransmitDone_request {s : State} (running : s.phase = .running) {k : Kind} {q : Byte} {f : List Byte}
    (sending : s.panel.sending.isSome = true) (held : s.panel.held = some (.checked k.code q f))
    (hunting : s.panel.receiver = .hunt) :
    exec .panelTransmitDone s
      = exec (k.instr .panel q f) { s with panel := { s.panel with sending := none, held := none } } := by
  have linked := State.linked_of_running running
  rw [exec_panelTransmitDone_sending linked sending, exec_panel_linked q f (by exact linked),
    State.setReceiver_same (by exact hunting), State.transmitEnds_held held]
  rw [heldHandler_code, State.panelHandOn_free _ _ rfl rfl]

/-! ### The receiver (R183) -/

section Receiver

variable {s : State} {b : Byte} {n : Nat} {got : List Byte}

theorem State.receiveByte_hunt_drops (hunting : s.panel.receiver = .hunt) (other : b ≠ Config.sync) :
    s.receiveByte b = s := by
  unfold State.receiveByte; rw [hunting]; exact if_neg other

theorem State.receiveByte_sync (hunting : s.panel.receiver = .hunt) :
    s.receiveByte Config.sync = s.setReceiver .length := by
  unfold State.receiveByte; rw [hunting]; exact if_pos rfl

theorem State.receiveByte_length (measuring : s.panel.receiver = .length) (low : 4 ≤ b.toNat)
    (high : b.toNat ≤ 250) : s.receiveByte b = s.setReceiver (.body b.toNat []) := by
  unfold State.receiveByte; rw [measuring]; exact if_pos ⟨low, high⟩

theorem State.receiveByte_badLength (measuring : s.panel.receiver = .length)
    (bad : b.toNat < 4 ∨ 250 < b.toNat) : s.receiveByte b = s.panelFails := by
  unfold State.receiveByte; rw [measuring]
  exact if_neg (fun fits => bad.elim (Nat.not_lt.mpr fits.1) (Nat.not_lt.mpr fits.2))

theorem State.receiveByte_kept (reading : s.panel.receiver = .body n got) (short : got.length + 1 < n) :
    s.receiveByte b = s.setReceiver (.body n (got ++ [b])) := by
  unfold State.receiveByte; rw [reading]; exact if_pos (by simpa using short)

theorem State.receiveByte_last (reading : s.panel.receiver = .body n got) (last : n ≤ got.length + 1) :
    s.receiveByte b = s.panelFinished (readFrame (BitVec.ofNat 8 n) (got ++ [b])) := by
  unfold State.receiveByte; rw [reading]; exact if_neg (by simpa using last)

end Receiver

/-- The events of a frame that failed, that waits, or that the transmitter takes. -/
theorem panelFrameEvents (s : State) (running : s.phase = .running) :
    (s.panel.sending = none → s.panel.held = none →
      exec .panelBadFrame s = .next (State.after { s with panel := { s.panel with
        receiver := .hunt
        sending := some ⟨0#8, .badFrame, 0#8, []⟩
        badFrames := min 65535 (s.panel.badFrames + 1) } }))
    ∧ (s.panel.sending.isSome = true → s.panel.held = none →
      exec .panelBadFrame s = .next (State.after { s with panel := { s.panel with
        receiver := .hunt, held := some .failed
        badFrames := min 65535 (s.panel.badFrames + 1) } }))
    ∧ (s.panel.held.isSome = true →
      exec .panelBadFrame s = .next (State.after { s with panel := { s.panel with
        receiver := .hunt
        badFrames := min 65535 (s.panel.badFrames + 1)
        discardedFrames := min 65535 (s.panel.discardedFrames + 1) } })) := by
  rw [exec_panelBadFrame_linked (State.linked_of_running running)]
  refine ⟨fun idle empty => ?_, fun sending empty => ?_, fun held => ?_⟩ <;>
    refine congrArg (Host.Outcome.next ∘ State.after) ?_
  · exact State.panelHandOn_free _ answerFailed idle empty
  · exact State.panelHandOn_waits _ _ sending empty
  · exact State.panelHandOn_dropped _ _ held

/-- Settles O42: each clause is one way the panel hands a frame on, or one move of the receiver. -/
theorem panelEventsAct : Obligations.PanelEventsAct := by
  refine ⟨fun s running => ?_, fun s b running => ?_⟩ <;> have linked := State.linked_of_running running
  · obtain ⟨answered, waits, dropped⟩ := panelFrameEvents s running
    have gap (receiving : s.panel.receiver ≠ .hunt) : exec .panelGapTimeout s = exec .panelBadFrame s :=
      congrArg finish (if_neg receiving)
    refine ⟨answered, waits, dropped, fun idle empty receiving => (gap receiving).trans (answered idle empty), gap,
      fun hunting => congrArg finish (if_pos hunting), fun kind q f sending empty => ?_, fun sending empty => ?_,
      fun k q f sending held hunting => exec_panelTransmitDone_request running sending held hunting,
      fun kind q f unknown => ⟨fun idle empty => ?_, fun sending empty => ?_, fun held => ?_⟩⟩
    · exact congrArg finish ((State.panelArrives_linked _ _ linked).trans
        (State.panelHandOn_waits _ _ sending empty))
    · rw [exec_panelTransmitDone_sending linked sending]
      unfold State.transmitEnds
      rw [empty]
    all_goals rw [exec_unknown_panel_linked linked unknown]
    all_goals refine congrArg (Host.Outcome.next ∘ State.after) ?_
    · exact State.panelHandOn_taken (s := s.setReceiver .hunt) _ idle empty (answerUnknown_running kind q running)
    · exact State.panelHandOn_waits _ _ sending empty
    · exact State.panelHandOn_dropped _ _ held
  · rw [exec_panelReceiverByte_linked linked]
    refine ⟨fun hunting => ⟨fun other => ?_, ?_⟩, fun measuring => ⟨fun low high => ?_, fun bad => ?_⟩,
      fun n got reading => ⟨fun short => ?_, fun last failed => ?_, fun k q f last checked => ?_,
        fun kind q f last checked unknown => ?_⟩⟩
    · rw [State.receiveByte_hunt_drops hunting other]
    · rintro rfl
      exact congrArg (Host.Outcome.next ∘ State.after) (State.receiveByte_sync hunting)
    · rw [State.receiveByte_length measuring low high]
      rfl
    · rw [State.receiveByte_badLength measuring bad]
      rfl
    · rw [State.receiveByte_kept reading short]
      rfl
    · rw [State.receiveByte_last reading last, failed]
      rfl
    · rw [State.receiveByte_last reading last, checked]
      exact State.panelFinished_code k q f s
    · rw [State.receiveByte_last reading last, checked]
      rfl

end Sys2Proof.Machine
end

section
/-!
Proofs. `FramesAreTheirRequest`: a request frame, byte by byte at the panel's receiver and as one transfer.
-/
set_option Elab.async false

namespace Sys2Proof.Machine

/-! ### A request frame read back -/

/-- The length byte of a request frame of these field bytes. -/
def lengthByte (f : List Byte) : Byte := BitVec.ofNat 8 (f.length + 4)

theorem lengthByte_toNat {f : List Byte} (short : f.length ≤ 246) : (lengthByte f).toNat = f.length + 4 := by
  rw [lengthByte, BitVec.toNat_ofNat]
  exact Nat.mod_eq_of_lt (by omega)

/-- What follows the length byte. -/
def frameRest (kind q : Byte) (f : List Byte) : List Byte :=
  kind :: q :: f ++ crcTail (lengthByte f :: kind :: q :: f)

theorem requestFrame_eq (kind q : Byte) (f : List Byte) :
    requestFrame kind q f = Config.sync :: lengthByte f :: frameRest kind q f := rfl

theorem frameRest_length (kind q : Byte) (f : List Byte) : (frameRest kind q f).length = f.length + 4 := by
  simp [frameRest, crcTail]

theorem readFrame_frameRest (kind q : Byte) {f : List Byte} (short : f.length ≤ 246) :
    readFrame (lengthByte f) (frameRest kind q f) = .checked kind q f := by
  have long := lengthByte_toNat short
  exact (readFrame_fields kind q _ _ long.symm (by omega) (by omega)).trans (if_pos rfl)

/-! ### The receiver over a whole frame -/

/-- What a finished frame leaves does not depend on the receiver that finished it. -/
theorem State.panelFinished_setReceiver {s : State} (linked : s.linked = true) (r : Receiver) (fr : Frame) :
    (s.setReceiver r).panelFinished fr = s.panelFinished fr := by
  cases fr with
  | failed => exact (State.panelFails_linked (s := s.setReceiver r) linked).trans (State.panelFails_linked linked).symm
  | checked kind q f =>
    exact (State.panelArrives_linked (s := s.setReceiver r) _ _ linked).trans
      (State.panelArrives_linked _ _ linked).symm

/-- The bytes still missing from the body, one after another, finish the frame. -/
theorem State.receive_body (rest : List Byte) {n : Nat} {got : List Byte} {s : State} (linked : s.linked = true)
    (reading : s.panel.receiver = .body n got) (some : rest ≠ []) (fills : got.length + rest.length = n) :
    rest.foldl (fun x b => x.receiveByte b) s = s.panelFinished (readFrame (BitVec.ofNat 8 n) (got ++ rest)) := by
  induction rest generalizing got s with
  | nil => exact absurd rfl some
  | cons b rest ih =>
    rw [List.foldl_cons]
    rcases eq_or_ne rest [] with rfl | more
    · exact State.receiveByte_last reading (by simp at fills; omega)
    · have := List.length_pos_iff.mpr more
      rw [List.length_cons] at fills
      rw [State.receiveByte_kept reading (by omega),
        ih (s := s.setReceiver (.body n (got ++ [b]))) linked rfl more (by simp; omega),
        State.panelFinished_setReceiver linked, List.append_assoc]
      rfl

theorem State.receive_requestFrame (kind q : Byte) {f : List Byte} {s : State} (linked : s.linked = true)
    (hunting : s.panel.receiver = .hunt) (short : f.length ≤ 246) :
    (requestFrame kind q f).foldl (fun x b => x.receiveByte b) s = s.panelFinished (.checked kind q f) := by
  have long := lengthByte_toNat short
  have rest := frameRest_length kind q f
  have measured : (s.setReceiver .length).receiveByte (lengthByte f)
      = (s.setReceiver .length).setReceiver (.body (f.length + 4) []) := by
    rw [State.receiveByte_length rfl (by omega) (by omega), long]
  rw [requestFrame_eq, List.foldl_cons, List.foldl_cons, State.receiveByte_sync hunting, measured,
    State.receive_body _ (s := (s.setReceiver .length).setReceiver (.body (f.length + 4) [])) linked rfl
      (List.ne_nil_of_length_pos (by omega)) (by simpa using rest),
    State.panelFinished_setReceiver (s := s.setReceiver .length) linked, State.panelFinished_setReceiver linked]
  exact congrArg (s.panelFinished ·) (readFrame_frameRest kind q short)

theorem decodeTransfer_requestFrame (kind q : Byte) {f : List Byte} (short : f.length ≤ 246) :
    decodeTransfer (requestFrame kind q f) = requestInstr .control kind q f := by
  have read : readTransfer (requestFrame kind q f) = .checked kind q f := readFrame_frameRest kind q short
  rw [requestFrame_eq] at read ⊢
  simp only [decodeTransfer, read, if_true]

/-- Settles O43: the receiver collects the body and finishes it, and the transfer reads back as its frame. -/
theorem framesAreTheirRequest : Obligations.FramesAreTheirRequest := by
  refine ⟨fun kind q f s linked hunting short => State.receive_requestFrame kind q linked hunting short,
    fun k q f short => ?_⟩
  rw [decodeTransfer_requestFrame _ q short, requestInstr, Kind.ofCode_code]

end Sys2Proof.Machine
end

section
/-!
Proofs. The requests that make, analyse, correct, queue and end a lot: `LotRequestsAct`.
-/
set_option Elab.async false

namespace Sys2Proof.Machine

/-! ### Where a lot stands -/

namespace LotRegistry

variable {g : LotRegistry} {i : LotNo} {c : Chan}

/-- Where the queues are in order, a lot of a queue has its place there. -/
theorem Ordered.position_of_mem (h : g.Ordered) (mem : i ∈ g.queues.get c) :
    g.position i = some (c, (g.queues.get c).idxOf i + 1) := by
  cases place : g.position i with
  | none => exact absurd mem ((position_eq_none_iff g i).mp place c)
  | some x =>
    obtain ⟨d, n⟩ := x
    obtain rfl := h.apart d c i (mem_of_position place) mem
    obtain ⟨e, -, found⟩ := List.exists_of_findSome?_eq_some place
    split at found
    · cases found; rfl
    · cases found

theorem Ordered.place_of_mem (h : g.Ordered) (mem : i ∈ g.queues.get c) :
    g.place i = (g.queues.get c).idxOf i + 1 := by
  unfold place
  rw [h.position_of_mem mem]

theorem Ordered.position_of_state (h : g.Ordered) {r : LotRecord} (found : g.lot i = some r)
    (queued : r.state ≠ .queued) (drawing : r.state ≠ .drawing) : g.position i = none :=
  (position_eq_none_iff g i).mpr fun c mem =>
    ((h.placed_iff found).mpr ⟨c, mem⟩).elim queued drawing

/-- The head of a queue draws. -/
theorem Ordered.head_drawing (h : g.Ordered) {r : LotRecord} {rest : List LotNo} (queue : g.queues.get c = i :: rest)
    (found : g.lot i = some r) : r.state = .drawing := by
  rw [h.state_eq (c := c) (queue ▸ List.mem_cons_self) found, head, queue]
  exact if_pos rfl

theorem stateCode_of_lot {r : LotRecord} (found : g.lot i = some r) : g.stateCode i = r.state.code := by
  unfold stateCode
  rw [found]

end LotRegistry

/-! ### Handles and records under writes -/

theorem State.setLot_handle (i j : LotNo) (r : LotRecord) (s : State) :
    (s.setLot i r).lrg.handle j = s.lrg.handle j := by
  unfold State.setLot LotRegistry.handle
  simp only [Tbl.get_modify]
  split
  next e => rw [e]
  next => rfl

theorem State.setOverdrawn_handle (c : Chan) (b : Bool) (i : LotNo) (s : State) :
    (s.setOverdrawn c b).lrg.handle i = s.lrg.handle i := by
  rw [State.setOverdrawn_lrg]
  rfl

theorem State.setLot_setLot (i : LotNo) (r x : LotRecord) (s : State) :
    (s.setLot i r).setLot i x = s.setLot i x := by
  simp [State.setLot, Tbl.modify]

theorem State.lotRejected_lrg (c : Chan) (s : State) : (s.lotRejected c).lrg = s.lrg := (Touches.lotRejected c s).lots

/-- Slot `i` of `t` holds the record `x` under the handle it has in `s`. -/
structure LotBecomes (i : LotNo) (x : LotRecord) (s t : State) : Prop where
  handle : t.lrg.handle i = s.lrg.handle i
  lot    : t.lrg.lot i = some x

namespace LotBecomes

variable {i : LotNo} {x : LotRecord} {s t : State}

theorem setLot (i : LotNo) (x : LotRecord) (s : State) : LotBecomes i x s (s.setLot i x) :=
  ⟨State.setLot_handle .., State.setLot_lot_self ..⟩

theorem after_setLot {u : State} {j : LotNo} {y : LotRecord} (h : LotBecomes i x (s.setLot j y) u) :
    LotBecomes i x s u := ⟨h.handle.trans (State.setLot_handle ..), h.lot⟩

theorem setLot_ne (h : LotBecomes i x s t) {j : LotNo} (ne : i ≠ j) (y : LotRecord) : LotBecomes i x s (t.setLot j y) :=
  ⟨(State.setLot_handle ..).trans h.handle, (State.setLot_lot_ne ne ..).trans h.lot⟩

theorem setQueue (h : LotBecomes i x s t) (c : Chan) (q : List LotNo) : LotBecomes i x s (t.setQueue c q) :=
  ⟨h.handle, h.lot⟩

theorem setOverdrawn (h : LotBecomes i x s t) (c : Chan) (b : Bool) : LotBecomes i x s (t.setOverdrawn c b) :=
  ⟨(State.setOverdrawn_handle ..).trans h.handle, (State.setOverdrawn_lot ..).trans h.lot⟩

theorem evaluateOverdrawn (h : LotBecomes i x s t) (c : Chan) : LotBecomes i x s (t.evaluateOverdrawn c) := by
  rcases State.evaluateOverdrawn_cases c t with e | e <;> rw [e]
  · exact h
  · exact h.setOverdrawn ..

theorem lotAnswer (h : LotBecomes i x s t) : t.lotAnswer i = s.lrg.handle i ++ u8 x.state.code := by
  unfold State.lotAnswer
  rw [h.handle, LotRegistry.stateCode_of_lot h.lot]

end LotBecomes

/-! ### The head of a queue leaves it (R30) -/

/-- The overdrawn mark cleared where the head has mass, as the statement writes it (R36). -/
def State.markCleared (c : Chan) (s : State) : State :=
  if (s.lrg.headLot c).any (fun r => decide (0 < r.remaining)) && s.lrg.overdrawn.get c then
    State.goes (.channel c .overdrawn) { s with lrg := { s.lrg with overdrawn := s.lrg.overdrawn.put c false } }
  else s

theorem State.evaluateOverdrawn_eq (c : Chan) (s : State) : s.evaluateOverdrawn c = s.markCleared c := by
  unfold State.evaluateOverdrawn State.markCleared State.setOverdrawn
  cases s.lrg.headLot c with
  | none => rfl
  | some r =>
    simp only [Option.any_some]
    by_cases mass : 0 < r.remaining
    · cases s.lrg.overdrawn.get c <;> simp [mass]
    · simp [mass]

/-- The head `i` leaves a queue with the record `x`, and the next lot draws. -/
def State.headLeaves (c : Chan) (i : LotNo) (x : LotRecord) (rest : List LotNo) (s : State) : State :=
  match rest with
  | [] => (s.setLot i x).setQueue c []
  | n :: _ =>
    match s.lrg.lot n with
    | some y => (((s.setLot i x).setLot n { y with state := .drawing }).setQueue c rest).markCleared c
    | none => s

/-- A channel that is not off trips by its lot (R27, R56). -/
def State.rejected (c : Chan) (s : State) : State :=
  if (s.chan c).state = .off then s else s.lotRejected c

theorem State.headLeaves_next {s : State} {n : LotNo} {y : LotRecord} (next : s.lrg.lot n = some y) (c : Chan)
    (i : LotNo) (x : LotRecord) (rest : List LotNo) : s.headLeaves c i x (n :: rest)
      = (((s.setLot i x).setLot n { y with state := .drawing }).setQueue c (n :: rest)).evaluateOverdrawn c := by
  rw [State.evaluateOverdrawn_eq]
  simp only [State.headLeaves, next]

section Head

variable {s : State} {c : Chan} {i : LotNo} {rest : List LotNo} (h : s.lrg.Ordered)
  (queue : s.lrg.queues.get c = i :: rest)
include h queue

/-- The lots behind the head are other lots, with records. -/
theorem LotRegistry.Ordered.next_lot {n : LotNo} (mem : n ∈ rest) : i ≠ n ∧ ∃ y, s.lrg.lot n = some y := by
  have once := h.once c
  rw [queue, List.nodup_cons] at once
  obtain ⟨y, found, -⟩ := h.queued c n (queue ▸ List.mem_cons_of_mem i mem)
  exact ⟨fun e => once.1 (e ▸ mem), y, found⟩

theorem State.succession_eq {r : LotRecord} (found : s.lrg.lot i = some r) (x : LotState) :
    s.succession c x = s.headLeaves c i { r with state := x } rest := by
  unfold State.succession
  rw [queue]
  cases rest with
  | nil =>
    have empty : (((s.setLot i { r with state := x }).setQueue c []).lrg.headLot c) = none := by
      simp [LotRegistry.headLot, LotRegistry.head]
    simp only [State.setLotState_of_lot found, State.headLeaves, State.evaluateOverdrawn, empty]
  | cons n rest =>
    obtain ⟨ne, y, next⟩ := h.next_lot queue List.mem_cons_self
    have kept : (s.setLot i { r with state := x }).lrg.lot n = some y := (State.setLot_lot_ne ne.symm ..).trans next
    rw [State.headLeaves_next next]
    simp only [State.setLotState_of_lot found, State.setLotState_of_lot kept]

/-- What stood in the head's slot does not matter to its leaving. -/
theorem State.headLeaves_setLot (r x : LotRecord) :
    (s.setLot i r).headLeaves c i x rest = s.headLeaves c i x rest := by
  cases rest with
  | nil => exact congrArg (State.setQueue c []) (State.setLot_setLot ..)
  | cons n rest =>
    obtain ⟨ne, y, next⟩ := h.next_lot queue List.mem_cons_self
    rw [State.headLeaves_next next, State.headLeaves_next ((State.setLot_lot_ne ne.symm ..).trans next),
      State.setLot_setLot]

theorem LotBecomes.headLeaves (x : LotRecord) : LotBecomes i x s (s.headLeaves c i x rest) := by
  cases rest with
  | nil => exact (LotBecomes.setLot i x s).setQueue c []
  | cons n rest =>
    obtain ⟨ne, y, next⟩ := h.next_lot queue List.mem_cons_self
    rw [State.headLeaves_next next]
    exact (((LotBecomes.setLot i x s).setLot_ne ne _).setQueue c _).evaluateOverdrawn c

end Head

theorem LotBecomes.rejected {i : LotNo} {x : LotRecord} {s t : State} (h : LotBecomes i x s t) (c : Chan) :
    LotBecomes i x s (t.rejected c) := by
  unfold State.rejected
  split
  · exact h
  · exact ⟨by rw [State.lotRejected_lrg]; exact h.handle, by rw [State.lotRejected_lrg]; exact h.lot⟩

/-! ### Quarantine (R27) -/

section Quarantine

variable {s : State} {c : Chan} {i : LotNo} {r : LotRecord} {rest : List LotNo} (h : s.lrg.Ordered)
  (found : s.lrg.lot i = some r)
include h found

theorem State.quarantine_unplaced (queued : r.state ≠ .queued) (drawing : r.state ≠ .drawing) :
    s.quarantine i = s.setLot i { r with state := .quarantined } := by
  unfold State.quarantine
  rw [found, h.position_of_state found queued drawing]
  exact State.setLotState_of_lot found _

theorem State.quarantine_queued (mem : i ∈ s.lrg.queues.get c) (queued : r.state = .queued) :
    s.quarantine i
      = (s.setLot i { r with state := .quarantined }).setQueue c ((s.lrg.queues.get c).erase i) := by
  unfold State.quarantine
  rw [found, h.position_of_mem mem, ← State.setLotState_of_lot found]
  exact if_neg (by simp [queued])

theorem State.quarantine_head (queue : s.lrg.queues.get c = i :: rest) :
    s.quarantine i = (s.headLeaves c i { r with state := .quarantined } rest).rejected c := by
  unfold State.quarantine
  rw [found, h.position_of_mem (c := c) (queue ▸ List.mem_cons_self), ← State.succession_eq h queue found]
  exact if_pos (h.head_drawing queue found)

end Quarantine

/-! ### An analysis and a mass written (R23 to R26) -/

theorem LotRecord.analysed_of_ne {r : LotRecord} (ne : r.state ≠ .registered) (a : Analysis) :
    r.analysed a = { r with analysis := some a } := by
  simp [LotRecord.analysed, ne]

theorem LotRecord.analysed_unplaced {r : LotRecord} (state : r.state = .registered ∨ r.state = .analysed)
    (a : Analysis) : r.analysed a = { r with analysis := some a, state := .analysed } := by
  rcases state with e | e <;> simp [LotRecord.analysed, e]

section Written

variable {s : State} {c : Chan} {i : LotNo} {r : LotRecord} {rest : List LotNo} {a : Analysis} (h : s.lrg.Ordered)
  (found : s.lrg.lot i = some r)
include h found

theorem LotRegistry.Ordered.not_registered (mem : i ∈ s.lrg.queues.get c) : r.state ≠ .registered := fun e => by
  have := (h.placed_iff found).mpr ⟨c, mem⟩
  simp [e] at this

theorem State.analyse_unplaced (state : r.state = .registered ∨ r.state = .analysed) :
    s.analyse i r a = s.setLot i { r with analysis := some a, state := .analysed } := by
  unfold State.analyse
  rw [h.position_of_state found (by rcases state with e | e <;> simp [e]) (by rcases state with e | e <;> simp [e]),
    LotRecord.analysed_unplaced state]

theorem State.analyse_within (mem : i ∈ s.lrg.queues.get c) (within : a.chlorine ≤ (s.chan c).config.clLimit) :
    s.analyse i r a = s.setLot i { r with analysis := some a } := by
  unfold State.analyse
  rw [h.position_of_mem mem, LotRecord.analysed_of_ne (h.not_registered found mem)]
  exact if_neg (Nat.not_lt.mpr within)

theorem State.analyse_above (mem : i ∈ s.lrg.queues.get c) (above : (s.chan c).config.clLimit < a.chlorine) :
    s.analyse i r a = (s.setLot i { r with analysis := some a }).quarantine i := by
  unfold State.analyse
  rw [h.position_of_mem mem, LotRecord.analysed_of_ne (h.not_registered found mem)]
  exact if_pos above

theorem LotRegistry.Ordered.setAnalysis : (s.setLot i { r with analysis := some a }).lrg.Ordered :=
  h.setLot found (fun _ => rfl) (.inl rfl)

theorem State.analyse_above_queued (mem : i ∈ s.lrg.queues.get c) (queued : r.state = .queued)
    (above : (s.chan c).config.clLimit < a.chlorine) :
    s.analyse i r a = (s.setLot i { r with analysis := some a, state := .quarantined }).setQueue c
      ((s.lrg.queues.get c).erase i) := by
  rw [State.analyse_above h found mem above,
    State.quarantine_queued (h.setAnalysis found) (State.setLot_lot_self ..) mem queued, State.setLot_setLot]
  rfl

theorem State.analyse_above_head (queue : s.lrg.queues.get c = i :: rest)
    (above : (s.chan c).config.clLimit < a.chlorine) :
    s.analyse i r a
      = (s.headLeaves c i { r with analysis := some a, state := .quarantined } rest).rejected c := by
  rw [State.analyse_above h found (queue ▸ List.mem_cons_self) above,
    State.quarantine_head (h.setAnalysis found) (State.setLot_lot_self ..) queue, State.headLeaves_setLot h queue]

omit h found in
theorem State.amend_standing (n : Nat) (drawing : r.state ≠ .drawing) :
    s.amend i r n = s.setLot i { r with remaining := n } := by
  unfold State.amend
  split
  next e _ => exact absurd e drawing
  next => rfl

/-- A mass written of the head: it clears the mark, or the head is exhausted, or it stays (R26). -/
theorem State.amend_drawing (queue : s.lrg.queues.get c = i :: rest) (n : Nat) :
    s.amend i r n = if 0 < n then (s.setLot i { r with remaining := n }).setOverdrawn c false
      else if 1 < (i :: rest).length then (s.setLot i { r with remaining := n }).succession c .exhausted
      else s.setLot i { r with remaining := n } := by
  have place := h.position_of_mem (c := c) (queue ▸ List.mem_cons_self)
  unfold State.amend
  split
  next d m _ here =>
    rw [place] at here
    cases here
    rw [queue]
  next other => exact (other _ _ (h.head_drawing queue found) place).elim

theorem State.amend_head (queue : s.lrg.queues.get c = i :: rest) {n : Nat} (stays : n ≠ 0 ∨ rest = []) :
    s.amend i r n = (s.setLot i { r with remaining := n }).evaluateOverdrawn c := by
  have head : (s.setLot i { r with remaining := n }).lrg.headLot c = some { r with remaining := n } := by
    rw [LotRegistry.headLot, LotRegistry.head, State.setLot_queues, queue]
    exact State.setLot_lot_self ..
  unfold State.evaluateOverdrawn
  rw [State.amend_drawing h found queue, head]
  by_cases mass : 0 < n
  · simp only [if_pos mass]
  · obtain rfl : rest = [] := stays.resolve_left (by omega)
    simp only [if_neg mass, List.length_singleton, Nat.lt_irrefl, if_false]

theorem State.amend_head_empty (queue : s.lrg.queues.get c = i :: rest) (more : rest ≠ []) :
    s.amend i r 0 = s.headLeaves c i { r with remaining := 0, state := .exhausted } rest := by
  have written : (s.setLot i { r with remaining := 0 }).lrg.Ordered := h.setLot found id (.inl rfl)
  have long : 1 < (i :: rest).length := by simpa using List.length_pos_iff.mpr more
  rw [State.amend_drawing h found queue, if_neg (Nat.lt_irrefl 0), if_pos long,
    State.succession_eq written queue (State.setLot_lot_self ..), State.headLeaves_setLot h queue]

omit h in
theorem State.enqueue_empty (queue : s.lrg.queues.get c = []) :
    s.enqueue c i = ((s.setLot i { r with state := .drawing }).setQueue c [i]).evaluateOverdrawn c := by
  simp only [State.enqueue, queue, State.newHead, State.setLotState_of_lot found]

omit h in
theorem State.enqueue_lone {hd : LotNo} {x : LotRecord} (ne : i ≠ hd) (queue : s.lrg.queues.get c = [hd])
    (head : s.lrg.lot hd = some x) (empty : x.remaining = 0) :
    s.enqueue c i = (((s.setLot hd { x with state := .exhausted }).setLot i { r with state := .drawing }).setQueue c
      [i]).evaluateOverdrawn c := by
  have kept : (s.setLot hd { x with state := .exhausted }).lrg.lot i = some r :=
    (State.setLot_lot_ne ne ..).trans found
  have zero : (x.remaining == 0) = true := beq_iff_eq.mpr empty
  simp only [State.enqueue, queue, State.newHead, head, Option.any_some, zero, if_true,
    State.setLotState_of_lot head, State.setLotState_of_lot kept]

omit h in
theorem State.enqueue_tail {hd : LotNo} {x : LotRecord} (queue : s.lrg.queues.get c = hd :: rest)
    (head : s.lrg.lot hd = some x) (stays : x.remaining ≠ 0 ∨ rest ≠ []) :
    s.enqueue c i = (s.setLot i { r with state := .queued }).setQueue c (hd :: rest ++ [i]) := by
  cases rest with
  | nil =>
    have mass : x.remaining ≠ 0 := stays.resolve_right (absurd rfl)
    simp [State.enqueue, queue, State.setLotState_of_lot found, head, mass]
  | cons n rest => simp only [State.enqueue, queue, State.setLotState_of_lot found]

end Written

/-! ### The owners, where their checks pass -/

section Owners

variable {p : Port} {f : List Byte} {s : State} {i : LotNo} {r : LotRecord} {c : Chan} {rest : List LotNo}

theorem ownerRegisterLot_of {k : FuelKind} (kind : kind? (field f 4 1) = some k) (tag : field f 0 4 ≠ 0)
    (some : 1 ≤ field f 5 4) (most : field f 5 4 ≤ Config.lotMassMax)
    (new : s.lrg.findTag (field f 0 4) = none) (free : s.lrg.freeSlot = .some i) :
    ownerRegisterLot p f s = ⟨.ok, u8 i.val ++ u8 (nextGeneration (s.lrg.lots.get i).generation),
      s.register i (.new (field f 0 4) k (field f 5 4))⟩ := by
  have range : ¬(field f 0 4 = 0 ∨ field f 5 4 = 0 ∨ Config.lotMassMax < field f 5 4) := by omega
  have generation : ((s.register i (.new (field f 0 4) k (field f 5 4))).lrg.lots.get i).generation
      = nextGeneration (s.lrg.lots.get i).generation := by
    simp [State.register, LotRegistry.occupy]
  simp only [ownerRegisterLot, kind, if_neg range, new, free, taken, LotRegistry.handle, handleBytes, generation]
  rfl

variable (ordered : s.lrg.Ordered) (named : s.lrg.byReference f = .ok i) (found : s.lrg.lot i = some r)

section
include named found

theorem ownerSetAnalysis_of {a : Analysis} {x : LotRecord} {t : State} (exhausted : r.state ≠ .exhausted)
    (quarantined : r.state ≠ .quarantined)
    (accepted : analysisOf (field f 5 2) (field f 7 2) (field f 9 2) (field f 11 2) = some a)
    (becomes : s.analyse i r a = t) (shown : LotBecomes i x s t) :
    ownerSetAnalysis p f s = ⟨.ok, s.lrg.handle i ++ u16 a.ncvAr ++ u8 x.state.code, t⟩ := by
  rw [ownerSetAnalysis, withLot_named named found, ← shown.handle, ← LotRegistry.stateCode_of_lot shown.lot, ← becomes]
  simp only [accepted]
  cases state : r.state with
  | exhausted => exact absurd state exhausted
  | quarantined => exact absurd state quarantined
  | registered => rfl
  | analysed => rfl
  | queued => rfl
  | drawing => rfl

theorem ownerAmendMass_of {x : LotRecord} {t : State} (exhausted : r.state ≠ .exhausted)
    (most : field f 5 4 ≤ Config.lotMassMax) (becomes : s.amend i r (field f 5 4) = t) (shown : LotBecomes i x s t) :
    ownerAmendMass p f s = ⟨.ok, s.lrg.handle i ++ u8 x.state.code, t⟩ := by
  rw [ownerAmendMass, withLot_named named found, ← shown.lotAnswer, ← becomes, if_neg exhausted,
    if_neg (Nat.not_lt.mpr most)]
  rfl

theorem ownerQuarantineLot_of {x : LotRecord} {t : State}
    (state : r.state = .analysed ∨ r.state = .queued ∨ r.state = .drawing) (becomes : s.quarantine i = t)
    (shown : LotBecomes i x s t) : ownerQuarantineLot p f s = ⟨.ok, s.lrg.handle i ++ u8 x.state.code, t⟩ := by
  rw [ownerQuarantineLot, withLot_named named found, ← shown.lotAnswer, ← becomes]
  rcases state with e | e | e <;> rw [e] <;> rfl

theorem ownerRetireLot_of (queued : r.state ≠ .queued) (drawing : r.state ≠ .drawing) :
    ownerRetireLot p f s = ⟨.ok, [], s.freeLot i⟩ := by
  rw [ownerRetireLot, withLot_named named found]
  cases state : r.state with
  | queued => exact absurd state queued
  | drawing => exact absurd state drawing
  | registered => rfl
  | analysed => rfl
  | exhausted => rfl
  | quarantined => rfl

/-- ENQUEUE_LOT: the place answered is the one in the queue that results. -/
theorem ownerEnqueueLot_of {a : Analysis} {x : LotRecord} {t : State} {n : Nat} (ordered : s.lrg.Ordered)
    (channel : chan? (field f 5 1) = some c) (state : r.state = .analysed) (analysis : r.analysis = some a)
    (kind : hasKind (s.chan c).config.kinds r.kind = true) (within : a.chlorine ≤ (s.chan c).config.clLimit)
    (room : (s.lrg.queues.get c).length < 6) (becomes : s.enqueue c i = t) (shown : LotBecomes i x s t)
    (mem : i ∈ t.lrg.queues.get c) (place : (t.lrg.queues.get c).idxOf i + 1 = n) :
    ownerEnqueueLot p f s = ⟨.ok, s.lrg.handle i ++ u8 x.state.code ++ u16 n, t⟩ := by
  subst becomes
  have after := ordered.enqueue (c := c) found (by rw [analysis]; rfl) state room
  rw [ownerEnqueueLot, withLot_named named found, ← shown.lotAnswer, ← place, ← after.place_of_mem mem]
  simp only [channel, state, analysis, kind, if_neg (Nat.not_lt.mpr within), Bool.true_eq_false,
    if_false]
  exact if_neg (Nat.not_le.mpr room)

end

include ordered named found

theorem ownerDequeueLot_queued (mem : i ∈ s.lrg.queues.get c) (queued : r.state = .queued) :
    ownerDequeueLot p f s = ⟨.ok, s.lrg.handle i ++ u8 LotState.analysed.code,
      (s.setLot i { r with state := .analysed }).setQueue c ((s.lrg.queues.get c).erase i)⟩ := by
  have shown := (LotBecomes.setLot i { r with state := .analysed } s).setQueue c ((s.lrg.queues.get c).erase i)
  rw [ownerDequeueLot, withLot_named named found, queued, ordered.position_of_mem mem, ← shown.lotAnswer,
    ← State.setLotState_of_lot found]
  rfl

theorem ownerDequeueLot_head (queue : s.lrg.queues.get c = i :: rest)
    (stands : (s.chan c).state = .off ∨ (s.chan c).state = .tripped) :
    ownerDequeueLot p f s = ⟨.ok, s.lrg.handle i ++ u8 LotState.analysed.code,
      s.headLeaves c i { r with state := .analysed } rest⟩ := by
  have shown := LotBecomes.headLeaves ordered queue { r with state := .analysed }
  have idle : ¬(s.chan c).state.active = true := by rcases stands with e | e <;> rw [e] <;> exact nofun
  rw [ownerDequeueLot, withLot_named named found, ordered.head_drawing queue found,
    ordered.position_of_mem (c := c) (queue ▸ List.mem_cons_self), ← shown.lotAnswer,
    ← State.succession_eq ordered queue found]
  exact if_neg idle

end Owners

/-- Where a lot joins a queue: its place there, head or tail. -/
theorem State.newHead_queue (c : Chan) (i : LotNo) (s : State) :
    ((s.setQueue c [i]).evaluateOverdrawn c).lrg.queues.get c = [i] := by
  rw [State.evaluateOverdrawn_queues, State.setQueue_queue_self]

/-- Settles O9: each request's owner answers with the record the lot then has, over the state its rule writes. -/
theorem lotRequestsAct : Obligations.LotRequestsAct := by
  unfold Obligations.LotRequestsAct
  intro put requeue cleared leave rejected
  have putIs : put = fun i r u => u.setLot i r := rfl
  have requeueIs : requeue = fun c l u => u.setQueue c l := rfl
  have clearedIs : cleared = fun c u => u.evaluateOverdrawn c :=
    funext₂ fun c u => (State.evaluateOverdrawn_eq c u).symm
  have leaveIs : leave = fun c i r rest u => u.headLeaves c i r rest := by
    funext c i r rest u
    cases rest <;> rfl
  have rejectedIs : rejected = fun c u => u.rejected c := rfl
  clear_value put requeue cleared leave rejected
  subst putIs requeueIs clearedIs leaveIs rejectedIs
  refine ⟨fun p q f s k i ready kind tag some most => ?_, fun p q f s i r ordered named found => ?_⟩
  · rw [← State.taking_lrg p s]
    exact fun new free => exec_of_owner ready q (ownerRegisterLot_of (p := p) kind tag some most new free)
  revert ordered named found
  rw [← State.taking_lrg p s]
  intro ordered named found answer
  have chans := State.taking_chan p
  have live {c : Chan} (mem : i ∈ (s.taking p).lrg.queues.get c) :
      r.state ≠ .exhausted ∧ r.state ≠ .quarantined := by
    rcases (ordered.placed_iff found).mpr ⟨c, mem⟩ with e | e <;> rw [e] <;> exact ⟨nofun, nofun⟩
  have headIn {c : Chan} {rest : List LotNo} (queue : (s.taking p).lrg.queues.get c = i :: rest) :
      i ∈ (s.taking p).lrg.queues.get c := queue ▸ List.mem_cons_self
  refine ⟨fun a ready accepted => ⟨fun state => ?_, fun c mem within => ?_, fun c mem queued above => ?_,
      fun c rest queue above => ?_⟩,
    fun ready most => ⟨fun exhausted drawing => ?_, fun c rest queue => ⟨fun stays => ?_, fun zero more => ?_⟩⟩,
    fun ready => ⟨fun state => ?_, fun c mem queued => ?_, fun c rest queue => ?_⟩,
    fun ready queued drawing => exec_of_owner ready q (ownerRetireLot_of (p := p) named found queued drawing),
    fun c a ready channel state analysis kind within room => ⟨fun queue => ?_, fun hd x queue head empty => ?_,
      fun hd x rest queue head stays => ?_⟩,
    fun ready => ⟨fun c mem queued => ?_, fun c rest queue stands => ?_⟩⟩
  · exact exec_of_owner ready q (ownerSetAnalysis_of (p := p) named found (by rcases state with e | e <;> simp [e])
      (by rcases state with e | e <;> simp [e]) accepted (State.analyse_unplaced ordered found state)
      (LotBecomes.setLot ..))
  · exact exec_of_owner ready q (ownerSetAnalysis_of (p := p) (x := { r with analysis := some a }) named found
      (live mem).1 (live mem).2 accepted (State.analyse_within ordered found mem (by rwa [chans]))
      (LotBecomes.setLot ..))
  · exact exec_of_owner ready q (ownerSetAnalysis_of (p := p) named found (live mem).1 (live mem).2 accepted
      (State.analyse_above_queued ordered found mem queued (by rwa [chans])) ((LotBecomes.setLot ..).setQueue ..))
  · have ⟨spent, set⟩ := live (headIn queue)
    exact exec_of_owner ready q (ownerSetAnalysis_of (p := p) named found spent set accepted
      (State.analyse_above_head ordered found queue (by rwa [chans]))
      ((LotBecomes.headLeaves ordered queue _).rejected c))
  · exact exec_of_owner ready q (ownerAmendMass_of (p := p) (x := { r with remaining := field f 5 4 }) named found
      exhausted most (State.amend_standing _ drawing) (LotBecomes.setLot ..))
  · have drawing := ordered.head_drawing queue found
    have shown := (LotBecomes.setLot i { r with remaining := field f 5 4 } (s.taking p)).evaluateOverdrawn c
    refine exec_of_owner ready q ((ownerAmendMass_of (p := p) named found (live (headIn queue)).1 most
      (State.amend_head ordered found queue stays) shown).trans ?_)
    simp only [drawing]
    rfl
  · refine exec_of_owner ready q (ownerAmendMass_of (p := p) named found (live (headIn queue)).1 most ?_
      (LotBecomes.headLeaves ordered queue { r with remaining := 0, state := .exhausted }))
    rw [zero]
    exact State.amend_head_empty ordered found queue more
  · exact exec_of_owner ready q (ownerQuarantineLot_of (p := p) named found (.inl state)
      (State.quarantine_unplaced ordered found (by simp [state]) (by simp [state])) (LotBecomes.setLot ..))
  · exact exec_of_owner ready q (ownerQuarantineLot_of (p := p) named found (.inr (.inl queued))
      (State.quarantine_queued ordered found mem queued) ((LotBecomes.setLot ..).setQueue ..))
  · exact exec_of_owner ready q (ownerQuarantineLot_of (p := p) named found (.inr (.inr (ordered.head_drawing queue found)))
      (State.quarantine_head ordered found queue) ((LotBecomes.headLeaves ordered queue _).rejected c))
  · exact exec_of_owner ready q (ownerEnqueueLot_of (p := p) named found ordered channel state analysis (by rwa [chans])
      (by rwa [chans]) room (State.enqueue_empty found queue)
      (((LotBecomes.setLot ..).setQueue ..).evaluateOverdrawn c) (by rw [State.newHead_queue]; simp)
      (by rw [State.newHead_queue]; simp))
  · have ne : i ≠ hd := fun e => by
      have := ordered.head_drawing queue (e ▸ found)
      simp [state] at this
    exact exec_of_owner ready q (ownerEnqueueLot_of (p := p) named found ordered channel state analysis (by rwa [chans])
      (by rwa [chans]) room (State.enqueue_lone found ne queue head empty)
      (((LotBecomes.setLot ..).after_setLot.setQueue ..).evaluateOverdrawn c) (by rw [State.newHead_queue]; simp)
      (by rw [State.newHead_queue]; simp))
  · have out : i ∉ hd :: rest := fun mem => by
      have := (ordered.placed_iff found).mpr ⟨c, queue ▸ mem⟩
      simp [state] at this
    refine exec_of_owner ready q (ownerEnqueueLot_of (p := p) named found ordered channel state analysis (by rwa [chans])
      (by rwa [chans]) room (State.enqueue_tail found queue head stays) ((LotBecomes.setLot ..).setQueue ..) ?_ ?_)
    · rw [State.setQueue_queue_self]
      simp
    · rw [State.setQueue_queue_self, List.idxOf_append_of_notMem out]
      simp
  · exact exec_of_owner ready q (ownerDequeueLot_queued (p := p) ordered named found mem queued)
  · exact exec_of_owner ready q (ownerDequeueLot_head (p := p) ordered named found queue
      (by simpa only [chans] using stands))

end Sys2Proof.Machine
end

section
/-!
Proofs. What a debit takes of each lot, and the parts it answers: `DebitPartsAddUp`.
-/
set_option Elab.async false

namespace Sys2Proof.Machine

/-! ### Slots under writes -/

theorem State.setLot_slot (i j : LotNo) (r : LotRecord) (s : State) :
    (s.setLot i r).lrg.lots.get j
      = if j = i then { s.lrg.lots.get i with record := some r } else s.lrg.lots.get j := Tbl.get_modify ..

theorem LotRegistry.lot_of_slot {g g' : LotRegistry} {i : LotNo} (same : g'.lots.get i = g.lots.get i) :
    g'.lot i = g.lot i := congrArg LotSlot.record same

theorem State.setOverdrawn_lots (c : Chan) (b : Bool) (s : State) : (s.setOverdrawn c b).lrg.lots = s.lrg.lots := by
  rw [State.setOverdrawn_lrg]

theorem State.setOverdrawn_mark (c d : Chan) (b : Bool) (s : State) :
    (s.setOverdrawn c b).lrg.overdrawn.get d = if d = c then b else s.lrg.overdrawn.get d := by
  rw [State.setOverdrawn_lrg]
  exact Tbl.get_put ..

theorem State.evaluateOverdrawn_lots (c : Chan) (s : State) : (s.evaluateOverdrawn c).lrg.lots = s.lrg.lots := by
  rcases State.evaluateOverdrawn_cases c s with e | e <;> rw [e]
  exact State.setOverdrawn_lots ..

theorem State.evaluateOverdrawn_mark (c d : Chan) (s : State) : (s.evaluateOverdrawn c).lrg.overdrawn.get d
    = if d = c ∧ (s.lrg.headLot c).any (fun r => decide (0 < r.remaining)) then false
      else s.lrg.overdrawn.get d := by
  unfold State.evaluateOverdrawn
  cases s.lrg.headLot c with
  | none => simp
  | some r =>
    by_cases mass : 0 < r.remaining
    · simp only [if_pos mass, State.setOverdrawn_mark, Option.any_some, decide_eq_true mass, and_true]
    · simp [mass]

/-! ### The overdrawn mark and its condition -/

/-- From `s` to `t` the mark of a channel and its condition stand, or the condition follows the mark (R36, R62). -/
def MarkFollows (c : Chan) (s t : State) : Prop :=
  (t.lrg.overdrawn.get c = s.lrg.overdrawn.get c
    ∧ t.alt.isPresent (.channel c .overdrawn) = s.alt.isPresent (.channel c .overdrawn))
  ∨ t.alt.isPresent (.channel c .overdrawn) = t.lrg.overdrawn.get c

namespace MarkFollows

variable {c : Chan} {s t u : State}

theorem refl (c : Chan) (s : State) : MarkFollows c s s := .inl ⟨rfl, rfl⟩

theorem trans (h : MarkFollows c s t) (k : MarkFollows c t u) : MarkFollows c s u := by
  rcases k with ⟨mark, present⟩ | follows
  · rcases h with ⟨mark', present'⟩ | follows'
    · exact .inl ⟨mark.trans mark', present.trans present'⟩
    · exact .inr (present.trans (follows'.trans mark.symm))
  · exact .inr follows

theorem setOverdrawn (c : Chan) (b : Bool) (s : State) : MarkFollows c s (s.setOverdrawn c b) := by
  by_cases same : s.lrg.overdrawn.get c = b
  · have unchanged : s.setOverdrawn c b = s := if_pos same
    rw [unchanged]
    exact refl c s
  · refine .inr ?_
    rw [State.setOverdrawn_mark, if_pos rfl]
    unfold State.setOverdrawn
    rw [if_neg same]
    cases b with
    | true => exact State.comes_present (id := .channel c .overdrawn) nofun ..
    | false => exact State.goes_present (id := .channel c .overdrawn) nofun ..

theorem evaluateOverdrawn (c : Chan) (s : State) : MarkFollows c s (s.evaluateOverdrawn c) := by
  rcases State.evaluateOverdrawn_cases c s with e | e <;> rw [e]
  · exact refl c s
  · exact setOverdrawn ..

theorem setLotState (c : Chan) (i : LotNo) (x : LotState) (s : State) : MarkFollows c s (s.setLotState i x) := by
  unfold State.setLotState
  split
  · exact .inl ⟨rfl, rfl⟩
  · exact refl c s

theorem succession (c : Chan) (x : LotState) (s : State) : MarkFollows c s (s.succession c x) := by
  have queue (q : List LotNo) (u : State) : MarkFollows c u (u.setQueue c q) := .inl ⟨rfl, rfl⟩
  unfold State.succession
  split
  · exact refl c s
  · exact ((setLotState ..).trans (queue ..)).trans (evaluateOverdrawn ..)
  · exact (((setLotState ..).trans (setLotState ..)).trans (queue ..)).trans (evaluateOverdrawn ..)

end MarkFollows

/-! ### A lot spent: charged with all it has, exhausted and succeeded (R34) -/

/-- The head of a queue gives all its mass and leaves the queue exhausted. -/
def State.spend (c : Chan) (i : LotNo) (r : LotRecord) (s : State) : State :=
  (s.setLot i (r.charged r.remaining)).succession c .exhausted

/-- The mass that the lots of a list have. -/
def LotRegistry.mass (g : LotRegistry) (l : List LotNo) : Nat :=
  (l.map fun h => ((g.lot h).map (·.remaining)).getD 0).sum

namespace LotRegistry

variable {g g' : LotRegistry} {i : LotNo} {r : LotRecord} {l : List LotNo}

@[simp] theorem mass_nil (g : LotRegistry) : g.mass [] = 0 := rfl

theorem mass_cons (found : g.lot i = some r) (l : List LotNo) : g.mass (i :: l) = r.remaining + g.mass l := by
  simp [mass, found]

theorem mass_congr (same : ∀ i ∈ l, (g'.lot i).map (·.remaining) = (g.lot i).map (·.remaining)) :
    g'.mass l = g.mass l := by
  unfold mass
  exact congrArg List.sum (List.map_congr_left fun i mem => by rw [same i mem])

end LotRegistry

section Spend

variable {s : State} {c : Chan} {i : LotNo} {r : LotRecord} {rest : List LotNo} (h : s.lrg.Ordered)
  (queue : s.lrg.queues.get c = i :: rest) (found : s.lrg.lot i = some r)
include h queue found

omit queue in
theorem LotRegistry.Ordered.spend : (s.spend c i r).lrg.Ordered := by
  have written : (s.setLot i (r.charged r.remaining)).lrg.Ordered := h.setLot found id (.inl rfl)
  exact written.succession c ⟨nofun, nofun⟩

theorem State.spend_eq : s.spend c i r
    = s.headLeaves c i { r.charged r.remaining with state := .exhausted } rest := by
  have written : (s.setLot i (r.charged r.remaining)).lrg.Ordered := h.setLot found id (.inl rfl)
  unfold State.spend
  rw [State.succession_eq written queue (State.setLot_lot_self ..), State.headLeaves_setLot h queue]

omit h found in
theorem State.spend_queue (d : Chan) :
    (s.spend c i r).lrg.queues.get d = if d = c then rest else s.lrg.queues.get d := by
  unfold State.spend
  rw [State.succession_queue, State.setLot_queues, queue]
  rfl

/-- The head is exhausted, and the next lot draws. -/
theorem State.spend_slot (j : LotNo) : (s.spend c i r).lrg.lots.get j
    = if j = i then { s.lrg.lots.get i with record := some { r.charged r.remaining with state := .exhausted } }
      else if rest.head? = some j then
        { s.lrg.lots.get j with record := (s.lrg.lot j).map fun y => { y with state := .drawing } }
      else s.lrg.lots.get j := by
  rw [State.spend_eq h queue found]
  cases rest with
  | nil =>
    show ((s.setLot i _).setQueue c []).lrg.lots.get j = _
    exact State.setLot_slot ..
  | cons n rest =>
    obtain ⟨ne, y, next⟩ := h.next_lot queue List.mem_cons_self
    rw [State.headLeaves_next next, State.evaluateOverdrawn_lots]
    show (((s.setLot i _).setLot n _)).lrg.lots.get j = _
    rw [State.setLot_slot, List.head?_cons]
    by_cases e : j = n
    · subst e
      rw [if_pos rfl, if_neg ne.symm, if_pos rfl, State.setLot_slot, if_neg ne.symm, next]
      rfl
    · rw [if_neg e, State.setLot_slot, if_neg (fun f => e (Option.some.inj f).symm)]

theorem State.spend_slot_self : (s.spend c i r).lrg.lots.get i
    = { s.lrg.lots.get i with record := some { r.charged r.remaining with state := .exhausted } } :=
  (State.spend_slot h queue found i).trans (if_pos rfl)

theorem State.spend_slot_outside {j : LotNo} (out : j ∉ i :: rest) :
    (s.spend c i r).lrg.lots.get j = s.lrg.lots.get j := by
  have notHead : j ≠ i := fun e => out (List.mem_cons.mpr (.inl e))
  have notNext : rest.head? ≠ some j := fun e => out (List.mem_cons_of_mem i (List.mem_of_mem_head? e))
  rw [State.spend_slot h queue found, if_neg notHead, if_neg notNext]

/-- A lot behind the head keeps its record but for its state. -/
theorem State.spend_behind {j : LotNo} {y : LotRecord} (mem : j ∈ rest) (lot : s.lrg.lot j = some y) :
    ∃ x : LotState, (s.spend c i r).lrg.lots.get j = { s.lrg.lots.get j with record := some { y with state := x } }
      ∧ (s.spend c i r).lrg.lot j = some { y with state := x } := by
  have ne : j ≠ i := (h.next_lot queue mem).1.symm
  have slot := State.spend_slot h queue found j
  rw [if_neg ne, lot] at slot
  split at slot
  · exact ⟨.drawing, slot, congrArg LotSlot.record slot⟩
  · have same : s.lrg.lots.get j = { s.lrg.lots.get j with record := some { y with state := y.state } } :=
      congrArg (fun x => { s.lrg.lots.get j with record := x }) lot
    exact ⟨y.state, slot.trans same, (LotRegistry.lot_of_slot slot).trans lot⟩

theorem State.spend_mass {l : List LotNo} (behind : ∀ j ∈ l, j ∈ rest) :
    (s.spend c i r).lrg.mass l = s.lrg.mass l := by
  refine LotRegistry.mass_congr fun j mem => ?_
  obtain ⟨-, y, lot⟩ := h.next_lot queue (behind j mem)
  obtain ⟨x, -, lot'⟩ := State.spend_behind h queue found (behind j mem) lot
  rw [lot, lot']
  rfl

/-- The mark is cleared where the lot that takes over has mass (R36). -/
theorem State.spend_mark (d : Chan) : (s.spend c i r).lrg.overdrawn.get d
    = if d = c ∧ 0 < s.lrg.mass (rest.take 1) then false else s.lrg.overdrawn.get d := by
  rw [State.spend_eq h queue found]
  cases rest with
  | nil =>
    rw [List.take_nil, LotRegistry.mass_nil, if_neg (fun no => Nat.lt_irrefl 0 no.2)]
    rfl
  | cons n rest =>
    obtain ⟨ne, y, next⟩ := h.next_lot queue List.mem_cons_self
    have head (u : State) : (((u.setLot n { y with state := .drawing }).setQueue c (n :: rest)).lrg.headLot c)
        = some { y with state := .drawing } := by
      simp [LotRegistry.headLot, LotRegistry.head]
    rw [State.headLeaves_next next, State.evaluateOverdrawn_mark, head, List.take_succ_cons, List.take_zero,
      LotRegistry.mass_cons next]
    simp only [Option.any_some, decide_eq_true_eq, LotRegistry.mass_nil, Nat.add_zero]
    rfl

end Spend

/-! ### The cases of a debit -/

section Charge

variable {c : Chan} {s : State} {i n : LotNo} {r : LotRecord} {k : Nat} {rest : List LotNo}

theorem State.charge_within (found : s.lrg.lot i = some r) (within : k ≤ r.remaining) :
    State.charge c (i :: rest) k s = (lotPart r k, s.setLot i (r.charged k)) := by
  simp only [State.charge, found, if_pos within]

theorem State.charge_last (found : s.lrg.lot i = some r) (beyond : r.remaining < k) :
    State.charge c [i] k s = (lotPart r r.remaining ++ [{ lot := none, kg := k - r.remaining }],
      (s.setLot i (r.charged r.remaining)).setOverdrawn c true) := by
  simp only [State.charge, found, if_neg (Nat.not_le.mpr beyond), List.isEmpty_nil, if_true]

theorem State.charge_more (found : s.lrg.lot i = some r) (beyond : r.remaining < k) :
    State.charge c (i :: n :: rest) k s
      = (lotPart r r.remaining ++ (State.charge c (n :: rest) (k - r.remaining) (s.spend c i r)).1,
        (State.charge c (n :: rest) (k - r.remaining) (s.spend c i r)).2) := by
  rw [State.charge]
  simp only [found, if_neg (Nat.not_le.mpr beyond), List.isEmpty_cons, Bool.false_eq_true, if_false]
  rfl

end Charge

/-- A debit along the queue of its channel: the queue is empty, the head has enough, a lone head has less, or the
head is spent and the debit goes on. -/
theorem State.charge_induction {c : Chan} {P : List LotNo → Nat → State → List Part × State → Prop}
    (empty : ∀ k s, 1 ≤ k → s.lrg.Ordered → s.lrg.queues.get c = [] →
      P [] k s ([{ lot := none, kg := k }], s.setOverdrawn c true))
    (within : ∀ i rest k s r, 1 ≤ k → s.lrg.Ordered → s.lrg.queues.get c = i :: rest → s.lrg.lot i = some r →
      k ≤ r.remaining → P (i :: rest) k s (lotPart r k, s.setLot i (r.charged k)))
    (last : ∀ i k s r, 1 ≤ k → s.lrg.Ordered → s.lrg.queues.get c = [i] → s.lrg.lot i = some r → r.remaining < k →
      P [i] k s (lotPart r r.remaining ++ [{ lot := none, kg := k - r.remaining }],
        (s.setLot i (r.charged r.remaining)).setOverdrawn c true))
    (more : ∀ i rest k s r parts t, 1 ≤ k → s.lrg.Ordered → s.lrg.queues.get c = i :: rest → rest ≠ [] →
      s.lrg.lot i = some r → r.remaining < k →
      State.charge c rest (k - r.remaining) (s.spend c i r) = (parts, t) →
      P rest (k - r.remaining) (s.spend c i r) (parts, t) →
      P (i :: rest) k s (lotPart r r.remaining ++ parts, t))
    (q : List LotNo) (k : Nat) (s : State) (some : 1 ≤ k) (ordered : s.lrg.Ordered) (queue : s.lrg.queues.get c = q) :
    P q k s (State.charge c q k s) := by
  induction q generalizing k s with
  | nil => exact empty k s some ordered queue
  | cons i rest ih =>
    obtain ⟨r, found, -⟩ := ordered.queued c i (queue ▸ List.mem_cons_self)
    rcases Nat.lt_or_ge r.remaining k with beyond | enough
    · cases rest with
      | nil =>
        rw [State.charge_last found beyond]
        exact last i k s r some ordered queue found beyond
      | cons n rest =>
        rw [State.charge_more found beyond]
        exact more i _ k s r _ _ some ordered queue (List.cons_ne_nil _ _) found beyond rfl
          (ih _ _ (by omega) (ordered.spend found) ((State.spend_queue queue c).trans (if_pos rfl)))
    · rw [State.charge_within found enough]
      exact within i rest k s r some ordered queue found enough

end Sys2Proof.Machine
end

section
/-!
Proofs. The clauses of `DebitPartsAddUp`, each by the cases of a debit.
-/
set_option Elab.async false

namespace Sys2Proof.Machine

/-! ### The parts of a debit, for every state (R33) -/

theorem lotPart_mem {r : LotRecord} {kg : Nat} {x : Part} (mem : x ∈ lotPart r kg) :
    kg ≠ 0 ∧ x.kg = kg ∧ x.lot.isSome = true := by
  unfold lotPart at mem
  split at mem
  · cases mem
  next some =>
    split at mem <;> obtain rfl := List.mem_singleton.mp mem
    · exact ⟨some, rfl, rfl⟩
    · exact ⟨some, rfl, rfl⟩

theorem lotPart_analysed {r : LotRecord} {kg : Nat} {a : Analysis} (analysis : r.analysis = some a) {x : Part}
    (mem : x ∈ lotPart r kg) : x = ⟨some ⟨r.tag, r.kind, a.ncvAr, a.chlorine, a.sulfur⟩, kg⟩ := by
  unfold lotPart at mem
  split at mem
  · cases mem
  · rw [analysis] at mem
    exact List.mem_singleton.mp mem

theorem charge_ne_nil (c : Chan) (q : List LotNo) {k : Nat} (some : 1 ≤ k) (s : State) : (State.charge c q k s).1 ≠ [] :=
  fun none => by
    have sum := charge_sum c q k s
    rw [none] at sum
    simp at sum
    omega

/-- No part carries 0 kg, and an unassigned part stands last. -/
theorem charge_parts (c : Chan) (q : List LotNo) (k : Nat) (s : State) (some : 1 ≤ k) :
    (∀ x ∈ (State.charge c q k s).1, 1 ≤ x.kg) ∧ ∀ x ∈ (State.charge c q k s).1.dropLast, x.lot.isSome = true := by
  have lots {r : LotRecord} {kg : Nat} : (∀ x ∈ lotPart r kg, 1 ≤ x.kg) ∧ ∀ x ∈ lotPart r kg, x.lot.isSome = true :=
    ⟨fun x mem => by obtain ⟨pos, kg, -⟩ := lotPart_mem mem; omega, fun x mem => (lotPart_mem mem).2.2⟩
  have rest {n : Nat} (pos : 1 ≤ n) : (∀ x ∈ [(⟨none, n⟩ : Part)], 1 ≤ x.kg)
      ∧ ∀ x ∈ [(⟨none, n⟩ : Part)].dropLast, x.lot.isSome = true := ⟨by simpa using pos, nofun⟩
  have join {l m : List Part} (hl : (∀ x ∈ l, 1 ≤ x.kg) ∧ ∀ x ∈ l, x.lot.isSome = true) (ne : m ≠ [])
      (hm : (∀ x ∈ m, 1 ≤ x.kg) ∧ ∀ x ∈ m.dropLast, x.lot.isSome = true) :
      (∀ x ∈ l ++ m, 1 ≤ x.kg) ∧ ∀ x ∈ (l ++ m).dropLast, x.lot.isSome = true := by
    rw [List.dropLast_append_of_ne_nil ne]
    exact ⟨fun x mem => (List.mem_append.mp mem).elim (hl.1 x) (hm.1 x),
      fun x mem => (List.mem_append.mp mem).elim (hl.2 x) (hm.2 x)⟩
  induction q generalizing k s with
  | nil => exact rest some
  | cons h q ih =>
    unfold State.charge
    split
    · exact rest some
    next r _ =>
      split
      next => exact ⟨lots.1, fun x mem => lots.2 x (List.mem_of_mem_dropLast mem)⟩
      next beyond =>
        simp only
        split
        · exact join lots (List.cons_ne_nil _ _) (rest (by omega))
        · exact join lots (charge_ne_nil c q (by omega) _) (ih _ _ (by omega))

/-! ### What a debit leaves, where the queues are in order -/

section Debit

variable {c : Chan} {q : List LotNo} {k : Nat} {s : State} (some : 1 ≤ k) (ordered : s.lrg.Ordered)
  (queue : s.lrg.queues.get c = q)

/-- Condition and mark stay in step. -/
theorem MarkFollows.charge (c : Chan) (q : List LotNo) (k : Nat) (s : State) :
    MarkFollows c s (State.charge c q k s).2 := by
  have written (i : LotNo) (r : LotRecord) (u : State) : MarkFollows c u (u.setLot i r) := .inl ⟨rfl, rfl⟩
  induction q generalizing k s with
  | nil => exact setOverdrawn ..
  | cons h q ih =>
    unfold State.charge
    split
    · exact setOverdrawn ..
    · split
      · exact written ..
      · simp only
        split
        · exact (written ..).trans (setOverdrawn ..)
        · exact ((written ..).trans (succession ..)).trans (ih _ _)

include some ordered queue

/-- The other queues and marks stay. -/
theorem State.charge_others {d : Chan} (ne : d ≠ c) :
    (State.charge c q k s).2.lrg.queues.get d = s.lrg.queues.get d
    ∧ (State.charge c q k s).2.lrg.overdrawn.get d = s.lrg.overdrawn.get d := by
  refine State.charge_induction (P := fun _ _ s out => out.2.lrg.queues.get d = s.lrg.queues.get d
    ∧ out.2.lrg.overdrawn.get d = s.lrg.overdrawn.get d) ?empty ?within ?last ?more q k s some ordered queue
  case empty => exact fun k s _ _ _ => ⟨by rw [State.setOverdrawn_queues], by rw [State.setOverdrawn_mark, if_neg ne]⟩
  case within => exact fun _ _ _ _ _ _ _ _ _ _ => ⟨rfl, rfl⟩
  case last =>
    intro i k s r _ _ _ _ _
    exact ⟨by rw [State.setOverdrawn_queues]; rfl, by rw [State.setOverdrawn_mark, if_neg ne]; rfl⟩
  case more =>
    intro i rest k s r parts t _ h queue _ found _ _ ih
    obtain ⟨queues, mark⟩ := ih
    refine ⟨queues.trans ((State.spend_queue queue d).trans (if_neg ne)), mark.trans ?_⟩
    rw [State.spend_mark h queue found, if_neg (fun e => ne e.1)]

/-- A lot outside the queue stays. -/
theorem State.charge_outside {j : LotNo} (out : j ∉ q) :
    (State.charge c q k s).2.lrg.lots.get j = s.lrg.lots.get j := by
  refine State.charge_induction (P := fun q _ s out => j ∉ q → out.2.lrg.lots.get j = s.lrg.lots.get j)
    ?empty ?within ?last ?more q k s some ordered queue out
  case empty => exact fun k s _ _ _ _ => by rw [State.setOverdrawn_lots]
  case within =>
    intro i rest k s r _ _ _ _ _ out
    exact (State.setLot_slot ..).trans (if_neg (fun e => out (List.mem_cons.mpr (.inl e))))
  case last =>
    intro i k s r _ _ _ _ _ out
    rw [State.setOverdrawn_lots]
    exact (State.setLot_slot ..).trans (if_neg (fun e => out (List.mem_cons.mpr (.inl e))))
  case more =>
    intro i rest k s r parts t _ h queue _ found _ _ ih out
    exact (ih fun mem => out (List.mem_cons_of_mem i mem)).trans (State.spend_slot_outside h queue found out)

/-- The mark is set where the queue has less than the debit, and cleared where a next head with mass took over. -/
theorem State.charge_mark : (State.charge c q k s).2.lrg.overdrawn.get c
    = if s.lrg.mass q < k then true else if s.lrg.mass (q.take 1) < k then false else s.lrg.overdrawn.get c := by
  refine State.charge_induction (P := fun q k s out => out.2.lrg.overdrawn.get c
    = if s.lrg.mass q < k then true else if s.lrg.mass (q.take 1) < k then false else s.lrg.overdrawn.get c)
    ?empty ?within ?last ?more q k s some ordered queue
  case empty =>
    intro k s some _ _
    rw [LotRegistry.mass_nil, if_pos (by omega), State.setOverdrawn_mark, if_pos rfl]
  case within =>
    intro i rest k s r some h queue found enough
    rw [List.take_succ_cons, List.take_zero, LotRegistry.mass_cons found, LotRegistry.mass_cons found,
      if_neg (by omega), if_neg (by omega)]
    rfl
  case last =>
    intro i k s r some h queue found beyond
    rw [LotRegistry.mass_cons found, LotRegistry.mass_nil, if_pos (by omega), State.setOverdrawn_mark, if_pos rfl]
  case more =>
    intro i rest k s r parts t some h queue _ found beyond _ ih
    rw [State.spend_mass h queue found (fun _ mem => mem),
      State.spend_mass h queue found (fun _ mem => List.mem_of_mem_take mem), State.spend_mark h queue found] at ih
    rw [List.take_succ_cons, List.take_zero, LotRegistry.mass_cons found, LotRegistry.mass_cons found,
      LotRegistry.mass_nil, if_pos (show r.remaining + 0 < k by omega), ih]
    by_cases short : s.lrg.mass rest < k - r.remaining
    · rw [if_pos short, if_pos (by omega)]
    · rw [if_neg short, if_neg (show ¬r.remaining + s.lrg.mass rest < k by omega)]
      by_cases first : s.lrg.mass (rest.take 1) < k - r.remaining
      · rw [if_pos first]
      · rw [if_neg first, if_pos ⟨rfl, by omega⟩]

/-- An unassigned part carries what the queue has not. -/
theorem State.charge_unassigned {x : Part} (mem : x ∈ (State.charge c q k s).1) (unassigned : x.lot = none) :
    x.kg = k - s.lrg.mass q := by
  have lots {r : LotRecord} {kg : Nat} (mem : x ∈ lotPart r kg) : False := by
    have assigned := (lotPart_mem mem).2.2
    rw [unassigned] at assigned
    cases assigned
  refine State.charge_induction (P := fun q k s out => x ∈ out.1 → x.kg = k - s.lrg.mass q)
    ?empty ?within ?last ?more q k s some ordered queue mem
  case empty =>
    intro k s _ _ _ mem
    obtain rfl := List.mem_singleton.mp mem
    rfl
  case within => exact fun _ _ _ _ _ _ _ _ _ _ mem => (lots mem).elim
  case last =>
    intro i k s r _ _ _ found _ mem
    rw [LotRegistry.mass_cons found]
    rcases List.mem_append.mp mem with mem | mem
    · exact (lots mem).elim
    · obtain rfl := List.mem_singleton.mp mem
      rfl
  case more =>
    intro i rest k s r parts t _ h queue _ found _ _ ih mem
    rw [State.spend_mass h queue found (fun _ mem => mem)] at ih
    rw [LotRegistry.mass_cons found]
    rcases List.mem_append.mp mem with mem | mem
    · exact (lots mem).elim
    · have := ih mem
      omega

omit some ordered queue in
/-- A head that is spent stays as its spending left it. -/
theorem State.charge_spent {i : LotNo} {r : LotRecord} {rest : List LotNo} {out : List Part × State}
    (h : s.lrg.Ordered) (queue : s.lrg.queues.get c = i :: rest) (found : s.lrg.lot i = .some r)
    (beyond : r.remaining < k) (run : State.charge c rest (k - r.remaining) (s.spend c i r) = out) :
    out.2.lrg.lots.get i
      = { s.lrg.lots.get i with record := .some { r.charged r.remaining with state := .exhausted } } := by
  subst run
  exact (State.charge_outside (by omega) (h.spend found) ((State.spend_queue queue c).trans (if_pos rfl))
    (fun mem => (h.next_lot queue mem).1 rfl)).trans (State.spend_slot_self h queue found)

/-- The queue keeps the lots that are not exhausted. -/
theorem State.charge_queue : (State.charge c q k s).2.lrg.queues.get c
    = q.filter fun h => ((State.charge c q k s).2.lrg.lot h).any fun r => r.state != .exhausted := by
  have stays {t : State} {q : List LotNo} (h : t.lrg.Ordered) (queue : t.lrg.queues.get c = q) :
      t.lrg.queues.get c = q.filter fun h => (t.lrg.lot h).any fun r => r.state != .exhausted := by
    refine queue.trans (List.filter_eq_self.mpr fun j mem => ?_).symm
    obtain ⟨y, lot, -⟩ := h.queued c j (queue ▸ mem)
    rw [lot]
    rcases (h.placed_iff lot).mpr ⟨c, queue ▸ mem⟩ with e | e <;> simp [e]
  refine State.charge_induction (P := fun q _ s out => out.2.lrg.queues.get c
    = q.filter fun h => (out.2.lrg.lot h).any fun r => r.state != .exhausted)
    ?empty ?within ?last ?more q k s some ordered queue
  case empty =>
    intro k s _ h queue
    exact stays (h.setOverdrawn c true) (by rw [State.setOverdrawn_queues]; exact queue)
  case within => exact fun i rest k s r _ h queue found _ => stays (h.setLot found id (.inl rfl)) queue
  case last =>
    intro i k s r _ h queue found _
    have written : (s.setLot i (r.charged r.remaining)).lrg.Ordered := h.setLot found id (.inl rfl)
    exact stays (written.setOverdrawn c true) (by rw [State.setOverdrawn_queues]; exact queue)
  case more =>
    intro i rest k s r parts t some h queue _ found beyond run ih
    have spent := State.charge_spent h queue found beyond run
    refine ih.trans (List.filter_cons_of_neg ?_).symm
    rw [LotRegistry.lot, spent]
    exact nofun

end Debit

/-! ### What a debit takes of a lot of the queue -/

/-- A lot's record where `n` kilograms are asked of it and the lots `b` stand behind it (R34). -/
def LotRecord.asked (n : Nat) (b : List LotNo) (r : LotRecord) : LotRecord :=
  { r with
    remaining := r.remaining - n
    debited := min 4294967295 (r.debited + min r.remaining n)
    state := if b ≠ [] ∧ r.remaining < n then .exhausted else .drawing }

theorem LotRecord.asked_within {r : LotRecord} {n : Nat} (b : List LotNo) (draws : r.state = .drawing)
    (enough : n ≤ r.remaining) : r.asked n b = r.charged n := by
  unfold LotRecord.asked LotRecord.charged
  rw [if_neg (fun no => by omega), Nat.min_eq_right enough, ← draws]
  rfl

theorem LotRecord.asked_last {r : LotRecord} {n : Nat} (draws : r.state = .drawing) (beyond : r.remaining < n) :
    r.asked n [] = r.charged r.remaining := by
  have all : min r.remaining n = r.remaining := Nat.min_eq_left (by omega)
  unfold LotRecord.asked LotRecord.charged
  rw [if_neg (fun no => no.1 rfl), all, ← draws, Nat.sub_self, Nat.sub_eq_zero_of_le (by omega)]
  rfl

theorem LotRecord.asked_beyond {r : LotRecord} {n : Nat} {b : List LotNo} (more : b ≠ []) (beyond : r.remaining < n) :
    r.asked n b = { r.charged r.remaining with state := .exhausted } := by
  have all : min r.remaining n = r.remaining := Nat.min_eq_left (by omega)
  unfold LotRecord.asked LotRecord.charged
  rw [if_pos ⟨more, beyond⟩, all, Nat.sub_self, Nat.sub_eq_zero_of_le (by omega)]
  rfl

/-- Each lot of the queue is asked for what the lots before it have not, and stays where they have it all. -/
theorem State.charge_slot {c : Chan} {q : List LotNo} {k : Nat} {s : State} (some : 1 ≤ k) (ordered : s.lrg.Ordered)
    (queue : s.lrg.queues.get c = q) {a b : List LotNo} {j : LotNo} {y : LotRecord} (place : q = a ++ j :: b)
    (lot : s.lrg.lot j = .some y) :
    (s.lrg.mass a < k → (State.charge c q k s).2.lrg.lots.get j
      = { s.lrg.lots.get j with record := .some (y.asked (k - s.lrg.mass a) b) })
    ∧ (k ≤ s.lrg.mass a → (State.charge c q k s).2.lrg.lots.get j = s.lrg.lots.get j) := by
  refine State.charge_induction (P := fun q k s out => ∀ a y, q = a ++ j :: b → s.lrg.lot j = .some y →
    (s.lrg.mass a < k → out.2.lrg.lots.get j
      = { s.lrg.lots.get j with record := .some (y.asked (k - s.lrg.mass a) b) })
    ∧ (k ≤ s.lrg.mass a → out.2.lrg.lots.get j = s.lrg.lots.get j))
    ?empty ?within ?last ?more q k s some ordered queue a y place lot
  case empty => exact fun k s _ _ _ a y place _ => absurd place (by simp)
  case within =>
    intro i rest k s r some h queue found enough a y place lot
    rw [State.setLot_slot]
    cases a with
    | nil =>
      obtain ⟨rfl, rfl⟩ := List.cons.inj place
      cases found.symm.trans lot
      rw [LotRegistry.mass_nil, if_pos rfl, Nat.sub_zero, LotRecord.asked_within _ (h.head_drawing queue found) enough]
      exact ⟨fun _ => rfl, fun no => absurd no (by omega)⟩
    | cons d a =>
      obtain ⟨rfl, behind⟩ := List.cons.inj place
      have ne := (h.next_lot queue (n := j) (by simp [behind])).1
      rw [LotRegistry.mass_cons found, if_neg ne.symm]
      exact ⟨fun no => absurd no (by omega), fun _ => rfl⟩
  case last =>
    intro i k s r some h queue found beyond a y place lot
    obtain ⟨rfl, rfl, rfl⟩ : a = [] ∧ i = j ∧ b = [] := by
      cases a <;> simp at place
      exact ⟨rfl, place⟩
    cases found.symm.trans lot
    rw [State.setOverdrawn_lots, State.setLot_slot, LotRegistry.mass_nil, if_pos rfl, Nat.sub_zero,
      LotRecord.asked_last (h.head_drawing queue found) beyond]
    exact ⟨fun _ => rfl, fun no => absurd no (by omega)⟩
  case more =>
    intro i rest k s r parts t some h queue more found beyond run ih a y place lot
    cases a with
    | nil =>
      obtain ⟨rfl, rfl⟩ := List.cons.inj place
      cases found.symm.trans lot
      have spent := State.charge_spent h queue found beyond run
      rw [LotRegistry.mass_nil, Nat.sub_zero, LotRecord.asked_beyond more beyond]
      exact ⟨fun _ => spent, fun no => absurd no (by omega)⟩
    | cons d a =>
      obtain ⟨rfl, behind⟩ := List.cons.inj place
      obtain ⟨x, slot, lot'⟩ := State.spend_behind h queue found (j := j) (by simp [behind]) lot
      obtain ⟨asked, stays⟩ := ih a _ behind lot'
      rw [State.spend_mass h queue found (fun n mem => by simp [behind, mem])] at asked stays
      rw [LotRegistry.mass_cons found]
      refine ⟨fun short => ?_, fun whole => ?_⟩
      · rw [asked (by omega), slot, show k - (r.remaining + s.lrg.mass a) = k - r.remaining - s.lrg.mass a by omega]
        rfl
      · have later : rest.head? ≠ .some j := fun first => by
          have once := h.once c
          cases a with
          | nil =>
            rw [LotRegistry.mass_nil] at whole
            omega
          | cons e a =>
            rw [queue, behind] at once
            rw [behind] at first
            cases first
            simp at once
        rw [stays (by omega), State.spend_slot h queue found, if_neg (h.next_lot queue (by simp [behind])).1.symm,
          if_neg later]

/-! ### The lot parts -/

/-- A part is of the lot in slot `j`: it carries what identifies the lot before, and what the lot lost. -/
def PartOf (x : Part) (j : LotNo) (s t : State) : Prop :=
  ∃ r r' a, s.lrg.lot j = some r ∧ t.lrg.lot j = some r' ∧ r.analysis = some a
    ∧ x.lot = some ⟨r.tag, r.kind, a.ncvAr, a.chlorine, a.sulfur⟩ ∧ r'.remaining + x.kg = r.remaining

/-- The part of a lot that is charged. -/
theorem partOf_charged {s t : State} {j : LotNo} {r : LotRecord} {kg : Nat} {st : LotState} {x : Part}
    (found : s.lrg.lot j = some r) (analysed : r.analysis.isSome) (within : kg ≤ r.remaining)
    (after : t.lrg.lot j = some { r.charged kg with state := st }) (mem : x ∈ lotPart r kg) : PartOf x j s t := by
  obtain ⟨a, analysis⟩ := Option.isSome_iff_exists.mp analysed
  obtain rfl := lotPart_analysed analysis mem
  exact ⟨r, _, a, found, after, analysis, rfl, Nat.sub_add_cancel within⟩

/-- Each part that carries a lot is of a lot of the queue. -/
theorem State.charge_assigned {c : Chan} {q : List LotNo} {k : Nat} {s : State} (some : 1 ≤ k)
    (ordered : s.lrg.Ordered) (queue : s.lrg.queues.get c = q) {x : Part} (mem : x ∈ (State.charge c q k s).1)
    (assigned : x.lot.isSome = true) : ∃ j ∈ q, PartOf x j s (State.charge c q k s).2 := by
  have analysed {s : State} {i : LotNo} {rest : List LotNo} {r : LotRecord} (h : s.lrg.Ordered)
      (queue : s.lrg.queues.get c = i :: rest) (found : s.lrg.lot i = .some r) : r.analysis.isSome = true := by
    obtain ⟨y, lot, analysed, -⟩ := h.queued c i (queue ▸ List.mem_cons_self)
    cases found.symm.trans lot
    exact analysed
  refine State.charge_induction (P := fun q k s out => x ∈ out.1 → ∃ j ∈ q, PartOf x j s out.2)
    ?empty ?within ?last ?more q k s some ordered queue mem
  case empty =>
    intro k s _ _ _ mem
    obtain rfl := List.mem_singleton.mp mem
    cases assigned
  case within =>
    intro i rest k s r _ h queue found enough mem
    exact ⟨i, List.mem_cons_self, partOf_charged found (analysed h queue found) enough (State.setLot_lot_self ..) mem⟩
  case last =>
    intro i k s r _ h queue found beyond mem
    rcases List.mem_append.mp mem with mem | mem
    · exact ⟨i, List.mem_cons_self, partOf_charged found (analysed h queue found) (Nat.le_refl _)
        ((State.setOverdrawn_lot ..).trans (State.setLot_lot_self ..)) mem⟩
    · obtain rfl := List.mem_singleton.mp mem
      cases assigned
  case more =>
    intro i rest k s r parts t _ h queue _ found beyond run ih mem
    have spent := State.charge_spent h queue found beyond run
    rcases List.mem_append.mp mem with mem | mem
    · exact ⟨i, List.mem_cons_self, partOf_charged found (analysed h queue found) (Nat.le_refl _)
        (congrArg LotSlot.record spent) mem⟩
    · obtain ⟨j, behind, y, y', a, lot, after, analysis, figures, lost⟩ := ih mem
      obtain ⟨-, z, lot'⟩ := h.next_lot queue behind
      obtain ⟨st, -, spentLot⟩ := State.spend_behind h queue found behind lot'
      cases spentLot.symm.trans lot
      exact ⟨j, List.mem_cons_of_mem i behind, z, y', a, lot', after, analysis, figures, lost⟩

/-- Settles O12: every clause is followed along the cases of a debit. -/
theorem debitPartsAddUp : Obligations.DebitPartsAddUp := by
  refine ⟨fun c k s some => ⟨charge_sum .., charge_parts c _ k s some⟩, fun c k s some ordered => ?_⟩
  have others {d : Chan} (ne : d ≠ c) := State.charge_others some ordered rfl ne
  refine ⟨fun a h b r place found => ⟨fun short => ?_, fun whole => ?_⟩, fun i out => ?_,
    State.charge_queue some ordered rfl, fun d ne => others ne, State.charge_mark some ordered rfl, fun changed => ?_,
    fun x mem none => State.charge_unassigned some ordered rfl mem none, fun x mem g lot => ?_⟩
  · refine ((State.charge_slot some ordered rfl place found).1 short).trans ?_
    simp only [LotRecord.asked, Nat.lt_sub_iff_add_lt']
    rfl
  · exact (State.charge_slot some ordered rfl place found).2 whole
  · exact State.charge_outside some ordered rfl out
  · exact (MarkFollows.charge c _ k s).resolve_left fun same => changed same.1
  · obtain ⟨j, behind, r, r', a, found, after, analysis, figures, lost⟩ :=
      State.charge_assigned some ordered rfl mem (Option.isSome_iff_exists.mpr ⟨g, lot⟩)
    exact ⟨j, behind, r, r', a, found, after, analysis, Option.some.inj (lot.symm.trans figures), lost⟩

end Sys2Proof.Machine
end
